-- ==== Sys2Proof/Word.lean ====
section
/-! DEFINITION. The words of the DB-640's interfaces, the index types of its tables, and the types of the operands that
commands carry (12_formats.md, R185 to R189). -/

namespace Sys2Proof

/-- One byte of a message, an envelope or the sideband window. -/
abbrev Byte := BitVec 8

/-- A 32-byte secret, salt, band key or revert code. -/
abbrev Secret := BitVec 256

/-- A band index, 0 to 15 (R1). -/
abbrev BandId := Fin 16

/-- A credential slot index, 0 to 7 (R93): 0 ADMIN, 1 to 6 USER1 to USER6, 7 PLATFORM. -/
abbrev SlotId := Fin 8

/-- A page of the Key Store, 0 to 52 (R155). -/
abbrev PageId := Fin 53

/-- A scrub order slot or a result record, 0 to 3 (R136). -/
abbrev OrderSlot := Fin 4

/-- A set of bands: band b at bit b (R185). -/
abbrev BandSet := BitVec 16

/-- One value delivered by the Entropy Source, or none where the delivered value failed its test (R91). -/
abbrev Draw := Option Secret

/-- The table with entry `i` replaced. -/
def put {α : Type} {n : Nat} (v : Vector α n) (i : Fin n) (x : α) : Vector α n :=
  v.set i.val x i.isLt

/-- A table of sixteen entries from a function of the index. -/
def tab16 {α : Type} (f : BandId → α) : Vector α 16 :=
  #v[f 0, f 1, f 2, f 3, f 4, f 5, f 6, f 7, f 8, f 9, f 10, f 11, f 12, f 13, f 14, f 15]

/-- A table of eight entries from a function of the index. -/
def tab8 {α : Type} (f : SlotId → α) : Vector α 8 :=
  #v[f 0, f 1, f 2, f 3, f 4, f 5, f 6, f 7]

/-- The sixteen bands in index order. -/
def allBands : List BandId := [0, 1, 2, 3, 4, 5, 6, 7, 8, 9, 10, 11, 12, 13, 14, 15]

/-- The bands 1 to 15, which have explicit ranges (R1). -/
def rangedBands : List BandId := [1, 2, 3, 4, 5, 6, 7, 8, 9, 10, 11, 12, 13, 14, 15]

/-- The eight slots in index order. -/
def allSlots : List SlotId := [0, 1, 2, 3, 4, 5, 6, 7]

/-- The four order slots, lowest first. -/
def allOrders : List OrderSlot := [0, 1, 2, 3]

/-- The port a request comes by (R80). -/
inductive Port where
  | link
  | side
deriving DecidableEq, Repr

/-- The two cipher lanes. -/
inductive LaneId where
  | a
  | b
deriving DecidableEq, Repr

/-- Argument group 1 of UNLOCK and TOKEN_UNLOCK (R189). -/
structure UnlockArgs where
  bands : BitVec 32
  directions : Byte
deriving DecidableEq, Repr

/-- Argument group 1 of SET_CRED (R189). -/
structure LimitArgs where
  target : Byte
  hard : Byte
  free : Byte
  base : Byte
  cap : BitVec 32
deriving DecidableEq, Repr

/-- Argument group 1 of GRANT and REVOKE (R189). -/
structure RowArgs where
  target : Byte
  bands : BitVec 32
deriving DecidableEq, Repr

/-- Argument group 1 of BAND_SET (R189). -/
structure BandArgs where
  band : Byte
  enables : Byte
  relock : Byte
  start : BitVec 48
  length : BitVec 48
deriving DecidableEq, Repr

/-- The lane group of DRIVE_SET (R189). -/
structure LaneArgs where
  mode : Byte
  split : BitVec 48
deriving DecidableEq, Repr

/-- The cover group of DRIVE_SET (R189). -/
structure CoverArgs where
  length : BitVec 32
  band : Byte
deriving DecidableEq, Repr

/-- The tether group of DRIVE_SET (R189). -/
structure TetherArgs where
  period : BitVec 16
  tolerance : BitVec 16
  filter : Byte
deriving DecidableEq, Repr

/-- Argument group 1 of WATCH_ARM (R189). -/
structure WatchArgs where
  indicators : Byte
  period : Byte
  grace : BitVec 16
  action : Byte
  passes : Byte
  budget : Byte
deriving DecidableEq, Repr

/-- What an envelope asks, by its kind, each part of the envelope that the kind reads present or absent (R80, R189).
`undefined` is an envelope whose kind code names no kind. -/
inductive Body where
  | unlock (slot : Option Byte) (secret : Option Secret) (args : Option UnlockArgs)
  | tokenUnlock (secret : Option Secret) (args : Option UnlockArgs)
  | lock (bands : Option (BitVec 32))
  | own (new : Option Secret)
  | setCred (secret : Option Secret) (args : Option LimitArgs) (new : Option Secret)
  | grant (secret : Option Secret) (args : Option RowArgs) (target : Option Secret)
  | revoke (secret : Option Secret) (args : Option RowArgs)
  | bandSet (secret : Option Secret) (args : Option BandArgs)
  | bandErase (secret : Option Secret) (band : Option Byte)
  | driveSet (secret : Option Secret) (lane : Option LaneArgs) (cover : Option CoverArgs) (tether : Option TetherArgs)
  | coverOpen (secret : Option Secret)
  | coverClose
  | watchArm (secret : Option Secret) (args : Option WatchArgs)
  | watchDisarm (secret : Option Secret)
  | watchRecover (secret : Option Secret)
  | remoteWipe (secret : Option Secret)
  | wipeNow (secret : Option Secret) (passes : Option Byte)
  | scrubStop (secret : Option Secret)
  | revert (code : Option Secret)
  | statusQuery
  | undefined (kind : Byte)
deriving DecidableEq, Repr

/-- A request envelope (R80): the id its sender chose, and what it asks. -/
structure Envelope where
  id : BitVec 16
  body : Body
deriving DecidableEq, Repr

end Sys2Proof
end

