-- ==== Sys2Proof/Config.lean ====
section
/-! DEFINITION. What the manual fixes for every DB-640, the terms that stand for derived values, and the functions it leaves
opaque (00_scope.md: the cipher and the derivation function are opaque keyed functions). -/

namespace Sys2Proof

/-- What a wrap was made under (R10, R95): a credential secret with its slot's salt, or the root secret. -/
inductive WrapUnder where
  | credential (secret salt : Secret)
  | root (secret : Secret)
deriving DecidableEq, Repr

/-- A wrapped band key: which key it wraps and under which key (00_scope.md, R9). DESIGN CHOICE (entry 4). -/
structure Wrap where
  key : Secret
  under : WrapUnder
deriving DecidableEq, Repr

/-- A verifier, held as what it was derived from (R93). DESIGN CHOICE (entry 4). -/
structure Verifier where
  secret : Secret
  salt : Secret
deriving DecidableEq, Repr

/-- A key of the Live Key Table, held as what it was derived or drawn from (R9, R13). DESIGN CHOICE (entry 4). -/
inductive MediaKey where
  | media (root bandKey bandSecret : Secret)
  | cover (root : Secret)
  | fill (drawn : Secret)
deriving DecidableEq, Repr

namespace Config

/-- Byte `i` of what enciphering a sector under a key with a tweak gives: free (entry 5). -/
opaque encipherByte : MediaKey → Nat → List Byte → Nat → Byte

/-- Byte `i` of what deciphering a sector under a key with a tweak gives: free (entry 5). -/
opaque decipherByte : MediaKey → Nat → List Byte → Nat → Byte

/-- What unwrapping a wrap under something other than what it was made under gives: free (entry 24). -/
opaque unwrapOther : Wrap → WrapUnder → Secret

/-- The band key an operation works with where the wrap it needs is absent: free (entry 24). -/
opaque absentWrapKey : BandId → WrapUnder → Secret

/-- What DERIVE_MEDIA and an open wrap take for the root secret where the working copy holds none: free (entry 50). -/
opaque rootless : Secret

/-- The cover area holds 131,072 sectors (R21). -/
def coverArea : Nat := 131072

/-- The data-wait timer's start, in ticks (R56). -/
def dataWait : Nat := 256

/-- The outbound length at which the inbound direction is held (R66). -/
def holdLimit : Nat := 64

/-- The waiting segments a lane queue holds (R40). -/
def laneRoom : Nat := 16

/-- The transfers the Descriptor Queue holds (R70). -/
def dqRoom : Nat := 32

/-- The entries the store write queue holds (R157). -/
def storeRoom : Nat := 16

/-- Ticks between grace checkpoints and sectors between scrub checkpoints (R133, R146). -/
def checkpoint : Nat := 65536

/-- The count at which the Tether Meter overflows (R127). -/
def meterTop : Nat := 65535

/-- Oscillator cycles in a tick (R183). -/
def cyclesPerTick : Nat := 32

/-- Ticks in a second (R183). -/
def ticksPerSecond : Nat := 1024

/-- The top of the check-in counter (R123). -/
def counterTop : Nat := 4294967295

/-- The top of the pass counts (R136). -/
def passCountTop : Nat := 281474976710655

end Config

end Sys2Proof
end

