-- ==== Sys2Proof/Syntax.lean ====
section
/-! DEFINITION. The commands of the DB-640: one constructor for each row of spec/opcode_table.json, with the operands the
row's rule gives it. -/

namespace Sys2Proof

/-- The part's steps, each whole and indivisible (spec/opcode_table.json, 95_what_each_step_holds.md). -/
inductive Instr where
  /-- POWER_ON, with the level of ADDR_SEL. -/
  | powerOn (addrSel : Bool)
  /-- POWER_LOSS; `inErase` says that a page write in progress was cut within its erase. -/
  | powerLoss (inErase : Bool)
  | resetnAssert
  /-- RESETN_RELEASE, with the level of ADDR_SEL and what the entropy health test would find. -/
  | resetnRelease (addrSel entropyGood : Bool)
  | startupKeyJobComplete
  | startupDrawJobComplete (draws : List Draw)
  /-- TICK, with the TAMPER level, the supply comparator (high: not below the threshold) and the entropy test. -/
  | tick (tamperHigh supplyHigh entropyGood : Bool)
  | dataTimeout (lane : LaneId)
  | backoffEnd (slot : SlotId)
  | checkinPeriodReached
  | graceExpired
  /-- TETHER_EDGE at the given oscillator cycle of the present tick period. -/
  | tetherEdge (cycle : Nat)
  | tetherOverflow
  | descriptor (kind tag stream : Byte) (first : BitVec 48) (count : BitVec 16) (order : Byte)
  | plainSector (tag : Byte) (address : BitVec 48) (data : List Byte)
  | cipherSector (tag : Byte) (address : BitVec 48) (data : List Byte)
  | scrubRefuse (order : Byte)
  | linkReset
  | malformedMessage (bytes : List Byte)
  | sendMessage
  | translatePiece
  | translationResume
  | fillSector (lane : LaneId)
  | unlock (id : BitVec 16) (slot : Option Byte) (secret : Option Secret) (args : Option UnlockArgs)
  | tokenUnlock (id : BitVec 16) (secret : Option Secret) (args : Option UnlockArgs)
  | lock (id : BitVec 16) (bands : Option (BitVec 32))
  | own (id : BitVec 16) (new : Option Secret)
  | setCred (id : BitVec 16) (secret : Option Secret) (args : Option LimitArgs) (new : Option Secret)
  | grant (id : BitVec 16) (secret : Option Secret) (args : Option RowArgs) (target : Option Secret)
  | revoke (id : BitVec 16) (secret : Option Secret) (args : Option RowArgs)
  | bandSet (id : BitVec 16) (secret : Option Secret) (args : Option BandArgs)
  | bandErase (id : BitVec 16) (secret : Option Secret) (band : Option Byte)
  | driveSet (id : BitVec 16) (secret : Option Secret) (lane : Option LaneArgs) (cover : Option CoverArgs)
      (tether : Option TetherArgs)
  | coverOpen (id : BitVec 16) (secret : Option Secret)
  | coverClose (id : BitVec 16)
  | watchArm (id : BitVec 16) (secret : Option Secret) (args : Option WatchArgs)
  | watchDisarm (id : BitVec 16) (secret : Option Secret)
  | watchRecover (id : BitVec 16) (secret : Option Secret)
  | remoteWipe (id : BitVec 16) (secret : Option Secret)
  | wipeNow (id : BitVec 16) (secret : Option Secret) (passes : Option Byte)
  | scrubStop (id : BitVec 16) (secret : Option Secret)
  | revert (id : BitVec 16) (code : Option Secret)
  | statusQuery (port : Port) (id : BitVec 16)
  | requestBadKind (port : Port) (id : BitVec 16) (kind : Byte)
  | verifyJobComplete
  | unlockJobComplete
  | ownJobComplete (salt : Draw)
  | setCredJobComplete (salt : Draw)
  | setCredAdminJobComplete (salt : Draw)
  | grantJobComplete
  | bandSetJobComplete
  | bandSetRangeJobComplete (secret : Draw)
  | bandEraseJobComplete (secret : Draw)
  | watchRecoverJobComplete
  | checkinCompareComplete
  | rootJobComplete (root : Draw)
  | coverZeroJobComplete
  | rebuildRootJobComplete (root : Draw)
  | rebuildAdminJobComplete (salt : Draw)
  | rebuildBandJobComplete (secret key : Draw)
  | fillKeyJobComplete (key : Draw)
  | openLoadJobComplete
  | pageWriteComplete
  | suspend
  | lidClosed
  | lockAll
  | checkinStrobe
  | pointerSet (value : Byte)
  | registerWrite (value : Byte)
  | reportPageSelect (value : Byte)
  | noticeByteRead
  | latchedRead
  | resultRecordRead (record : OrderSlot)
deriving DecidableEq, Repr

end Sys2Proof
end

