-- ==== Sys2Proof/Machine/State.lean ====
section
/-! DEFINITION. The state of the DB-640, as plain data, block by block, and the state right after power-on. -/

namespace Sys2Proof.Machine

/-! ## Reasons to stop -/

/-- No command of the DB-640 faults: the manual gives every command an effect in every state (INVENTORY.md, Faults).
Raised by nothing; an empty type is safe, for no claim can rest on a fault. -/
inductive Fault where
deriving DecidableEq, Repr

/-- The reasons a command has no meaning. -/
inductive Refusal where
  /-- Raised by an arm of `exec` whose command has no meaning yet: none is left. Safe: the model stops. -/
  | notModelled (mnemonic : String)
deriving DecidableEq, Repr

/-! ## Names of states, statuses and settings (R185 codes them) -/

/-- The theft state (R115, R116). -/
inductive Theft where
  | dormant | armed | suspect | alarm | wiping | wiped
deriving DecidableEq, Repr

/-- The indicators (R122). -/
inductive Indicator where
  | checkin | tether | tamper | budget
deriving DecidableEq, Repr

/-- A set of indicators, by the bits of R185: CHECKIN 0, TETHER 1, TAMPER 2, BUDGET 3. -/
abbrev IndicatorSet := BitVec 4

/-- The relock events (R6). -/
inductive Relock where
  | suspend | lidClosed | linkReset | tetherLost
deriving DecidableEq, Repr

/-- A set of relock events, by the bits of R185: SUSPEND 0, LID_CLOSED 1, LINK_RESET 2, TETHER_LOST 3. -/
abbrev RelockSet := BitVec 4

/-- What the alarm does (R118). -/
inductive Action where
  | lockdown | wipe
deriving DecidableEq, Repr

/-- The wipe causes (R135). -/
inductive Cause where
  | theft | remote | owner | revert | storeLoss
deriving DecidableEq, Repr

/-- The wipe phases (R136). -/
inductive Phase where
  | root | rebuild | scrub | done
deriving DecidableEq, Repr

/-- The number of scrub passes (R136). -/
inductive Passes where
  | times (n : Fin 4)
  | continuous
deriving DecidableEq, Repr

/-- How a result ended (R149). -/
inductive Ended where
  | complete | stopped | abandoned
deriving DecidableEq, Repr

/-- The lane modes (R59). -/
inductive LaneMode where
  | single | stripe | split | stream
deriving DecidableEq, Repr

/-- The slot states (R94). -/
inductive SlotState where
  | blank | empty | set | disabled
deriving DecidableEq, Repr

/-- The check-in statuses (R125, R126). -/
inductive CheckinStatus where
  | none | pending | good | bad | ignoredState | ignoredSlot | ignoredBackoff | ignoredPower
deriving DecidableEq, Repr

/-- The transfer statuses (R185). -/
inductive TStatus where
  | ok | locked | covered | alarm | wiping | outOfRange | badDescriptor | dupTag | queueFull | badOrder
  | reconfigured | dataTimeout | sequenceError
deriving DecidableEq, Repr

/-- The request statuses (R185). -/
inductive RStatus where
  | ok | authFailed | wait | slotEmpty | slotDisabled | denied | badArgument | badRange | busy | lowPower
  | noEntropy | notBlank | notArmed
deriving DecidableEq, Repr

/-! ## Pages of the Key Store (R155) -/

/-- The identity page: page 0. -/
structure Identity where
  capacity : Nat
  /-- The 4,096-byte sector format; else 512 bytes. -/
  largeSectors : Bool
  serial : Nat
  revertCode : Secret
deriving DecidableEq, Repr

/-- The drive configuration page: page 2 (R20, R59, R121). -/
structure DriveConfig where
  mode : LaneMode
  split : Nat
  coverLength : Nat
  coverBand : BandId
  period : Nat
  tolerance : Nat
  filterLength : Nat
deriving DecidableEq, Repr

/-- The watch policy (R118). -/
structure Policy where
  enabled : IndicatorSet
  periodIndex : Fin 4
  graceSeconds : Nat
  action : Action
  passes : Fin 4
  budget : Nat
deriving DecidableEq, Repr

/-- The watch page: page 3 (R115). -/
structure Watch where
  theft : Theft
  policy : Option Policy
  cause : Option Indicator
  graceSeconds : Nat
  latch : Bool
deriving DecidableEq, Repr

/-- The wipe plan, kept in the journal page: page 4 (R136). -/
structure Plan where
  cause : Option Cause
  phase : Phase
  passes : Passes
  pass : Nat
  watermark : Nat
  stop : Bool
  written : Nat
  refused : Nat
deriving DecidableEq, Repr

/-- A band record: pages 5 to 20 (R1). -/
structure BandRecord where
  start : Nat
  length : Nat
  rle : Bool
  wle : Bool
  relock : RelockSet
  openWrap : Option Wrap
deriving DecidableEq, Repr

/-- A credential slot's record but for its failure count: pages 37 to 44 (R93). -/
structure Credential where
  state : SlotState
  salt : Option Secret
  verifier : Option Verifier
  hard : Nat
  free : Nat
  base : Nat
  cap : Nat
  row : Vector (Option Wrap) 16
deriving DecidableEq, Repr

/-- The content of a page (R155). -/
inductive Page where
  | identity (i : Identity)
  | root (secret : Secret)
  | config (c : DriveConfig)
  | watch (w : Watch)
  | journal (p : Plan)
  | band (r : BandRecord)
  | secret (s : Secret)
  | credential (c : Credential)
  | attempt (count : Nat)
deriving DecidableEq, Repr

/-- A page as the store holds it (R164). -/
inductive Stored where
  | intact (content : Page)
  | blank
  | torn
deriving DecidableEq, Repr

/-- The working copy of the pages (R156). -/
structure Working where
  identity : Identity
  root : Option Secret
  config : DriveConfig
  watch : Watch
  plan : Plan
  bands : Vector BandRecord 16
  secrets : Vector (Option Secret) 16
  creds : Vector Credential 8
  counts : Vector Nat 8
deriving DecidableEq, Repr

/-- Who waits for a page write (R160): the request of a mailbox, or the Wipe Engine. -/
inductive Waiter where
  | request (p : Port)
  | wipe
deriving DecidableEq, Repr

/-- An entry of the store write queue or of the room wait list (R157, R158). -/
structure QEntry where
  page : PageId
  waiters : List Waiter
deriving DecidableEq, Repr

/-- A page write in progress (R159); no content is an erasure. -/
structure Writing where
  page : PageId
  content : Option Page
  waiters : List Waiter
deriving DecidableEq, Repr

/-- The Key Store but for its working copy (R155 to R160). -/
structure KeyStore where
  pages : Vector Stored 53
  queue : List QEntry
  room : List QEntry
  writer : Option Writing
deriving DecidableEq, Repr

/-! ## Bands and live keys -/

/-- The runtime state of a band: its lock flags (R3), a pending open load (R5), and a hold by a BAND_SET with a range
change or a BAND_ERASE (R17, R19). -/
structure BandFlags where
  readLocked : Bool
  writeLocked : Bool
  pendingLoad : Bool
  held : Bool
deriving DecidableEq, Repr

/-- An entry of the Live Key Table (R11): present exactly when it holds a key. -/
structure LiveKey where
  key : Option MediaKey
  epoch : BitVec 32
deriving DecidableEq, Repr

/-- The Live Key Table (R11). -/
structure KeyTable where
  bands : Vector LiveKey 16
  cover : LiveKey
  fill : LiveKey
deriving DecidableEq, Repr

/-- The key a segment names (R39). -/
inductive KeyName where
  | band (b : BandId)
  | cover
  | fill
deriving DecidableEq, Repr

/-! ## The data path -/

/-- A transfer's kind (R25). -/
inductive Kind where
  | read | write | scrub
deriving DecidableEq, Repr

/-- The stages of a transfer record (R70). -/
inductive XferStage where
  | queued | translating | translated | completing
deriving DecidableEq, Repr

/-- A transfer record of the Descriptor Queue (R28). -/
structure Transfer where
  tag : Byte
  kind : Kind
  stream : Bool
  first : Nat
  count : Nat
  order : Option OrderSlot
  progress : Nat
  processed : Nat
  refused : Nat
  firstRefusal : Option (Nat × TStatus)
  stage : XferStage
deriving DecidableEq, Repr

/-- A segment's direction (R39). -/
inductive Direction where
  | read | write | fill
deriving DecidableEq, Repr

/-- A segment record (R39). -/
structure Segment where
  tag : Byte
  direction : Direction
  key : KeyName
  epoch : BitVec 32
  drive : Nat
  media : Nat
  stride : Nat
  count : Nat
  done : Nat
deriving DecidableEq, Repr

/-- A lane's state (R45). -/
inductive LaneState where
  | idle | awaiting | filling
deriving DecidableEq, Repr

/-- A cipher lane (R45); the data-wait timer is stopped (none) or has ticks remaining. -/
structure Lane where
  queue : List Segment
  inFlight : Option Segment
  state : LaneState
  timer : Option Nat
deriving DecidableEq, Repr

/-- The outcome of a piece (R33). -/
inductive Verdict where
  | refused (status : TStatus)
  | allowed (key : KeyName)
deriving DecidableEq, Repr

/-- The piece in progress (R24): its lane plan is the list of its segments with their lanes, in placement order. -/
structure Piece where
  first : Nat
  count : Nat
  outcome : Verdict
  key : KeyName
  epoch : BitVec 32
  plan : List (LaneId × Segment)
  next : Nat
deriving DecidableEq, Repr

/-- The translation state of the Sector Translation Unit (R24). -/
structure Translation where
  current : Option Byte
  piece : Option Piece
  paused : Bool
deriving DecidableEq, Repr

/-! ## Messages -/

/-- A completion (R43, R27). -/
structure Completion where
  tag : Byte
  status : TStatus
  processed : Nat
  refused : Nat
  firstRefusal : Option (Nat × TStatus)
deriving DecidableEq, Repr

/-- A response (R83). -/
structure Response where
  id : BitVec 16
  status : RStatus
  wait : Nat
  granted : BandSet
  report : List Byte
deriving DecidableEq, Repr

/-- A message to the front-end (R67). `frees` marks the completion of an admitted transfer, whose sending frees its record
(R72); it is not sent. -/
inductive OutMsg where
  | fetch (tag : Byte) (media stride count : Nat)
  | pull (tag : Byte) (drive media stride count : Nat)
  | plainSector (tag : Byte) (drive : Nat) (data : List Byte)
  | cipherSector (tag : Byte) (media : Nat) (data : List Byte)
  | completion (c : Completion) (frees : Bool)
  | response (r : Response)
  | scrubOrder (slot : OrderSlot) (pass first count : Nat)
  | state (theft : Theft) (cause : Option Cause)
deriving DecidableEq, Repr

/-- A message from the front-end that waits for the port (R64, R66). -/
inductive InMsg where
  | descriptor (kind tag stream : Byte) (first : Nat) (count : Nat) (order : Byte)
  | plainSector (tag : Byte) (address : Nat) (data : List Byte)
  | cipherSector (tag : Byte) (address : Nat) (data : List Byte)
  | request (e : Envelope)
  | scrubRefuse (order : Byte)
deriving DecidableEq, Repr

/-- The Media Link Port (R62). The link state and the inbound hold are read from the mode and the outbound length. -/
structure LinkPort where
  outbound : List OutMsg
  inbound : List InMsg
  dropMark : Option (BitVec 16)
  /-- The model's own (entry 21): the message last sent. -/
  lastSent : Option OutMsg
deriving DecidableEq, Repr

/-! ## Requests and jobs -/

/-- A job of the Derivation Engine (R88), with the inputs fixed when it is handed. The other inputs are read from the
mailbox and the working copy. -/
inductive Job where
  | startupKey (bands : List BandId)
  | startupDraw
  | root
  | coverZero
  | rebuildRoot
  | rebuildAdmin
  | rebuildBand (b : BandId)
  | fillKey
  | openLoad
  | compare (token : Secret)
  | verify
  | unlock (salt : Secret) (wraps : List (BandId × Wrap))
  | own
  | setCred
  | setCredAdmin
  | grant
  | bandSet
  | bandSetRange
  | bandErase
  | recover
deriving DecidableEq, Repr

/-- Who handed the running job (R88). -/
inductive Source where
  | startup
  | wipe
  | compare
  | mailbox (p : Port)
deriving DecidableEq, Repr

/-- The Derivation Engine (R88): the running job with its source, and one waiting job from each source. -/
structure Engine where
  running : Option (Source × Job)
  startup : Option Job
  wipe : Option Job
  compare : Option Job
  link : Option Job
  side : Option Job
  lastServed : Port
deriving DecidableEq, Repr

/-- How far a held request has come. -/
inductive ReqStage where
  /-- Charged; it waits for its attempt page (R99). -/
  | charged
  /-- Its verify job is handed (R100). -/
  | verifying
  /-- Its effect job is to be handed once its pages have room (R158). -/
  | handing (j : Job)
  /-- Its effect job is handed. -/
  | working
  /-- It waits for its band secret page (R17, R19), with the derived key and, for BAND_SET, the new open wrap. -/
  | secretWrite (key : MediaKey) (wrap : Option Wrap)
  /-- Its answer waits until its pages have room (R158). -/
  | answering (status : RStatus) (granted : BandSet)
deriving DecidableEq, Repr

/-- The request a mailbox holds (R81); `room` lists its pages that went to the room wait list (R158). -/
structure Held where
  env : Envelope
  started : Bool
  stage : ReqStage
  room : List PageId
deriving DecidableEq, Repr

/-! ## Theft Watch and Wipe Engine -/

/-- The runtime state of the Theft Watch Unit (R115). -/
structure WatchUnit where
  grace : Nat
  counter : Nat
  status : CheckinStatus
  tamperOpen : Bool
  tamperOpposite : Bool
  meterOn : Bool
  meterFirst : Bool
  meterCount : Nat
  tetherLost : Bool
  tetherRun : Nat
deriving DecidableEq, Repr

/-- An open scrub order (R136). -/
structure Order where
  pass : Nat
  first : Nat
  count : Nat
  answered : Bool
deriving DecidableEq, Repr

/-- A result record (R149). -/
structure Result where
  cause : Option Cause
  pass : Nat
  written : Nat
  refused : Nat
  ended : Ended
  unread : Bool
  overrun : Bool
deriving DecidableEq, Repr

/-- What the Wipe Engine waits for or runs (R137 to R142, R148). -/
inductive WipeActivity where
  | idle
  /-- Waits for the journal naming ROOT and the watch page carrying WIPING. -/
  | rootWait
  | rootJob
  /-- Waits for room for the root page's erasure. -/
  | coverZeroWait
  | coverZeroJob
  /-- Waits for the root page write of ROOT, with the derived cover key. -/
  | rootWrite (cover : MediaKey)
  /-- Waits to begin REBUILD. -/
  | rebuildWait
  | rebuildRootJob
  /-- Waits for the root page write of REBUILD's root job, with the derived cover key. -/
  | rebuildRootWrite (cover : MediaKey)
  | rebuildAdminJob
  /-- Waits for room before the job of band `b`. -/
  | rebuildNext (b : BandId)
  | rebuildBandJob (b : BandId)
  /-- Waits for room before the drive configuration is reset. -/
  | rebuildConfigWait
  /-- Waits for every page REBUILD queued. -/
  | rebuildEnd
  /-- A REBUILD or pass that ended NO_ENTROPY waits for a reset. -/
  | noEntropy
  /-- Waits for the journal naming the pass. -/
  | passWait
  | fillJob
  | scanning
  /-- Waits for the watch page carrying WIPED. -/
  | doneWait
deriving DecidableEq, Repr

/-- The Wipe Engine but for its plan (R136). -/
structure WipeEngine where
  activity : WipeActivity
  abandon : Bool
  issuePoint : Nat
  running : Bool
  written : Nat
  refused : Nat
  orders : Vector (Option Order) 4
  rootNeeds : Bool
  ring : Vector (Option Result) 4
  ringNext : OrderSlot
  toHand : Option Job
deriving DecidableEq, Repr

/-! ## Platform Sideband Port -/

/-- The latched items of the window (R172). -/
inductive Item where
  | failureSum
  | grace
  | checkin
  | record (r : OrderSlot)
  | header
deriving DecidableEq, Repr

/-- The response record (R177). -/
structure ResponseRecord where
  sequence : Byte
  id : BitVec 16
  status : Nat
  wait : Nat
  granted : BandSet
  report : List Byte
deriving DecidableEq, Repr

/-- The Platform Sideband Port (R178). -/
structure Sideband where
  pointer : Byte
  latch : Option (Item × List Byte)
  notice : BitVec 4
  token : Vector Byte 32
  buffer : Vector Byte 64
  response : ResponseRecord
  page : Nat
  /-- The model's own (entry 21): the byte last begun in a read transaction. -/
  served : Byte
deriving DecidableEq, Repr

/-! ## The part -/

/-- How far start-up has come (R179 to R182). -/
inductive Mode where
  | off
  /-- Powered; the supply has not yet been OK. -/
  | supplyWait
  /-- RESETn is asserted. -/
  | resetHeld
  /-- Start-up waits for the store writer before it loads (R161). -/
  | writerWait
  /-- Start-up's steps 1 to 10 are done; its jobs are not. -/
  | keyJobs
  /-- Page 0 is not INTACT (R164). -/
  | identityLost
  | ready
deriving DecidableEq, Repr

/-- What a line reset keeps (R182). -/
structure HeldItems where
  backoff : Vector Nat 8
  counter : Nat
  grace : Nat
  inSuspect : Bool
  tetherLost : Bool
  latch : Bool
deriving DecidableEq, Repr

/-- What start-up records (R165, R168, R181). -/
structure Startup where
  restored : Theft
  lost : List PageId
  torn : List PageId
  firstStart : Bool
deriving DecidableEq, Repr

/-- The state of the part, and the commands that wait. -/
structure State where
  mode : Mode
  supplyOk : Bool
  supplyPrev : Option Bool
  supplySeenOk : Bool
  divider : Nat
  addrSel : Bool
  entropyFailed : Bool
  entropyTest : Bool
  startup : Startup
  held : Option HeldItems
  ks : KeyStore
  w : Working
  bands : Vector BandFlags 16
  coverPermit : Bool
  keys : KeyTable
  backoff : Vector Nat 8
  twu : WatchUnit
  wipe : WipeEngine
  engine : Engine
  linkBox : Option Held
  sideBox : Option Held
  link : LinkPort
  dq : List Transfer
  stu : Translation
  laneA : Lane
  laneB : Lane
  psp : Sideband
  pending : List Instr
deriving DecidableEq, Repr

/-! ## Reset values -/

/-- The drive configuration's defaults (R24, R140). -/
def DriveConfig.default : DriveConfig :=
  { mode := .single, split := 0, coverLength := 0, coverBand := 0, period := 0, tolerance := 0, filterLength := 2 }

/-- The watch page of a first start (R165). -/
def Watch.blank : Watch :=
  { theft := .dormant, policy := none, cause := none, graceSeconds := 0, latch := false }

/-- The journal of a first start: phase DONE, pass 0, watermark 0 (R165). The manual gives its other fields no values: cause
absent, passes 0, stop mark clear and pass counts 0 are the model's (DESIGN CHOICE, entry 53). -/
def Plan.blank : Plan :=
  { cause := none, phase := .done, passes := .times 0, pass := 0, watermark := 0, stop := false, written := 0, refused := 0 }

/-- The band record of a first start, its open wrap not yet made (R165). -/
def BandRecord.blank : BandRecord :=
  { start := 0, length := 0, rle := false, wle := false, relock := 0, openWrap := none }

/-- A slot with the default limits (R96): hard limit 32 for ADMIN and 16 otherwise, free attempts 4, base 1 s, cap
3,600 s; no salt, verifier or wraps. -/
def Credential.fresh (slot : SlotId) (state : SlotState) : Credential :=
  { state := state, salt := none, verifier := none, hard := if slot = 0 then 32 else 16, free := 4, base := 1,
    cap := 3600, row := Vector.replicate 16 none }

/-- The slots of a first start, their salt not yet drawn (R165). -/
def Credential.blank (slot : SlotId) : Credential :=
  Credential.fresh slot (if slot = 0 then .blank else .empty)

/-- The working copy before start-up has built it. DESIGN CHOICE (entry 9). -/
def Working.unloaded : Working :=
  { identity := { capacity := 0, largeSectors := false, serial := 0, revertCode := 0 }, root := none,
    config := DriveConfig.default, watch := Watch.blank, plan := Plan.blank,
    bands := Vector.replicate 16 BandRecord.blank, secrets := Vector.replicate 16 none, creds := tab8 Credential.blank,
    counts := Vector.replicate 8 0 }

/-- A lane after power-on, a line reset and a link reset (R45). -/
def Lane.idle : Lane := { queue := [], inFlight := none, state := .idle, timer := none }

/-- The translation state after power-on, a line reset and a link reset (R24). -/
def Translation.idle : Translation := { current := none, piece := none, paused := false }

/-- The Derivation Engine after power-on and a line reset (R81, R88). -/
def Engine.idle : Engine :=
  { running := none, startup := none, wipe := none, compare := none, link := none, side := none, lastServed := .side }

/-- The Theft Watch Unit's runtime state at power-on (R115). -/
def WatchUnit.powerOn : WatchUnit :=
  { grace := 0, counter := 0, status := .none, tamperOpen := false, tamperOpposite := false, meterOn := false,
    meterFirst := false, meterCount := 0, tetherLost := false, tetherRun := 0 }

/-- The Wipe Engine at power-on and at a line reset (R136). -/
def WipeEngine.powerOn : WipeEngine :=
  { activity := .idle, abandon := false, issuePoint := 0, running := false, written := 0, refused := 0,
    orders := Vector.replicate 4 none, rootNeeds := false, ring := Vector.replicate 4 none, ringNext := 0, toHand := none }

/-- No response yet (R177). -/
def ResponseRecord.none : ResponseRecord :=
  { sequence := 0, id := 0, status := 0, wait := 0, granted := 0, report := [] }

/-- The sideband port at power-on and at a line reset (R178). -/
def Sideband.powerOn : Sideband :=
  { pointer := 0, latch := Option.none, notice := 0, token := Vector.replicate 32 0, buffer := Vector.replicate 64 0,
    response := ResponseRecord.none, page := 0, served := 0 }

/-- The link port at power-on and while RESETn is asserted (R62). -/
def LinkPort.powerOn : LinkPort := { outbound := [], inbound := [], dropMark := none, lastSent := none }

/-- The Live Key Table at power-on and at a line reset: every entry absent with epoch 0 (R11). -/
def KeyTable.powerOn : KeyTable :=
  { bands := Vector.replicate 16 { key := none, epoch := 0 }, cover := { key := none, epoch := 0 },
    fill := { key := none, epoch := 0 } }

/-- What start-up has recorded before it ran. DESIGN CHOICE for `restored` (entry 9). -/
def Startup.none : Startup := { restored := .dormant, lost := [], torn := [], firstStart := false }

/-- The store of a part as manufactured: page 0 written, pages 1 to 52 erased. DESIGN CHOICE (entry 1): the capacity and
the format are those of the manual's worked cases, the serial number and the revert code are zero. -/
def factoryPages : Vector Stored 53 :=
  put (Vector.replicate 53 .blank) 0
    (.intact (.identity { capacity := 2000000, largeSectors := false, serial := 0, revertCode := 0 }))

/-- The state right after power-on with the given store (R179): all volatile state at its power-on value, the supply
monitor in WARN with no previous sample. -/
def State.powerOn (pages : Vector Stored 53) (addrSel entropyTest : Bool) (pending : List Instr) : State :=
  { mode := .supplyWait, supplyOk := false, supplyPrev := none, supplySeenOk := false, divider := 0, addrSel := addrSel,
    entropyFailed := false, entropyTest := entropyTest, startup := Startup.none, held := none,
    ks := { pages := pages, queue := [], room := [], writer := none }, w := Working.unloaded,
    bands := Vector.replicate 16 { readLocked := true, writeLocked := true, pendingLoad := false, held := false },
    coverPermit := false, keys := KeyTable.powerOn, backoff := Vector.replicate 8 0, twu := WatchUnit.powerOn,
    wipe := WipeEngine.powerOn, engine := Engine.idle, linkBox := none, sideBox := none, link := LinkPort.powerOn,
    dq := [], stu := Translation.idle, laneA := Lane.idle, laneB := Lane.idle, psp := Sideband.powerOn, pending := pending }

/-- The machine right after reset: power has just been applied to a part as manufactured (entry 1). -/
def State.reset : State := State.powerOn factoryPages false true []

end Sys2Proof.Machine
end

