-- ==== Sys2Proof/Machine/Ops.lean ====
section
/-! DEFINITION. The named operations on the parts of the state that every block uses: messages to the front-end, the notice
byte, the mailboxes, the tables, and the opaque key operations. -/

namespace Sys2Proof.Machine

/-- What a command answers. -/
abbrev Answer := Host.Outcome State Fault Refusal

/-! ## Reading -/

/-- The link state is UP (R62, R63); LINK_READY is high exactly then. -/
def linkUp (s : State) : Bool := s.mode = .ready

/-- The theft state (R115). -/
def theft (s : State) : Theft := s.w.watch.theft

/-- The theft state is ALARM or WIPING, in which no band entry is present (R14). -/
def barred (s : State) : Bool := theft s = .alarm || theft s = .wiping

/-- The Entropy Source's health is GOOD (R91). -/
def entropyGood (s : State) : Bool := !s.entropyFailed

/-- The inbound hold is HELD (R66). -/
def inboundHeld (s : State) : Bool := Config.holdLimit ≤ s.link.outbound.length

/-- ALERT is asserted (R173). -/
def alert (s : State) : Bool := s.psp.notice ≠ 0

/-- LINK_READY's level (R63). -/
def linkReady (s : State) : Bool := linkUp s

/-- The target address the sideband answers to, and none while it acknowledges no address (R169). -/
def targetAddress (s : State) : Option (BitVec 7) :=
  match s.mode with
  | .off | .resetHeld => none
  | _ => some (if s.addrSel then 0x3D else 0x3C)

/-- A block's volatile counters run: start-up's steps 1 to 10 are done (R183). -/
def counting (s : State) : Bool := s.mode = .keyJobs || s.mode = .ready

/-! ## Messages to the front-end -/

/-- The outbound queue accepts a message at its tail (R67). -/
def hand (m : OutMsg) (s : State) : State :=
  { s with link := { s.link with outbound := s.link.outbound ++ [m] } }

/-- A message is a STATE message. -/
def isStateMsg : OutMsg → Bool
  | .state _ _ => true
  | _ => false

/-- The queue with a STATE message's content put in the place of a waiting one, or at the tail (R69). -/
def placeState (m : OutMsg) : List OutMsg → List OutMsg
  | [] => [m]
  | x :: xs => if isStateMsg x then m :: xs else x :: placeState m xs

/-- The wipe cause a STATE message carries: present when the theft state is WIPING (R67, R69). -/
def shownCause (s : State) : Option Cause :=
  if theft s = .wiping then s.w.plan.cause else none

/-- The STATE message of the present moment (R69). -/
def stateMsg (s : State) : OutMsg := .state (theft s) (shownCause s)

/-- The MLP hands a STATE message, or replaces the content of a waiting one (R69). -/
def handState (s : State) : State :=
  { s with link := { s.link with outbound := placeState (stateMsg s) s.link.outbound } }

/-! ## The notice byte (R173) -/

/-- THEFT_CHANGE. -/
def noticeTheft : BitVec 4 := 1
/-- SCRUB_RESULT. -/
def noticeResult : BitVec 4 := 2
/-- RESPONSE_READY. -/
def noticeResponse : BitVec 4 := 4
/-- STORE_LOSS. -/
def noticeLoss : BitVec 4 := 8

/-- A notice bit is set. -/
def raise (bit : BitVec 4) (s : State) : State :=
  { s with psp := { s.psp with notice := s.psp.notice ||| bit } }

/-! ## Tables -/

/-- The record of a band. -/
def record (s : State) (b : BandId) : BandRecord := s.w.bands.get b

/-- The runtime flags of a band. -/
def flags (s : State) (b : BandId) : BandFlags := s.bands.get b

/-- The credential of a slot. -/
def cred (s : State) (i : SlotId) : Credential := s.w.creds.get i

/-- The failure count of a slot. -/
def count (s : State) (i : SlotId) : Nat := s.w.counts.get i

/-- The backoff remaining of a slot, in ticks. -/
def backoffOf (s : State) (i : SlotId) : Nat := s.backoff.get i

/-- A band's record is replaced in the working copy. -/
def setRecord (b : BandId) (r : BandRecord) (s : State) : State :=
  { s with w := { s.w with bands := put s.w.bands b r } }

/-- A band's secret is replaced in the working copy. -/
def setSecret (b : BandId) (x : Option Secret) (s : State) : State :=
  { s with w := { s.w with secrets := put s.w.secrets b x } }

/-- A band's runtime flags are replaced. -/
def setFlags (b : BandId) (f : BandFlags) (s : State) : State :=
  { s with bands := put s.bands b f }

/-- A slot's credential is replaced in the working copy. -/
def setCred (i : SlotId) (c : Credential) (s : State) : State :=
  { s with w := { s.w with creds := put s.w.creds i c } }

/-- A slot's failure count is replaced in the working copy. -/
def setCount (i : SlotId) (n : Nat) (s : State) : State :=
  { s with w := { s.w with counts := put s.w.counts i n } }

/-- A slot's backoff is set, in ticks. -/
def setBackoff (i : SlotId) (n : Nat) (s : State) : State :=
  { s with backoff := put s.backoff i n }

/-- The watch page's working copy is replaced. -/
def setWatch (w : Watch) (s : State) : State := { s with w := { s.w with watch := w } }

/-- The wipe plan is replaced in the working copy. -/
def setPlan (p : Plan) (s : State) : State := { s with w := { s.w with plan := p } }

/-- The Wipe Engine's activity is replaced. -/
def setActivity (a : WipeActivity) (s : State) : State := { s with wipe := { s.wipe with activity := a } }

/-! ## Mailboxes (R81) -/

/-- What a mailbox holds. -/
def box (p : Port) (s : State) : Option Held :=
  match p with
  | .link => s.linkBox
  | .side => s.sideBox

/-- What a mailbox holds is replaced. -/
def setBox (p : Port) (h : Option Held) (s : State) : State :=
  match p with
  | .link => { s with linkBox := h }
  | .side => { s with sideBox := h }

/-- A mailbox holds a started request (R81). -/
def startedIn (p : Port) (s : State) : Bool :=
  match box p s with
  | some h => h.started
  | none => false

/-! ## Lanes -/

/-- A lane. -/
def lane (l : LaneId) (s : State) : Lane :=
  match l with
  | .a => s.laneA
  | .b => s.laneB

/-- A lane is replaced. -/
def setLane (l : LaneId) (x : Lane) (s : State) : State :=
  match l with
  | .a => { s with laneA := x }
  | .b => { s with laneB := x }

/-! ## The opaque key operations (R88) -/

/-- UNWRAP: a wrap undone under what it was made under gives its key; under anything else, a free value (entry 24). -/
def unwrap (x : Wrap) (u : WrapUnder) : Secret :=
  if x.under = u then x.key else Config.unwrapOther x u

/-- A slot's salt; a slot that verifies a secret holds one. -/
def saltOf (c : Credential) : Secret := c.salt.getD 0

/-- UNWRAP of the wrap a slot's row holds for a band (R95). -/
def rowKey (c : Credential) (b : BandId) (u : WrapUnder) : Secret :=
  match c.row.get b with
  | some x => unwrap x u
  | none => Config.absentWrapKey b u

/-- VERIFY: a presented secret matches when it derives the slot's verifier (R93). -/
def verifies (c : Credential) (secret : Secret) : Bool :=
  c.salt.isSome && c.verifier = some { secret := secret, salt := saltOf c }

/-- What DERIVE_COVER takes: the root secret, or 32 zero bytes where the root page holds none (R13, R88). -/
def rootOrZero (s : State) : Secret := s.w.root.getD 0

/-- What DERIVE_MEDIA and an open wrap take: the root secret, or where the working copy holds none a free value (R9, R10, R88;
DESIGN CHOICE, entry 50). -/
def rootOf (s : State) : Secret := s.w.root.getD Config.rootless

/-- DERIVE_MEDIA for a band with a given band secret (R9). -/
def mediaKey (s : State) (kb bandSecret : Secret) : MediaKey := .media (rootOf s) kb bandSecret

/-- The media key that a band's open wrap, the root secret and the band secret give; none without a wrap or a secret
(R5, R10). -/
def openKey (s : State) (b : BandId) : Option MediaKey :=
  match (record s b).openWrap, s.w.secrets.get b with
  | some x, some z => some (mediaKey s (unwrap x (.root (rootOf s))) z)
  | _, _ => none

/-- The ES delivers a value that passes its test, or becomes FAILED; while FAILED it delivers nothing (R91, R92). -/
def drawn (s : State) (d : Draw) : Option Secret := if s.entropyFailed then none else d

/-- The ES is FAILED: a delivered value failed its test (R91). -/
def failEntropy (s : State) : State := { s with entropyFailed := true }

end Sys2Proof.Machine
end

