-- ==== Sys2Proof/Machine/Operands.lean ====
section
/-! DEFINITION. The forms of the operands that commands carry: byte fields, band sets, slots, and the argument checks that the
owners make before the verification flow. -/

namespace Sys2Proof.Machine

/-! ## Byte fields (R185: least significant byte first) -/

/-- A number as `k` bytes. -/
def leBytes : Nat → Nat → List Byte
  | 0, _ => []
  | k + 1, n => BitVec.ofNat 8 n :: leBytes k (n / 256)

/-- The number that bytes spell. -/
def ofLe : List Byte → Nat
  | [] => 0
  | x :: xs => x.toNat + 256 * ofLe xs

/-- Byte `i` of a list, zero beyond its end. -/
def byteAt (xs : List Byte) (i : Nat) : Byte := xs.getD i 0

/-- The field of `n` bytes at an offset. -/
def field (xs : List Byte) (offset n : Nat) : Nat := ofLe ((xs.drop offset).take n)

/-- A list of bytes lengthened with zeros to `n`. -/
def padTo (n : Nat) (xs : List Byte) : List Byte := xs ++ List.replicate (n - xs.length) 0

/-! ## Band sets -/

/-- An argument band set names a band (R185). -/
def names (v : BitVec 32) (b : BandId) : Bool := v.getLsbD b.val

/-- An argument band set names no index above 15 (R7, R104). -/
def inRange (v : BitVec 32) : Bool := v.toNat < 65536

/-- An argument band set names a band, and none above 15 (R104, R111, R112). -/
def bandsOk (v : BitVec 32) : Bool := v ≠ 0 && inRange v

/-- The set of the bands of a list. -/
def setOf : List BandId → BandSet
  | [] => 0
  | b :: bs => (1 : BandSet) <<< b.val ||| setOf bs

/-- The slot a number names. -/
def slotOf (n : Nat) : SlotId := Fin.ofNat 8 n

/-- The band a number names. -/
def bandNo (n : Nat) : BandId := Fin.ofNat 16 n

/-! ## Geometry -/

/-- The user capacity C. -/
def capacity (s : State) : Nat := s.w.identity.capacity

/-- The granule g: 8 sectors in the 512-byte format, 1 in the 4,096-byte format (R2). -/
def granule (s : State) : Nat := if s.w.identity.largeSectors then 1 else 8

/-- The drive's sector size in bytes. -/
def sectorSize (s : State) : Nat := if s.w.identity.largeSectors then 4096 else 512

/-- The scrub end E (R136). -/
def scrubEnd (s : State) : Nat := capacity s + Config.coverArea

/-- A band 1 to 15 of non-zero length, or band 0 (R1). -/
def used (s : State) (b : BandId) : Bool := b = 0 || (record s b).length ≠ 0

/-- A band 1 to 15 that is used and whose range contains a drive address (R1). -/
def covers (s : State) (a : Nat) (b : BandId) : Bool :=
  (record s b).length ≠ 0 && (record s b).start ≤ a && a < (record s b).start + (record s b).length

/-- The band of a drive address: the used band 1 to 15 whose range contains it, or band 0 (R1). -/
def bandOf (s : State) (a : Nat) : BandId := (rangedBands.find? (covers s a)).getD 0

/-- Two ranges hold a drive address in common (R2). -/
def overlap (start length start' length' : Nat) : Bool := start < start' + length' && start' < start + length

/-! ## Argument checks: the status of the first that fails -/

/-- R104: UNLOCK and TOKEN_UNLOCK. -/
def unlockCheck (x : UnlockArgs) : Option RStatus :=
  if !bandsOk x.bands || x.directions = 0 || 3 < x.directions.toNat then some .badArgument else none

/-- R108: SET_CRED. Where several checks fail, the first of the table's order gives the status (DESIGN CHOICE, entry 30). -/
def setCredCheck (x : LimitArgs) (new : Option Secret) (s : State) : Option RStatus :=
  let t := x.target.toNat
  let hard := x.hard.toNat
  if 7 < t then some .badArgument
  else if 64 < hard || hard < (if t = 0 then 8 else 3) then some .badArgument
  else if 15 < x.free.toNat || hard ≤ x.free.toNat then some .badArgument
  else if x.base.toNat < 1 || 60 < x.base.toNat || x.cap.toNat < 60 || 86400 < x.cap.toNat then some .badArgument
  else if (new = none && t = 0) || new = some 0 then some .badArgument
  else if t = 0 && (cred s 0).state = .blank then some .denied
  else if t = 7 && new = none && (theft s = .armed || theft s = .suspect) &&
      (s.w.watch.policy.any fun p => p.enabled.getLsbD 0) then some .denied
  else none

/-- R111, R112: the arguments of GRANT and REVOKE. -/
def rowCheck (x : RowArgs) : Option RStatus :=
  if x.target = 0 || 7 < x.target.toNat || !bandsOk x.bands then some .badArgument else none

/-- R111: GRANT. Where several checks fail, the first of the list's order gives the status (DESIGN CHOICE, entry 30). -/
def grantCheck (x : RowArgs) (s : State) : Option RStatus :=
  match rowCheck x with
  | some e => some e
  | none =>
    match (cred s (slotOf x.target.toNat)).state with
    | .empty => some .slotEmpty
    | .disabled => some .slotDisabled
    | _ => none

/-- The start and length a BAND_SET would give a band: band 0 keeps none, and length 0 stores start 0 (R1, R15). -/
def newRange (x : BandArgs) : Nat × Nat :=
  if x.band = 0 || x.length = 0 then (0, 0) else (x.start.toNat, x.length.toNat)

/-- R15: BAND_SET. An undefined enable bit is refused as R186 gives. Where several checks fail, the first of the table's order
gives the status (DESIGN CHOICE, entry 30). -/
def bandSetCheck (x : BandArgs) (s : State) : Option RStatus :=
  let b := bandNo x.band.toNat
  let start := x.start.toNat
  let length := x.length.toNat
  if 15 < x.band.toNat then some .badArgument
  else if 15 < x.relock.toNat || 3 < x.enables.toNat then some .badArgument
  else if x.band = 0 || length = 0 then none
  else if start % granule s ≠ 0 || length % granule s ≠ 0 then some .badRange
  else if capacity s < start + length then some .badRange
  else if rangedBands.any (fun c => c ≠ b && (record s c).length ≠ 0 &&
      overlap start length (record s c).start (record s c).length) then some .badRange
  else none

/-- R15: the request makes a range change. -/
def rangeChange (x : BandArgs) (s : State) : Bool :=
  newRange x ≠ ((record s (bandNo x.band.toNat)).start, (record s (bandNo x.band.toNat)).length)

/-- R59: the lane group. -/
def laneCheck (x : LaneArgs) (s : State) : Option RStatus :=
  if 3 < x.mode.toNat then some .badArgument
  else if x.mode = 2 then
    if x.split.toNat % granule s ≠ 0 then some .badRange
    else if x.split.toNat = 0 || capacity s ≤ x.split.toNat then some .badRange
    else none
  else none

/-- R20: the cover group. Where several checks fail, the first of the table's order gives the status (DESIGN CHOICE,
entry 30). -/
def coverCheck (x : CoverArgs) (s : State) : Option RStatus :=
  let l := x.length.toNat
  if l ≠ 0 && (l < 8 || Config.coverArea < l) then some .badArgument
  else if l % granule s ≠ 0 then some .badRange
  else if 15 < x.band.toNat then some .badArgument
  else none

/-- R121: the tether group. -/
def tetherCheck (x : TetherArgs) : Option RStatus :=
  let p := x.period.toNat
  if p = 0 then none
  else if p < 64 || 32768 < p then some .badArgument
  else if p / 2 < x.tolerance.toNat then some .badArgument
  else if x.filter = 2 || x.filter = 4 || x.filter = 8 || x.filter = 16 then none
  else some .badArgument

/-- The check of an optional group. -/
def groupCheck {α : Type} (g : Option α) (f : α → Option RStatus) : Option RStatus :=
  match g with
  | some x => f x
  | none => none

/-- R20, R59, R121: DRIVE_SET, its groups in the order lane, cover, tether (entry 17). -/
def driveSetCheck (lane : Option LaneArgs) (cover : Option CoverArgs) (tether : Option TetherArgs) (s : State) :
    Option RStatus :=
  match groupCheck lane (fun x => laneCheck x s) with
  | some e => some e
  | none =>
    match groupCheck cover (fun x => coverCheck x s) with
    | some e => some e
    | none => groupCheck tether tetherCheck

/-- R118: WATCH_ARM, its settings and then the theft state. -/
def watchArmCheck (x : WatchArgs) (s : State) : Option RStatus :=
  if x.indicators = 0 || 15 < x.indicators.toNat then some .badArgument
  else if 3 < x.period.toNat || 1 < x.action.toNat || 3 < x.passes.toNat || x.budget.toNat < 4 then some .badArgument
  else if x.indicators.getLsbD 0 && (cred s 7).state ≠ .set then some .badArgument
  else if theft s = .suspect || theft s = .wiped then some .denied
  else none

/-- R151: the passes a WIPE_NOW may carry. -/
def passesOf (x : Byte) : Option Passes :=
  if x = 255 then some .continuous
  else if x = 0 then some (.times 0)
  else if x = 1 then some (.times 1)
  else if x = 2 then some (.times 2)
  else if x = 3 then some (.times 3)
  else none

/-- R152: SCRUB_STOP against the wipe as it stands. -/
def scrubStopCheck (s : State) : Option RStatus :=
  if theft s ≠ .wiping then some .denied
  else if s.w.plan.cause = some .theft || s.w.plan.cause = some .remote || s.w.plan.cause = some .storeLoss then
    some .denied
  else if s.w.plan.phase ≠ .scrub then some .denied
  else none

end Sys2Proof.Machine
end

