-- ==== Sys2Proof/Decode.lean ====
section
/-! DEFINITION. Reading the bytes of the two interfaces: link messages (R187) and request envelopes (R188, R189). The opcode
table gives its rows no bits, so no word spells a command. -/

namespace Sys2Proof

/-- The command a word spells by the table's bits: the table gives none. -/
def decodeTableWord (_nbits _w : Nat) : Option Instr := none

/-! ## Envelopes (R188, R189) -/

/-- A part of an envelope that its presence bit marks present. -/
def part {α : Type} (presence : Byte) (bit : Nat) (x : α) : Option α := if presence.getLsbD bit then some x else none

/-- 32 bytes at an offset as a secret. -/
def secretAt (xs : List Byte) (offset : Nat) : Secret := BitVec.ofNat 256 (Machine.field xs offset 32)

/-- A field of 4 bytes. -/
def word32 (xs : List Byte) (offset : Nat) : BitVec 32 := BitVec.ofNat 32 (Machine.field xs offset 4)

/-- A field of 6 bytes. -/
def word48 (xs : List Byte) (offset : Nat) : BitVec 48 := BitVec.ofNat 48 (Machine.field xs offset 6)

/-- A field of 2 bytes. -/
def word16 (xs : List Byte) (offset : Nat) : BitVec 16 := BitVec.ofNat 16 (Machine.field xs offset 2)

/-- UNLOCK's argument group (R189). -/
def readUnlockArgs (xs : List Byte) : UnlockArgs := { bands := word32 xs 40, directions := Machine.byteAt xs 44 }

/-- SET_CRED's limits group. -/
def readLimitArgs (xs : List Byte) : LimitArgs :=
  { target := Machine.byteAt xs 40, hard := Machine.byteAt xs 41, free := Machine.byteAt xs 42,
    base := Machine.byteAt xs 43, cap := word32 xs 44 }

/-- GRANT's and REVOKE's group. -/
def readRowArgs (xs : List Byte) : RowArgs := { target := Machine.byteAt xs 40, bands := word32 xs 44 }

/-- BAND_SET's group. -/
def readBandArgs (xs : List Byte) : BandArgs :=
  { band := Machine.byteAt xs 40, enables := Machine.byteAt xs 41, relock := Machine.byteAt xs 42,
    start := word48 xs 44, length := word48 xs 50 }

/-- DRIVE_SET's lane group. -/
def readLaneArgs (xs : List Byte) : LaneArgs := { mode := Machine.byteAt xs 40, split := word48 xs 42 }

/-- DRIVE_SET's cover group. -/
def readCoverArgs (xs : List Byte) : CoverArgs := { length := word32 xs 48, band := Machine.byteAt xs 52 }

/-- DRIVE_SET's tether group. -/
def readTetherArgs (xs : List Byte) : TetherArgs :=
  { period := word16 xs 56, tolerance := word16 xs 58, filter := Machine.byteAt xs 60 }

/-- WATCH_ARM's group. -/
def readWatchArgs (xs : List Byte) : WatchArgs :=
  { indicators := Machine.byteAt xs 40, period := Machine.byteAt xs 41, grace := word16 xs 42,
    action := Machine.byteAt xs 44, passes := Machine.byteAt xs 45, budget := Machine.byteAt xs 46 }

/-- What an envelope of 128 bytes asks, by its kind code (R185: 1 to 20 in the order of the catalogue). -/
def readBody (xs : List Byte) : Body :=
  let pr := Machine.byteAt xs 3
  let secret := part pr 1 (secretAt xs 8)
  match (Machine.byteAt xs 2).toNat with
  | 1 => .unlock (part pr 0 (Machine.byteAt xs 4)) secret (part pr 2 (readUnlockArgs xs))
  | 2 => .tokenUnlock secret (part pr 2 (readUnlockArgs xs))
  | 3 => .lock (part pr 2 (word32 xs 40))
  | 4 => .own (part pr 2 (secretAt xs 40))
  | 5 => .setCred secret (part pr 2 (readLimitArgs xs)) (part pr 3 (secretAt xs 48))
  | 6 => .grant secret (part pr 2 (readRowArgs xs)) (part pr 3 (secretAt xs 48))
  | 7 => .revoke secret (part pr 2 (readRowArgs xs))
  | 8 => .bandSet secret (part pr 2 (readBandArgs xs))
  | 9 => .bandErase secret (part pr 2 (Machine.byteAt xs 40))
  | 10 => .driveSet secret (part pr 2 (readLaneArgs xs)) (part pr 3 (readCoverArgs xs)) (part pr 4 (readTetherArgs xs))
  | 11 => .coverOpen secret
  | 12 => .coverClose
  | 13 => .watchArm secret (part pr 2 (readWatchArgs xs))
  | 14 => .watchDisarm secret
  | 15 => .watchRecover secret
  | 16 => .remoteWipe secret
  | 17 => .wipeNow secret (part pr 2 (Machine.byteAt xs 40))
  | 18 => .scrubStop secret
  | 19 => .revert (part pr 2 (secretAt xs 40))
  | 20 => .statusQuery
  | _ => .undefined (Machine.byteAt xs 2)

/-- An envelope of 128 bytes (R188). -/
def readEnvelope (xs : List Byte) : Envelope := { id := word16 xs 0, body := readBody xs }

/-! ## Link messages (R187) -/

/-- What the bytes of a link message are: a LINK_RESET, or a message that waits its turn. -/
inductive LinkIn where
  | reset
  | message (m : Machine.InMsg)
deriving DecidableEq, Repr

/-- A link message in a drive's format: none where its code is none of the six or its length is not its kind's (R65,
R187). -/
def decodeMessage (largeSectors : Bool) (xs : List Byte) : Option LinkIn :=
  let n := xs.length
  let sector := if largeSectors then 4104 else 520
  match (Machine.byteAt xs 0).toNat with
  | 1 =>
    if n = 16 then
      some (.message (.descriptor (Machine.byteAt xs 1) (Machine.byteAt xs 2) (Machine.byteAt xs 3) (Machine.field xs 4 6)
        (Machine.field xs 10 2) (Machine.byteAt xs 12)))
    else none
  | 2 =>
    if n = sector then some (.message (.plainSector (Machine.byteAt xs 1) (Machine.field xs 2 6) (xs.drop 8))) else none
  | 3 =>
    if n = sector then some (.message (.cipherSector (Machine.byteAt xs 1) (Machine.field xs 2 6) (xs.drop 8))) else none
  | 4 => if n = 132 then some (.message (.request (readEnvelope (xs.drop 4)))) else none
  | 5 => if n = 4 then some (.message (.scrubRefuse (Machine.byteAt xs 1))) else none
  | 6 => if n = 4 then some .reset else none
  | _ => none

end Sys2Proof
end

