-- ==== Sys2Proof/Machine/Flags.lean ====
section
/-! DEFINITION. The conditions and figures that blocks read from the state: lock flags, the cover, live keys, the failure sum,
the indicators, backoffs. -/

namespace Sys2Proof.Machine

/-! ## Lock flags (R3) -/

/-- The flags a lock gives a band: readLocked from RLE, writeLocked from WLE or RLE (R3). -/
def lockFlags (r : BandRecord) : Bool × Bool := (r.rle, r.wle || r.rle)

/-- Both flags are set (R3). -/
def closedPair (f : Bool × Bool) : Bool := f.1 && f.2

/-- A band is closed. -/
def closed (f : BandFlags) : Bool := f.readLocked && f.writeLocked

/-- A band has its band secret (R167). -/
def hasSecret (s : State) (b : BandId) : Bool := (s.w.secrets.get b).isSome

/-- The cover is active (R21). -/
def coverActive (s : State) : Bool :=
  0 < s.w.config.coverLength && (flags s s.w.config.coverBand).readLocked

/-! ## Live keys -/

/-- The entry a key name names (R11). -/
def entry (s : State) (k : KeyName) : LiveKey :=
  match k with
  | .band b => s.keys.bands.get b
  | .cover => s.keys.cover
  | .fill => s.keys.fill

/-- The entry is present. -/
def present (s : State) (k : KeyName) : Bool := (entry s k).key.isSome

/-- The key check of a segment: none where it passes, else the status it gives (R47). -/
def keyCheck (s : State) (k : KeyName) (epoch : BitVec 32) : Option TStatus :=
  if !present s k then
    match theft s with
    | .alarm => some .alarm
    | .wiping => some .wiping
    | _ => some .locked
  else if (entry s k).epoch = epoch then none
  else some .reconfigured

/-! ## Failure sum and backoff -/

/-- The failure count a slot adds to the sum: none while DISABLED (R114). -/
def summed (s : State) (i : SlotId) : Nat := if (cred s i).state = .disabled then 0 else count s i

/-- The failure sum (R114). -/
def failureSum (s : State) : Nat :=
  summed s 0 + summed s 1 + summed s 2 + summed s 3 + summed s 4 + summed s 5 + summed s 6 + summed s 7

/-- The backoff delay in ticks after a failure that leaves a slot's count at `f` (R105). -/
def backoffDelay (i : SlotId) (c : Credential) (f : Nat) : Nat :=
  if f ≤ c.free then 0
  else if i = 0 && c.hard ≤ f then c.cap * Config.ticksPerSecond
  else if 17 ≤ f - c.free - 1 then c.cap * Config.ticksPerSecond
  else min (c.base * 2 ^ (f - c.free - 1)) c.cap * Config.ticksPerSecond

/-- Seconds reported for a number of ticks left: rounded up, clamped to 65,535 (R98, R106). -/
def waitSeconds (ticks : Nat) : Nat :=
  min ((ticks + (Config.ticksPerSecond - 1)) / Config.ticksPerSecond) 65535

/-! ## Indicators (R122) -/

/-- The watch period of an index, in ticks (R118). -/
def watchPeriod : Fin 4 → Nat
  | 0 => 32768
  | 1 => 131072
  | 2 => 524288
  | 3 => 2097152

/-- CHECKIN is asserted. -/
def checkinAsserted (s : State) : Bool :=
  s.w.watch.policy.any fun p => watchPeriod p.periodIndex ≤ s.twu.counter

/-- BUDGET is asserted. -/
def budgetAsserted (s : State) : Bool := s.w.watch.policy.any fun p => p.budget ≤ failureSum s

/-- An indicator is asserted (R122). -/
def asserted (s : State) : Indicator → Bool
  | .checkin => checkinAsserted s
  | .tether => s.twu.tetherLost
  | .tamper => s.w.watch.latch
  | .budget => budgetAsserted s

/-- The bit of an indicator (R185). -/
def indicatorBit : Indicator → Nat
  | .checkin => 0
  | .tether => 1
  | .tamper => 2
  | .budget => 3

/-- A set names an indicator. -/
def inSet (v : IndicatorSet) (i : Indicator) : Bool := v.getLsbD (indicatorBit i)

/-- The policy enables an indicator (R118). -/
def enabled (s : State) (i : Indicator) : Bool := s.w.watch.policy.any fun p => inSet p.enabled i

/-- A boolean as a bit at a place. -/
def bitAt (place : Nat) (x : Bool) : Nat := if x then 2 ^ place else 0

/-- The indicator set (R122). -/
def indicatorSet (s : State) : IndicatorSet :=
  BitVec.ofNat 4 (bitAt 0 (asserted s .checkin) + bitAt 1 (asserted s .tether) + bitAt 2 (asserted s .tamper) +
    bitAt 3 (asserted s .budget))

/-- An enabled indicator is asserted (R131). -/
def anyAsserted (s : State) : Bool :=
  (enabled s .checkin && asserted s .checkin) || (enabled s .tether && asserted s .tether) ||
    (enabled s .tamper && asserted s .tamper) || (enabled s .budget && asserted s .budget)

/-- The theft scrub passes of a wipe with cause THEFT or REMOTE (R116). -/
def theftPasses (s : State) : Passes :=
  match s.w.watch.policy with
  | some p => .times p.passes
  | none => .times 0

/-- The bit of a relock event (R185). -/
def relockBit : Relock → Nat
  | .suspend => 0
  | .lidClosed => 1
  | .linkReset => 2
  | .tetherLost => 3

/-- A band's relock set holds an event (R6). -/
def relocks (s : State) (e : Relock) (b : BandId) : Bool := (record s b).relock.getLsbD (relockBit e)

/-! ## The wipe -/

/-- The lesser of a bound and the first address of an open order. -/
def lower (bound : Nat) (o : Option Order) : Nat :=
  match o with
  | some x => min bound x.first
  | none => bound

/-- The current watermark: the lower of the issue point and the first address of every open order (R143). -/
def watermark (s : State) : Nat :=
  lower (lower (lower (lower s.wipe.issuePoint (s.wipe.orders.get 0)) (s.wipe.orders.get 1)) (s.wipe.orders.get 2))
    (s.wipe.orders.get 3)

/-- No order is open. -/
def noOrders (s : State) : Bool :=
  (s.wipe.orders.get 0).isNone && (s.wipe.orders.get 1).isNone && (s.wipe.orders.get 2).isNone &&
    (s.wipe.orders.get 3).isNone

end Sys2Proof.Machine
end

