-- ==== Sys2Proof/Machine/Store.lean ====
section
/-! DEFINITION. The Key Store: its pages, the store write queue, the room wait list and the writer (R155 to R162). -/

namespace Sys2Proof.Machine

/-! ## Page numbers (R155) -/

def rootPage : PageId := 1
def configPage : PageId := 2
def watchPage : PageId := 3
def journalPage : PageId := 4
/-- The band record page of a band. -/
def bandPage (b : BandId) : PageId := Fin.ofNat 53 (5 + b.val)
/-- The band secret page of a band. -/
def secretPage (b : BandId) : PageId := Fin.ofNat 53 (21 + b.val)
/-- The credential page of a slot. -/
def credPage (i : SlotId) : PageId := Fin.ofNat 53 (37 + i.val)
/-- The attempt page of a slot. -/
def attemptPage (i : SlotId) : PageId := Fin.ofNat 53 (45 + i.val)

/-- The content of a page in the working copy; none where the page is marked for erasure (R156, R159). -/
def content (w : Working) (p : PageId) : Option Page :=
  let n := p.val
  if n = 0 then some (.identity w.identity)
  else if n = 1 then w.root.map Page.root
  else if n = 2 then some (.config w.config)
  else if n = 3 then some (.watch w.watch)
  else if n = 4 then some (.journal w.plan)
  else if n < 21 then some (.band (w.bands.get (bandNo (n - 5))))
  else if n < 37 then (w.secrets.get (bandNo (n - 21))).map Page.secret
  else if n < 45 then some (.credential (w.creds.get (slotOf (n - 37))))
  else some (.attempt (w.counts.get (slotOf (n - 45))))

/-- The working copy's content of a page. -/
def pageOf (s : State) (p : PageId) : Option Page := content s.w p

/-- A page's content as the store holds it: none unless INTACT. -/
def intact : Stored → Option Page
  | .intact c => some c
  | _ => none

/-- The committed content of a page (R156). -/
def committed (s : State) (p : PageId) : Option Page := intact (s.ks.pages.get p)

/-- The content a page's change is compared with: that being written while its write is in progress, else the committed
content (R157). -/
def reference (s : State) (p : PageId) : Option Page :=
  match s.ks.writer with
  | some x => if x.page = p then x.content else committed s p
  | none => committed s p

/-! ## Queueing (R157, R158) -/

/-- An entry of a list names the page. -/
def onList (es : List QEntry) (p : PageId) : Bool := es.any fun e => e.page = p

/-- Waiters joined to those an entry has. -/
def joinWaiters (old new : List Waiter) : List Waiter := old ++ new.filter fun x => !old.contains x

/-- A change merged into the entry of its page (R157). -/
def mergeEntry (p : PageId) (ws : List Waiter) : List QEntry → List QEntry
  | [] => []
  | e :: es => if e.page = p then { e with waiters := joinWaiters e.waiters ws } :: es else e :: mergeEntry p ws es

/-- An owner queues a page, with the blocks that wait for its write (R157, R158, R160). A page that neither stands in the
queue or on the list nor differs from its reference content is not queued; a block that needs a content already being
written waits for that write. -/
def queuePage (p : PageId) (ws : List Waiter) (s : State) : State :=
  if onList s.ks.queue p then { s with ks := { s.ks with queue := mergeEntry p ws s.ks.queue } }
  else if onList s.ks.room p then { s with ks := { s.ks with room := mergeEntry p ws s.ks.room } }
  else if pageOf s p ≠ reference s p then
    if s.ks.queue.length < Config.storeRoom then
      { s with ks := { s.ks with queue := s.ks.queue ++ [{ page := p, waiters := ws }] } }
    else { s with ks := { s.ks with room := s.ks.room ++ [{ page := p, waiters := ws }] } }
  else
    match s.ks.writer with
    | some x =>
      if x.page = p then { s with ks := { s.ks with writer := some { x with waiters := joinWaiters x.waiters ws } } }
      else s
    | none => s

/-- Pages queued in order. -/
def queuePages (ps : List PageId) (ws : List Waiter) (s : State) : State :=
  match ps with
  | [] => s
  | p :: rest => queuePages rest ws (queuePage p ws s)

/-! ## The writer (R159) -/

/-- An entry that is cancelled when the writer takes it (R159). -/
def cancelled (s : State) (e : QEntry) : Bool := pageOf s e.page = committed s e.page

/-- The entries from the first that is not cancelled on. -/
def skipCancelled (s : State) : List QEntry → List QEntry
  | [] => []
  | e :: es => if cancelled s e then skipCancelled s es else e :: es

/-- The idle writer takes the head while the supply is OK, entries are cancelled, and the room wait list is served, as one
act (R158, R159, R162). -/
def serviceStore (s : State) : State :=
  let all := s.ks.queue ++ s.ks.room
  match s.ks.writer with
  | some _ => { s with ks := { s.ks with queue := all.take Config.storeRoom, room := all.drop Config.storeRoom } }
  | none =>
    if s.supplyOk then
      match skipCancelled s all with
      | [] => { s with ks := { s.ks with queue := [], room := [] } }
      | e :: es =>
        { s with ks := { s.ks with queue := es.take Config.storeRoom, room := es.drop Config.storeRoom,
                                   writer := some { page := e.page, content := pageOf s e.page, waiters := e.waiters } } }
    else { s with ks := { s.ks with queue := all.take Config.storeRoom, room := all.drop Config.storeRoom } }

/-- A page as a completed write leaves it: INTACT, or BLANK after an erasure (R159). -/
def writtenAs : Option Page → Stored
  | some c => .intact c
  | none => .blank

/-- The write in progress completes: the page holds the copy written, the waiters are released, the writer is IDLE
(R159). -/
def completeWrite (s : State) : State :=
  match s.ks.writer with
  | some x => { s with ks := { s.ks with pages := put s.ks.pages x.page (writtenAs x.content), writer := none } }
  | none => s

/-! ## Waiting (R158, R160) -/

/-- An entry of the list holds the waiter. -/
def listsWaiter (es : List QEntry) (k : Waiter) : Bool := es.any fun e => e.waiters.contains k

/-- The block is a waiter of some entry, or of the write in progress. -/
def waits (k : Waiter) (s : State) : Bool :=
  listsWaiter s.ks.queue k || listsWaiter s.ks.room k ||
    (match s.ks.writer with
     | some x => x.waiters.contains k
     | none => false)

/-- The block is a waiter of an entry of the page, or of the page's write in progress (R160). -/
def waitsFor (k : Waiter) (p : PageId) (s : State) : Bool :=
  listsWaiter (s.ks.queue.filter fun e => e.page = p) k || listsWaiter (s.ks.room.filter fun e => e.page = p) k ||
    (match s.ks.writer with
     | some x => x.page = p && x.waiters.contains k
     | none => false)

/-- The pages on the room wait list whose content an act changed (R158), whichever block the act had queue them (DEDUCED, entry
48). -/
def roomTouched (before after : State) : List PageId :=
  (after.ks.room.map QEntry.page).filter fun p => pageOf before p ≠ pageOf after p

/-- None of the pages stands on the room wait list. -/
def roomClear (ps : List PageId) (s : State) : Bool := ps.all fun p => !onList s.ks.room p

/-- The Wipe Engine waits for room: an entry of its own, or the journal, which no other block queues once start-up has ended,
stands on the room wait list (R158). -/
def wipeWantsRoom (s : State) : Bool := listsWaiter s.ks.room .wipe || onList s.ks.room journalPage

end Sys2Proof.Machine
end

