-- ==== Sys2Proof/Machine/Keys.lean ====
section
/-! DEFINITION. The Live Key Table and the lock flags: loads, removals, locks, unlocks, holds (R3 to R14). -/

namespace Sys2Proof.Machine

/-! ## One entry (R12) -/

/-- An entry after a load: a load into an absent entry, or of a different key, raises the epoch (R12). -/
def loaded (k : MediaKey) (e : LiveKey) : LiveKey :=
  if e.key = some k then e else { key := some k, epoch := e.epoch + 1 }

/-- An entry after a removal: the removal of a present entry raises the epoch (R12). -/
def removed (e : LiveKey) : LiveKey :=
  if e.key.isSome then { key := none, epoch := e.epoch + 1 } else e

/-- An entry after a range change of its band (R12). -/
def bumped (e : LiveKey) : LiveKey := { e with epoch := e.epoch + 1 }

/-- A band's entry is replaced. -/
def setBandKey (b : BandId) (e : LiveKey) (s : State) : State :=
  { s with keys := { s.keys with bands := put s.keys.bands b e } }

/-- The COVER entry is loaded (R13). -/
def loadCover (k : MediaKey) (s : State) : State :=
  { s with keys := { s.keys with cover := loaded k s.keys.cover } }

/-- The FILL entry is loaded (R13, R142). -/
def loadFill (k : MediaKey) (s : State) : State :=
  { s with keys := { s.keys with fill := loaded k s.keys.fill } }

/-- The FILL entry is removed (R13, R147). -/
def removeFill (s : State) : State :=
  { s with keys := { s.keys with fill := removed s.keys.fill } }

/-- Every band's flags and entry are replaced by what a function gives for the band. -/
def tabBands (f : BandId → BandFlags × LiveKey) (s : State) : State :=
  { s with bands := tab16 fun b => (f b).1, keys := { s.keys with bands := tab16 fun b => (f b).2 } }

/-- A band's flags and entry. -/
def bandPair (s : State) (b : BandId) : BandFlags × LiveKey := (flags s b, s.keys.bands.get b)

/-- One band's flags and entry are replaced. -/
def setPair (b : BandId) (x : BandFlags × LiveKey) (s : State) : State := setBandKey b x.2 (setFlags b x.1 s)

/-! ## Locks (R3) -/

/-- A lock acts on the band: not in ALARM or WIPING, not on a band with a pending open load, held, or without a band secret
(R3). -/
def lockActs (s : State) (b : BandId) : Bool :=
  !barred s && !(flags s b).pendingLoad && !(flags s b).held && hasSecret s b

/-- Flags with the values a lock gives. -/
def withLock (r : BandRecord) (f : BandFlags) : BandFlags :=
  { f with readLocked := (lockFlags r).1, writeLocked := (lockFlags r).2 }

/-- A band's flags and entry after a lock (R3). -/
def lockPair (s : State) (b : BandId) : BandFlags × LiveKey :=
  let f := flags s b
  let f' := withLock (record s b) f
  if !lockActs s b || f' = f then bandPair s b
  else (f', if closed f' then removed (s.keys.bands.get b) else s.keys.bands.get b)

/-- Every band of a selection is locked (R3, R6, R7). -/
def lockBands (sel : BandId → Bool) (s : State) : State :=
  tabBands (fun b => if sel b then lockPair s b else bandPair s b) s

/-- A relock event locks every band whose relock set holds it (R6). -/
def relock (e : Relock) (s : State) : State := lockBands (relocks s e) s

/-- LOCK_ALL locks every band whose RLE or WLE is true (R7). -/
def lockAll (s : State) : State := lockBands (fun b => (record s b).rle || (record s b).wle) s

/-! ## Unlocks (R4) -/

/-- An unlock of the band is discarded (R4, R167). -/
def unlockDiscarded (s : State) (b : BandId) : Bool := barred s || (flags s b).held || !hasSecret s b

/-- A flag after an unlock: cleared if named; else as a lock would give it where the unlock ends a pending open load, and
else as it was (R4). -/
def unlockFlag (namedDir pendingLoad old lockValue : Bool) : Bool :=
  if namedDir then false else if pendingLoad then lockValue else old

/-- A band's flags and entry after an unlock for READ, WRITE or both, with its derived key (R4). -/
def unlockPair (s : State) (b : BandId) (read write : Bool) (k : MediaKey) : BandFlags × LiveKey :=
  let f := flags s b
  let l := lockFlags (record s b)
  ({ f with readLocked := unlockFlag read f.pendingLoad f.readLocked l.1,
            writeLocked := unlockFlag write f.pendingLoad f.writeLocked l.2, pendingLoad := false },
   loaded k (s.keys.bands.get b))

/-- A band is unlocked, or the unlock is discarded (R4). An unlock with no direction changes nothing. -/
def unlockBand (b : BandId) (read write : Bool) (k : MediaKey) (s : State) : State :=
  if unlockDiscarded s b || !(read || write) then s else setPair b (unlockPair s b read write k) s

/-! ## Enables, holds and closings (R5, R14, R16, R17) -/

/-- A band's flags and entry when it is brought to its enables with its key at hand: closed where the theft state or a
missing band secret keeps it so (R16, R17, R19, R167). -/
def settlePair (s : State) (b : BandId) (k : Option MediaKey) : BandFlags × LiveKey :=
  let e := s.keys.bands.get b
  let shut : BandFlags := { readLocked := true, writeLocked := true, pendingLoad := false, held := false }
  let f := withLock (record s b) shut
  if barred s || !hasSecret s b || closed f then (shut, removed e)
  else
    match k with
    | some x => (f, if e.key.isSome then e else loaded x e)
    | none => if e.key.isSome then (f, e) else (shut, e)

/-- A band is brought to its enables. -/
def settleBand (b : BandId) (k : Option MediaKey) (s : State) : State := setPair b (settlePair s b k) s

/-- A band is held closed until its band secret page is written (R17, R19). -/
def holdClosed (b : BandId) (s : State) : State :=
  setPair b ({ readLocked := true, writeLocked := true, pendingLoad := false, held := true },
    removed (s.keys.bands.get b)) s

/-- A band's flags and entry on entry into ALARM or WIPING (R14). -/
def shutPair (s : State) (b : BandId) : BandFlags × LiveKey :=
  ({ flags s b with readLocked := true, writeLocked := true, pendingLoad := false }, removed (s.keys.bands.get b))

/-- Entry into ALARM or WIPING: every band is closed, every band entry removed, every pending open load dropped (R14, R5). -/
def shutBands (s : State) : State := tabBands (shutPair s) s

/-- A band's flags and entry on a return from ALARM or on entry into WIPED: a band that a lock would leave not closed is held
for its open load (R5); a band held by a request, or without a band secret, stays as it is (R3, R167). -/
def awaitPair (s : State) (b : BandId) : BandFlags × LiveKey :=
  let f := flags s b
  if f.held || !hasSecret s b then bandPair s b
  else if closedPair (lockFlags (record s b)) then
    ({ f with readLocked := true, writeLocked := true, pendingLoad := false }, removed (s.keys.bands.get b))
  else ({ f with readLocked := true, writeLocked := true, pendingLoad := true }, removed (s.keys.bands.get b))

/-- Every band is brought to its enables, or held for its pending open load (R5, R14). -/
def awaitBands (s : State) : State := tabBands (awaitPair s) s

/-- Some band holds a pending open load (R5). -/
def anyPending (s : State) : Bool := allBands.any fun b => (flags s b).pendingLoad

/-- A band's flags and entry when the job that derived the pending keys completes (R5). -/
def openLoadPair (s : State) (b : BandId) : BandFlags × LiveKey :=
  if (flags s b).pendingLoad && !barred s then settlePair s b (openKey s b) else bandPair s b

/-- The pending open loads are applied (R5). -/
def applyOpenLoads (s : State) : State := tabBands (openLoadPair s) s

end Sys2Proof.Machine
end

