-- ==== Sys2Proof/Machine/Engine.lean ====
section
/-! DEFINITION. The Derivation Engine: handing a job, the arbiter, the end of a job (R88 to R90). -/

namespace Sys2Proof.Machine

/-- The Wipe Engine's previous job has not completed (R88). -/
def wipeBusy (s : State) : Bool :=
  s.engine.wipe.isSome ||
    (match s.engine.running with
     | some (.wipe, _) => true
     | _ => false)

/-- Start-up hands a job. -/
def handStartup (j : Job) (s : State) : State := { s with engine := { s.engine with startup := some j } }

/-- The Wipe Engine keeps a job back. -/
def keepBack (j : Job) (s : State) : State := { s with wipe := { s.wipe with toHand := some j } }

/-- The Wipe Engine hands a job, at once or when its previous job has completed (R88). -/
def handWipe (j : Job) (s : State) : State :=
  if wipeBusy s then keepBack j s
  else { s with engine := { s.engine with wipe := some j } }

/-- A job of the Wipe Engine may not be handed yet: its previous job has not completed (R88), or it is the open load of DONE and
a page that DONE queued waits for room (R158; DEDUCED, entry 45). -/
def heldBack (j : Job) (s : State) : Bool := wipeBusy s || (decide (j = .openLoad) && wipeWantsRoom s)

/-- A Wipe Engine job that was kept back is handed (R88, R158). -/
def handHeldWipe (s : State) : State :=
  match s.wipe.toHand with
  | some j =>
    if heldBack j s then s
    else { s with engine := { s.engine with wipe := some j }, wipe := { s.wipe with toHand := none } }
  | none => s

/-- The check-in compare is handed (R125). -/
def handCompare (token : Secret) (s : State) : State :=
  { s with engine := { s.engine with compare := some (.compare token) } }

/-- A mailbox hands a job. -/
def handMailbox (p : Port) (j : Job) (s : State) : State :=
  match p with
  | .link => { s with engine := { s.engine with link := some j } }
  | .side => { s with engine := { s.engine with side := some j } }

/-- A mailbox's waiting job is withdrawn (R90). -/
def withdraw (p : Port) (s : State) : State :=
  match p with
  | .link => { s with engine := { s.engine with link := none } }
  | .side => { s with engine := { s.engine with side := none } }

/-- The request a mailbox holds is started (R81). -/
def markStarted (p : Port) (s : State) : State :=
  match box p s with
  | some h => setBox p (some { h with started := true }) s
  | none => s

/-- The arbiter chooses a mailbox's job; the mailbox is now last served (R89). -/
def grantMailbox (p : Port) (j : Job) (s : State) : State :=
  markStarted p
    { withdraw p s with
      engine := { (withdraw p s).engine with running := some (.mailbox p, j), lastServed := p } }

/-- The port that is not the given one. -/
def otherPort : Port → Port
  | .link => .side
  | .side => .link

/-- The job that waits from a mailbox. -/
def mailboxJob (p : Port) (s : State) : Option Job :=
  match p with
  | .link => s.engine.link
  | .side => s.engine.side

/-- The arbiter's choice among the jobs that wait, while none runs (R89). -/
def grant (s : State) : State :=
  match s.engine.running with
  | some _ => s
  | none =>
    match s.engine.startup with
    | some j => { s with engine := { s.engine with running := some (.startup, j), startup := none } }
    | none =>
      match s.engine.wipe with
      | some j => { s with engine := { s.engine with running := some (.wipe, j), wipe := none } }
      | none =>
        match s.engine.compare with
        | some j => { s with engine := { s.engine with running := some (.compare, j), compare := none } }
        | none =>
          match mailboxJob (otherPort s.engine.lastServed) s with
          | some j => grantMailbox (otherPort s.engine.lastServed) j s
          | none =>
            match mailboxJob s.engine.lastServed s with
            | some j => grantMailbox s.engine.lastServed j s
            | none => s

/-- The running job has ended (R90). -/
def endJob (s : State) : State := { s with engine := { s.engine with running := none } }

end Sys2Proof.Machine
end

