-- ==== Sys2Proof/Machine/Watch.lean ====
section
/-! DEFINITION. A change of the theft state but for the lanes it reaches (R116, R14). -/

namespace Sys2Proof.Machine

/-- The watch page after a change to a state other than SUSPECT: no cause, no grace (R116). The policy and the tamper latch stand
as they were, through WIPING, WIPED and OWN too (DEDUCED, entry 43). -/
def watchAs (t : Theft) (w : Watch) : Watch := { w with theft := t, cause := none, graceSeconds := 0 }

/-- The Theft Watch Unit's counters after a change: the grace ends, and on entry into DORMANT, WIPING or WIPED the check-in
counter becomes 0 (R116). -/
def countersAs (t : Theft) (u : WatchUnit) : WatchUnit :=
  match t with
  | .dormant | .wiping | .wiped => { u with grace := 0, counter := 0 }
  | _ => { u with grace := 0 }

/-- The blocks that wait for the watch page of a change (R137, R148). -/
def watchWaiters (t : Theft) : List Waiter :=
  match t with
  | .wiping | .wiped => [.wipe]
  | _ => []

/-- The bands and live keys after a change from one theft state to another (R14, R116). -/
def bandsAs (old new : Theft) (s : State) : State :=
  match new with
  | .alarm | .wiping => shutBands s
  | .wiped => awaitBands s
  | _ => if old = .alarm then awaitBands s else s

/-- The theft state changes to a state other than SUSPECT (R116): working copy, counters, bands and keys, watch page. -/
def theftCore (t : Theft) (s : State) : State :=
  queuePage watchPage (watchWaiters t)
    (bandsAs (theft s) t { s with w := { s.w with watch := watchAs t s.w.watch }, twu := countersAs t s.twu })

/-- The theft state becomes SUSPECT with a cause and the policy's grace period (R130). -/
def suspectCore (i : Indicator) (seconds : Nat) (s : State) : State :=
  queuePage watchPage []
    { s with w := { s.w with watch := { s.w.watch with theft := .suspect, cause := some i, graceSeconds := seconds } },
             twu := { s.twu with grace := seconds * Config.ticksPerSecond } }

/-- A change is announced: a STATE message and THEFT_CHANGE, but not while start-up runs (R69, R116). -/
def announce (s : State) : State := if linkUp s then raise noticeTheft (handState s) else s

end Sys2Proof.Machine
end

