-- ==== Sys2Proof/Machine/Wipe.lean ====
section
/-! DEFINITION. The Wipe Engine: its plan, scrub orders, watermark, pass ends, results and DONE (R135 to R149). -/

namespace Sys2Proof.Machine

/-- A fresh plan (R135). -/
def freshPlan (cause : Cause) (passes : Passes) (phase : Phase) : Plan :=
  { cause := some cause, phase := phase, passes := passes, pass := 0, watermark := 0, stop := false, written := 0,
    refused := 0 }

/-- The journal is queued, and the Wipe Engine waits for its write (R137, R160). -/
def journalWait (s : State) : State := queuePage journalPage [.wipe] s

/-- The journal is queued; nothing waits for it. -/
def journalQueue (s : State) : State := queuePage journalPage [] s

/-- The Wipe Engine is handed a wipe (R135): the plan, and phase ROOT waits for the journal and the watch page (R137). A wipe
begun in WIPED before that page is written drops the DONE of the one before, and its open-load job if not yet handed (R148;
DESIGN CHOICE, entry 52). -/
def wipeBegin (cause : Cause) (passes : Passes) (s : State) : State :=
  journalWait
    { setPlan (freshPlan cause passes .root) s with
      wipe := { s.wipe with activity := .rootWait, abandon := false, issuePoint := 0, running := false, written := 0,
                            refused := 0, rootNeeds := false, toHand := none } }

/-! ## Results (R149) -/

/-- A result goes into the next record of the ring (R149). -/
def ringResult (ended : Ended) (pass written refused : Nat) (s : State) : State :=
  let i := s.wipe.ringNext
  let lost := match s.wipe.ring.get i with
    | some r => r.unread
    | none => false
  { s with wipe := { s.wipe with
      ring := put s.wipe.ring i (some { cause := s.w.plan.cause, pass := pass, written := written, refused := refused,
                                        ended := ended, unread := true, overrun := lost }),
      ringNext := i + 1 } }

/-- A result is stored, and SCRUB_RESULT set in the same act (R149); one that start-up stores is announced when start-up
completes (R181; DESIGN CHOICE, entry 36). -/
def storeResult (ended : Ended) (pass written refused : Nat) (s : State) : State :=
  raise (if linkUp s then noticeResult else 0) (ringResult ended pass written refused s)

/-! ## DONE (R148) -/

/-- The job that loads the bands held at DONE is handed, if any band is held (R148), or kept back until the pages of DONE have room
(R158; DEDUCED, entry 45). -/
def handOpenLoad (s : State) : State :=
  if anyPending s then (if wipeWantsRoom s then keepBack .openLoad s else handWipe .openLoad s) else s

/-- The wipe reaches DONE (R148): WIPED, the bands held for their open loads and their job handed; the journal waits for the
watch page. -/
def goDone (s : State) : State :=
  setActivity .doneWait (handOpenLoad (announce (theftCore .wiped s)))

/-! ## Orders (R143) -/

/-- The order that the issue point gives for a slot (R143). -/
def nextOrder (s : State) : Order :=
  { pass := s.w.plan.pass, first := s.wipe.issuePoint, count := min 256 (scrubEnd s - s.wipe.issuePoint),
    answered := false }

/-- An empty slot is given the next order, and its SCRUB_ORDER is handed, while the issue point is below E (R143). -/
def issueOne (i : OrderSlot) (s : State) : State :=
  match s.wipe.orders.get i with
  | some _ => s
  | none =>
    if s.wipe.issuePoint < scrubEnd s then
      let o := nextOrder s
      hand (.scrubOrder i o.pass o.first o.count)
        { s with wipe := { s.wipe with orders := put s.wipe.orders i (some o), issuePoint := o.first + o.count } }
    else s

/-- Orders are issued while a pass is running and the link is UP (R143). -/
def issueOrders (s : State) : State :=
  if s.wipe.running && linkUp s then issueOne 3 (issueOne 2 (issueOne 1 (issueOne 0 s))) else s

/-! ## Closings (R144 to R147) -/

/-- A pass count stops at its top (R136). -/
def addCount (a b : Nat) : Nat := min (a + b) Config.passCountTop

/-- The number of the pass after a pass (R147). -/
def passAfter (n : Nat) : Nat := if n = 65535 then 1 else n + 1

/-- The scrub ends with this pass (R147). -/
def lastPass (p : Plan) : Bool :=
  p.stop ||
    (match p.passes with
     | .times n => p.pass = n.val
     | .continuous => false)

/-- The plan takes the watermark and the counts (R136, R146). -/
def planTakes (s : State) : State :=
  setPlan { s.w.plan with watermark := watermark s, written := s.wipe.written, refused := s.wipe.refused } s

/-- The next pass is named, and begins when the journal is written (R147). -/
def namePass (n : Nat) (s : State) : State :=
  journalWait
    { setPlan { s.w.plan with phase := .scrub, pass := n, watermark := 0, written := 0, refused := 0 } s with
      wipe := { s.wipe with activity := .passWait, issuePoint := 0, written := 0, refused := 0 } }

/-- A pass ends (R147). -/
def passEnd (s : State) : State :=
  let ended : Ended := if s.w.plan.stop then .stopped else .complete
  let r := storeResult ended s.w.plan.pass s.wipe.written s.wipe.refused (removeFill (planTakes s))
  let t : State := { r with wipe := { r.wipe with running := false } }
  if lastPass t.w.plan then goDone t else namePass (passAfter t.w.plan.pass) t

/-- A running pass has no order open and none left to issue: it ends (R147). -/
def passOver (s : State) : Bool := s.wipe.running && noOrders s && scrubEnd s ≤ s.wipe.issuePoint

/-- The running pass ends where nothing of it is left, and else is given orders (R143, R147). -/
def endOrIssue (s : State) : State := if passOver s then passEnd s else issueOrders s

/-- The checkpoint of a closing that raised the watermark from `before` (R146). -/
def checkpoint (before : Nat) (s : State) : State :=
  if before / Config.checkpoint < watermark s / Config.checkpoint then journalQueue (planTakes s) else s

/-- After a closing: the checkpoint, then the end of the pass or new orders (R144). -/
def afterClosing (before : Nat) (s : State) : State := endOrIssue (checkpoint before s)

/-- An open order closes with its processed and refused counts (R144). -/
def orderClose (i : OrderSlot) (processed refused : Nat) (s : State) : State :=
  match s.wipe.orders.get i with
  | none => s
  | some _ =>
    afterClosing (watermark s)
      { s with wipe := { s.wipe with orders := put s.wipe.orders i none, written := addCount s.wipe.written processed,
                                     refused := addCount s.wipe.refused refused } }

/-- An open, unanswered order is refused; else the refusal is discarded (R75, R144). -/
def orderRefuse (slot : Byte) (s : State) : State :=
  if 3 < slot.toNat then s
  else
    let i : OrderSlot := Fin.ofNat 4 slot.toNat
    match s.wipe.orders.get i with
    | some o => if o.answered then s else orderClose i 0 o.count s
    | none => s

/-- A LINK_RESET cancels every open order and issues afresh from the watermark (R79, R145). -/
def ordersReset (s : State) : State :=
  if s.wipe.running then
    issueOrders { s with wipe := { s.wipe with issuePoint := watermark s, orders := Vector.replicate 4 none } }
  else { s with wipe := { s.wipe with orders := Vector.replicate 4 none } }

end Sys2Proof.Machine
end

