-- ==== Sys2Proof/Machine/Dq.lean ====
section
/-! DEFINITION. The Descriptor Queue: its records, the accounting of sectors, completions (R28, R42, R43, R70 to R72). -/

namespace Sys2Proof.Machine

/-- A tag is outstanding (R71). -/
def outstanding (s : State) (tag : Byte) : Bool := s.dq.any fun t => t.tag = tag

/-- The record of a tag. -/
def transfer (s : State) (tag : Byte) : Option Transfer := s.dq.find? fun t => t.tag = tag

/-- A record replaced by what a function gives for it. -/
def editRecord (tag : Byte) (f : Transfer → Transfer) : List Transfer → List Transfer
  | [] => []
  | t :: ts => if t.tag = tag then f t :: ts else t :: editRecord tag f ts

/-- A record is changed. -/
def editTransfer (tag : Byte) (f : Transfer → Transfer) (s : State) : State := { s with dq := editRecord tag f s.dq }

/-- The end of a transfer's addresses. -/
def transferEnd (t : Transfer) : Nat := t.first + t.count

/-- The first refusal after a refusal at an address (R35, R42). -/
def firstRefusal (old : Option (Nat × TStatus)) (a : Nat) (x : TStatus) : Option (Nat × TStatus) :=
  match old with
  | some (b, y) => if a < b then some (a, x) else some (b, y)
  | none => some (a, x)

/-- Sectors counted on a record: processed, or refused from an address with a status (R42). -/
def counted (n a : Nat) (x : Option TStatus) (t : Transfer) : Transfer :=
  match x with
  | none => { t with processed := t.processed + n }
  | some y => { t with refused := t.refused + n, firstRefusal := firstRefusal t.firstRefusal a y }

/-- Every sector of the transfer is counted, and its COMPLETION is not yet handed (R43). -/
def accounted (t : Transfer) : Bool := t.processed + t.refused = t.count && t.stage ≠ .completing

/-- The status of a transfer's completion (R43). -/
def completionStatus (t : Transfer) : TStatus :=
  match t.firstRefusal with
  | some (_, x) => if t.refused = 0 then .ok else x
  | none => .ok

/-- The COMPLETION of an admitted transfer (R43). -/
def completionOf (t : Transfer) : OutMsg :=
  .completion { tag := t.tag, status := completionStatus t, processed := t.processed, refused := t.refused,
                firstRefusal := t.firstRefusal } true

/-- A transfer that is accounted for hands its COMPLETION and enters COMPLETING; a SCRUB transfer closes its order (R43,
R72). -/
def account (tag : Byte) (s : State) : State :=
  match transfer s tag with
  | none => s
  | some t =>
    if accounted t then
      let s' := hand (completionOf t) (editTransfer tag (fun x => { x with stage := .completing }) s)
      match t.order with
      | some i => orderClose i t.processed t.refused s'
      | none => s'
    else s

/-- Sectors are reported to the DQ: processed, or refused from an address with a status (R42, R50). -/
def report (tag : Byte) (n a : Nat) (x : Option TStatus) (s : State) : State :=
  account tag (editTransfer tag (counted n a x) s)

/-- A COMPLETION of an admitted transfer has been sent: its record leaves and its tag is free (R72). -/
def release (tag : Byte) : List Transfer → List Transfer
  | [] => []
  | t :: ts => if t.tag = tag && t.stage = .completing then ts else t :: release tag ts

end Sys2Proof.Machine
end

