-- ==== Sys2Proof/Machine/Lanes.lean ====
section
/-! DEFINITION. The cipher lanes: taking a segment, the key check, sectors, refusals (R45 to R57). -/

namespace Sys2Proof.Machine

/-! ## Segments -/

/-- The address a sector of a segment is reported under: its drive address, or for FILL its media address (R39). -/
def sectorAddress (g : Segment) (i : Nat) : Nat := g.drive + i * g.stride

/-- The media address, which is the tweak, of a sector of a segment (R39). -/
def sectorMedia (g : Segment) (i : Nat) : Nat := g.media + i * g.stride

/-- A lane with no segment in flight. -/
def restLane (q : List Segment) : Lane := { queue := q, inFlight := none, state := .idle, timer := none }

/-- A lane that serves a segment whose key check passed (R48). -/
def servingLane (g : Segment) (q : List Segment) : Lane :=
  match g.direction with
  | .fill => { queue := q, inFlight := some g, state := .filling, timer := none }
  | _ => { queue := q, inFlight := some g, state := .awaiting, timer := some Config.dataWait }

/-- A lane begins a segment whose key check passed: FETCH, PULL or filling (R48). -/
def startSegment (l : LaneId) (g : Segment) (q : List Segment) (s : State) : State :=
  let t := setLane l (servingLane g q) s
  match g.direction with
  | .read => hand (.fetch g.tag g.media g.stride g.count) t
  | .write => hand (.pull g.tag g.drive g.media g.stride g.count) t
  | .fill => t

/-- A lane with no segment in flight takes the head of its queue, and each next head while the key check refuses it; with
none left it is IDLE (R46, R48). -/
def takeFrom (l : LaneId) : List Segment → State → State
  | [], s => setLane l (restLane []) s
  | g :: q, s =>
    match keyCheck s g.key g.epoch with
    | some x => takeFrom l q (report g.tag g.count g.drive (some x) s)
    | none => startSegment l g q s

/-- The segment in flight ends: the lane is at rest (R50). -/
def dropSegment (l : LaneId) (s : State) : State := setLane l (restLane (lane l s).queue) s

/-- The lane takes the head of its queue. -/
def takeNext (l : LaneId) (s : State) : State := takeFrom l (lane l s).queue s

/-- The segment in flight ends refused with its remaining sectors in one report, and the lane takes its next (R50). -/
def endRefused (l : LaneId) (g : Segment) (x : TStatus) (s : State) : State :=
  takeNext l (report g.tag (g.count - g.done) (sectorAddress g g.done) (some x) (dropSegment l s))

/-- A lane after a change of live keys: a segment in flight whose check fails ends, and a lane at rest takes its head (R46,
R49). -/
def laneReact (l : LaneId) (s : State) : State :=
  match (lane l s).inFlight with
  | some g =>
    match keyCheck s g.key g.epoch with
    | some x => endRefused l g x s
    | none => s
  | none => if (lane l s).queue.isEmpty then s else takeNext l s

/-- Both lanes after a change of live keys (R49): lane A, then lane B, whose order within the act the manual leaves open (R43, R46,
R72; DESIGN CHOICE, entry 31). -/
def lanesReact (s : State) : State := laneReact .b (laneReact .a s)

/-! ## Sectors -/

/-- The bytes of a sector enciphered under a key with a tweak (entry 5). -/
def encipher (k : MediaKey) (tweak : Nat) (data : List Byte) : List Byte :=
  (List.range data.length).map fun i => Config.encipherByte k tweak data i

/-- The bytes of a sector deciphered under a key with a tweak (entry 5). -/
def decipher (k : MediaKey) (tweak : Nat) (data : List Byte) : List Byte :=
  (List.range data.length).map fun i => Config.decipherByte k tweak data i

/-- The message a transformed sector leaves in (R51 to R53). -/
def sectorMsg (k : MediaKey) (g : Segment) (data : List Byte) : OutMsg :=
  match g.direction with
  | .read => .plainSector g.tag (sectorAddress g g.done) (decipher k (sectorMedia g g.done) data)
  | _ => .cipherSector g.tag (sectorMedia g g.done) (encipher k (sectorMedia g g.done) data)

/-- A segment one sector on (R51). -/
def advanced (g : Segment) : Segment := { g with done := g.done + 1 }

/-- A lane after a sector: the segment ends complete and the next is taken, or it goes on with a fresh timer (R51 to R53). -/
def afterSector (l : LaneId) (g : Segment) (s : State) : State :=
  if g.done + 1 < g.count then setLane l (servingLane (advanced g) (lane l s).queue) s
  else takeNext l (dropSegment l s)

/-- A sector is transformed as one act under a key: the message is handed, the sector counted, and the segment goes on
(R51 to R53, R57). -/
def transform (l : LaneId) (g : Segment) (k : MediaKey) (data : List Byte) (s : State) : State :=
  afterSector l g (report g.tag 1 (sectorAddress g g.done) none (hand (sectorMsg k g data) s))

/-- A sector is transformed if the key check passes; else the segment ends with the check's status (R47, R49). -/
def transformChecked (l : LaneId) (g : Segment) (data : List Byte) (s : State) : State :=
  match keyCheck s g.key g.epoch with
  | some x => endRefused l g x s
  | none =>
    match (entry s g.key).key with
    | some k => transform l g k data s
    | none => s

/-- The address compared with a message's: the media address for READ, the drive address for WRITE (R54). -/
def comparedBase (g : Segment) : Nat :=
  match g.direction with
  | .read => g.media
  | _ => g.drive

/-- An address lies in a segment's address set (R54). -/
def inAddressSet (g : Segment) (a : Nat) : Bool :=
  comparedBase g ≤ a && (a - comparedBase g) % g.stride = 0 && (a - comparedBase g) / g.stride < g.count

/-- The segment in flight of a lane that a sector message matches (R54). -/
def matching (l : LaneId) (d : Direction) (tag : Byte) (a : Nat) (s : State) : Option Segment :=
  match (lane l s).state, (lane l s).inFlight with
  | .awaiting, some g => if g.direction = d && g.tag = tag && inAddressSet g a then some g else none
  | _, _ => none

/-- A sector that matches a lane's segment in flight: transformed if awaited, else out of order (R51, R52, R55). -/
def laneSector (l : LaneId) (g : Segment) (a : Nat) (data : List Byte) (s : State) : State :=
  if a = comparedBase g + g.done * g.stride then transformChecked l g data s
  else endRefused l g .sequenceError s

/-- A sector message is given to the lane whose segment in flight it matches, or discarded (R54). -/
def sectorArrives (d : Direction) (tag : Byte) (a : Nat) (data : List Byte) (s : State) : State :=
  match matching .a d tag a s with
  | some g => laneSector .a g a data s
  | none =>
    match matching .b d tag a s with
    | some g => laneSector .b g a data s
    | none => s

/-- A sector of zero bytes in the drive's format. -/
def zeroSector (s : State) : List Byte := List.replicate (sectorSize s) 0

/-- A lane in FILLING makes its next fill sector while the outbound queue holds fewer than 64 messages (R53, R68). -/
def fillNext (l : LaneId) (s : State) : State :=
  match (lane l s).state, (lane l s).inFlight with
  | .filling, some g => if inboundHeld s then s else transformChecked l g (zeroSector s) s
  | _, _ => s

/-- A lane's data-wait timer has reached 0 (R56). -/
def timedOut (l : LaneId) (s : State) : Bool := (lane l s).state = .awaiting && (lane l s).timer = some 0

/-- The data-wait timer expires: the segment ends with its remaining sectors refused DATA_TIMEOUT (R56). -/
def expire (l : LaneId) (s : State) : State :=
  if timedOut l s then
    match (lane l s).inFlight with
    | some g => endRefused l g .dataTimeout s
    | none => s
  else s

/-- A tick lowers the data-wait timer of a lane in AWAITING (R56). -/
def laneTick (x : Lane) : Lane :=
  match x.state with
  | .awaiting => { x with timer := x.timer.map fun n => n - 1 }
  | _ => x

end Sys2Proof.Machine
end

