-- ==== Sys2Proof/Machine/Translate.lean ====
section
/-! DEFINITION. Sector translation: admission, pieces, the access decision, segments and their placement (R25 to R41). -/

namespace Sys2Proof.Machine

/-! ## Admission (R25 to R28) -/

/-- The kind a code names (R185). -/
def kindOf (x : Byte) : Option Kind :=
  if x = 0 then some .read else if x = 1 then some .write else if x = 2 then some .scrub else none

/-- A SCRUB descriptor passes its order slot check (R26). -/
def orderMatches (slot : Byte) (a n : Nat) (s : State) : Bool :=
  slot.toNat ≤ 3 &&
    (match s.wipe.orders.get (Fin.ofNat 4 slot.toNat) with
     | some o => !o.answered && o.first = a && o.count = n
     | none => false)

/-- The first check that refuses a descriptor (R25). -/
def admission (kind tag stream : Byte) (a n : Nat) (slot : Byte) (s : State) : Option TStatus :=
  if n = 0 || kindOf kind = none || 1 < stream.toNat then some .badDescriptor
  else if outstanding s tag then some .dupTag
  else if Config.dqRoom ≤ s.dq.length then some .queueFull
  else if kindOf kind ≠ some .scrub && capacity s < a + n then some .outOfRange
  else if kindOf kind = some .scrub && !orderMatches slot a n s then some .badOrder
  else none

/-- The COMPLETION of a descriptor refused at admission (R27). -/
def refusalOf (tag : Byte) (a n : Nat) (x : TStatus) : OutMsg :=
  .completion { tag := tag, status := x, processed := 0, refused := n,
                firstRefusal := if n = 0 then none else some (a, x) } false

/-- The record of an admitted descriptor (R28). -/
def newTransfer (kind : Kind) (tag stream : Byte) (a n : Nat) (slot : Byte) : Transfer :=
  { tag := tag, kind := kind, stream := stream ≠ 0, first := a, count := n,
    order := if kind = .scrub then some (Fin.ofNat 4 slot.toNat) else none, progress := a, processed := 0, refused := 0,
    firstRefusal := none, stage := .queued }

/-- The order in a slot is marked answered (R26). -/
def markAnswered (slot : Byte) (s : State) : State :=
  let i : OrderSlot := Fin.ofNat 4 slot.toNat
  { s with wipe := { s.wipe with orders := put s.wipe.orders i ((s.wipe.orders.get i).map fun o => { o with answered := true }) } }

/-- The first queued transfer with untranslated addresses. -/
def nextTransfer (s : State) : Option Transfer := s.dq.find? fun t => t.progress < transferEnd t && t.stage = .queued

/-- The STU takes the oldest transfer with untranslated addresses as its current transfer, when it has none (R29). -/
def stuTake (s : State) : State :=
  match s.stu.current with
  | some _ => s
  | none =>
    match nextTransfer s with
    | some t => editTransfer t.tag (fun x => { x with stage := .translating }) { s with stu := { s.stu with current := some t.tag } }
    | none => s

/-- The DQ takes a descriptor: it is refused at once, or admitted as a transfer (R25 to R28). -/
def takeDescriptor (kind tag stream : Byte) (a n : Nat) (slot : Byte) (s : State) : State :=
  match admission kind tag stream a n slot s with
  | some x => hand (refusalOf tag a n x) s
  | none =>
    match kindOf kind with
    | none => s
    | some k =>
      let t : State := { s with dq := s.dq ++ [newTransfer k tag stream a n slot] }
      stuTake (if k = .scrub then markAnswered slot t else t)

/-! ## Pieces (R30 to R32) -/

/-- The start and the end of a used band 1 to 15. -/
def bandEdges (s : State) : List Nat :=
  rangedBands.flatMap fun b =>
    if (record s b).length = 0 then [] else [(record s b).start, (record s b).start + (record s b).length]

/-- The cut points of a transfer of a kind (R30, R31). -/
def cutPoints (k : Kind) (s : State) : List Nat :=
  let split := if s.w.config.mode = .split then [s.w.config.split] else []
  match k with
  | .scrub => split
  | _ => (if coverActive s then [s.w.config.coverLength] else []) ++ bandEdges s ++ split

/-- The least of a list strictly between `p` and `bound`, or `bound` (R30). -/
def leastCut (p : Nat) : Nat → List Nat → Nat
  | bound, [] => bound
  | bound, c :: cs => leastCut p (if p < c && c < bound then c else bound) cs

/-- The end of the piece that begins at a transfer's progress (R30, R31). -/
def pieceEnd (t : Transfer) (s : State) : Nat := leastCut t.progress (transferEnd t) (cutPoints t.kind s)

/-- A cover piece: the cover is active and the piece lies below L (R32). -/
def coverPiece (t : Transfer) (s : State) : Bool :=
  t.kind ≠ .scrub && coverActive s && t.progress < s.w.config.coverLength

/-- The outcome of a piece: the first row of the table that applies (R33). -/
def decide33 (t : Transfer) (s : State) : Verdict :=
  let b := bandOf s t.progress
  if t.kind = .scrub then .allowed .fill
  else if theft s = .wiping then .refused .wiping
  else if theft s = .alarm then .refused .alarm
  else if coverPiece t s && t.kind = .read then .allowed .cover
  else if coverPiece t s && !s.coverPermit then .refused .covered
  else if coverPiece t s then .allowed .cover
  else if t.kind = .read && (flags s b).readLocked then .refused .locked
  else if t.kind = .write && (flags s b).writeLocked then .refused .locked
  else if !present s (.band b) then .refused .locked
  else .allowed (.band b)

/-! ## Segments (R36 to R39) -/

/-- The media address of a piece's address (R36). -/
def mediaOf (t : Transfer) (s : State) (a : Nat) : Nat := if coverPiece t s then capacity s + a else a

/-- The direction of a transfer's segments (R39). -/
def directionOf : Kind → Direction
  | .read => .read
  | .write => .write
  | .scrub => .fill

/-- A segment of a piece (R39). -/
def segmentOf (t : Transfer) (s : State) (k : KeyName) (a stride n : Nat) : Segment :=
  { tag := t.tag, direction := directionOf t.kind, key := k, epoch := (entry s k).epoch, drive := a,
    media := mediaOf t s a, stride := stride, count := n, done := 0 }

/-- The runs of at most 256 sectors from an address upward (R37). -/
def runs256 : Nat → Nat → Nat → List (Nat × Nat)
  | 0, _, _ => []
  | fuel + 1, a, n => if n = 0 then [] else (a, min 256 n) :: runs256 fuel (a + 256) (n - 256)

/-- The lane of an address's parity (R38). -/
def parityLane (a : Nat) : LaneId := if a % 2 = 0 then .a else .b

/-- The shares of the chunk of `k` sectors at `c`, each with its lane, first address and count (R38). -/
def chunkShares (c k : Nat) : List (LaneId × Nat × Nat) :=
  (parityLane c, c, (k + 1) / 2) :: (if k / 2 = 0 then [] else [(parityLane (c + 1), c + 1, k / 2)])

/-- The shares of the chunks of 512 sectors from an address upward (R38). -/
def stripeShares : Nat → Nat → Nat → List (LaneId × Nat × Nat)
  | 0, _, _ => []
  | fuel + 1, a, n => if n = 0 then [] else chunkShares a (min 512 n) ++ stripeShares fuel (a + 512) (n - 512)

/-- The lane of a whole piece in the modes SINGLE, SPLIT and STREAM (R37). -/
def wholeLane (t : Transfer) (s : State) : LaneId :=
  match s.w.config.mode with
  | .split => if t.progress < s.w.config.split then .a else .b
  | .stream => if t.stream then .b else .a
  | _ => .a

/-- The lane plan of an allowed piece of `n` sectors from the transfer's progress: its segments with their lanes, in
placement order (R37 to R40). -/
def lanePlan (t : Transfer) (s : State) (k : KeyName) (n : Nat) : List (LaneId × Segment) :=
  match s.w.config.mode with
  | .stripe => (stripeShares (n / 512 + 1) t.progress n).map fun x => (x.1, segmentOf t s k x.2.1 2 x.2.2)
  | _ => (runs256 (n / 256 + 1) t.progress n).map fun x => (wholeLane t s, segmentOf t s k x.1 1 x.2)

/-! ## Placement (R40) -/

/-- A lane queue holds 16 waiting segments. -/
def laneFull (l : LaneId) (s : State) : Bool := Config.laneRoom ≤ (lane l s).queue.length

/-- A segment joins the tail of a lane queue; an idle lane takes it as it is placed (R40, R46). -/
def placeSegment (l : LaneId) (g : Segment) (s : State) : State :=
  let x := lane l s
  match x.inFlight with
  | some _ => setLane l { x with queue := x.queue ++ [g] } s
  | none => takeFrom l (x.queue ++ [g]) s

/-- The remaining segments are placed in order until one finds its queue full; the index of the next to place, and whether
all are placed (R40). -/
def placeAll : List (LaneId × Segment) → Nat → State → State × Nat × Bool
  | [], i, s => (s, i, true)
  | (l, g) :: rest, i, s =>
    if laneFull l s then (s, i, false) else placeAll rest (i + 1) (placeSegment l g s)

/-- A transfer whose addresses are all translated (R29, R70). -/
def progressed (e : Nat) (t : Transfer) : Transfer :=
  { t with progress := e,
           stage := if transferEnd t ≤ e && t.stage = .translating then .translated else t.stage }

/-- A piece is refused or wholly placed: the progress becomes its end, and a fully translated transfer gives way to the next
(R29). -/
def pieceDone (tag : Byte) (e last : Nat) (s : State) : State :=
  let t := editTransfer tag (progressed e) { s with stu := { s.stu with piece := none, paused := false } }
  if last ≤ e then stuTake { t with stu := { t.stu with current := none } } else t

/-- The segments of the piece in progress are placed from its next on, with a pause at a full queue (R40). -/
def placePiece (tag : Byte) (x : Piece) (last : Nat) (s : State) : State :=
  match placeAll (x.plan.drop x.next) x.next s with
  | (t, _, true) => pieceDone tag (x.first + x.count) last t
  | (t, i, false) => { t with stu := { t.stu with piece := some { x with next := i }, paused := true } }

/-- The next piece of the current transfer is formed, decided, and refused or placed, as one act (R29, R33, R35, R40, R41). -/
def translatePiece (t : Transfer) (s : State) : State :=
  let e := pieceEnd t s
  let n := e - t.progress
  match decide33 t s with
  | .refused x =>
    account t.tag (pieceDone t.tag e (transferEnd t) (editTransfer t.tag (counted n t.progress (some x)) s))
  | .allowed k =>
    placePiece t.tag
      { first := t.progress, count := n, outcome := .allowed k, key := k, epoch := (entry s k).epoch,
        plan := lanePlan t s k n, next := 0 } (transferEnd t) s

/-- The transfer the STU is translating. -/
def currentTransfer (s : State) : Option Transfer :=
  match s.stu.current with
  | some tag => transfer s tag
  | none => none

/-- TRANSLATE_PIECE: the next piece, if there is one and translation is not paused. -/
def translateNext (s : State) : State :=
  match s.stu.piece, currentTransfer s with
  | none, some t => translatePiece t s
  | _, _ => s

/-- TRANSLATION_RESUME: a paused translation goes on once the queue it needs has room (R40). -/
def resumeTranslation (s : State) : State :=
  match s.stu.piece, currentTransfer s with
  | some x, some t =>
    match x.plan[x.next]? with
    | some (l, _) => if s.stu.paused && !laneFull l s then placePiece t.tag x (transferEnd t) s else s
    | none => s
  | _, _ => s

end Sys2Proof.Machine
end

