-- ==== Sys2Proof/Machine/Theft.lean ====
section
/-! DEFINITION. The theft watch: changes of the theft state with all they reach, indicators, the tether meter and filter, the
tamper filter (R116, R121 to R133). -/

namespace Sys2Proof.Machine

/-! ## Changes of the theft state (R116) -/

/-- The theft state changes to a state other than SUSPECT and WIPING, with all the effects of a change (R116). The lanes' messages
go before the STATE message (R69; DESIGN CHOICE, entry 33). -/
def changeTheft (t : Theft) (s : State) : State := announce (lanesReact (theftCore t s))

/-- The theft state becomes WIPING and the Wipe Engine is handed the wipe (R116, R135). The lanes' messages go before the STATE
message (R69; DESIGN CHOICE, entry 33). -/
def enterWiping (c : Cause) (p : Passes) (s : State) : State :=
  announce (lanesReact (wipeBegin c p (theftCore .wiping s)))

/-- A transition into ALARM, which with the action WIPE is one into WIPING with cause THEFT (R132). -/
def enterAlarm (s : State) : State :=
  match s.w.watch.policy with
  | some p => if p.action = .wipe then enterWiping .theft (.times p.passes) s else changeTheft .alarm s
  | none => changeTheft .alarm s

/-- The theft state becomes SUSPECT with a cause, or ALARM where the grace period is 0 (R130). -/
def enterSuspect (i : Indicator) (s : State) : State :=
  match s.w.watch.policy with
  | some p => if p.graceSeconds = 0 then enterAlarm s else announce (suspectCore i p.graceSeconds s)
  | none => s

/-! ## Indicators (R130 to R132) -/

/-- An indicator asserts (R130, R132). -/
def assertIndicator (i : Indicator) (s : State) : State :=
  if enabled s i then
    match theft s with
    | .armed => enterSuspect i s
    | .suspect => if s.w.watch.cause = some i then s else enterAlarm s
    | _ => s
  else s

/-- The check made in SUSPECT: with no enabled indicator asserted the theft state becomes ARMED (R131). -/
def suspectCheck (s : State) : State :=
  if theft s = .suspect && !anyAsserted s then changeTheft .armed s else s

/-- An indicator deasserts: in SUSPECT the check is made if it is enabled (R131). -/
def deassertIndicator (i : Indicator) (s : State) : State := if enabled s i then suspectCheck s else s

/-- BUDGET re-evaluated after an act on the counts, against what it was before (R114, R124). -/
def budgetAfter (before : Bool) (s : State) : State :=
  if before then (if budgetAsserted s then s else deassertIndicator .budget s)
  else if budgetAsserted s then assertIndicator .budget s
  else s

/-- An act on the counts, with BUDGET re-evaluated in it, after the pages that the act queues (R114, R124; DESIGN CHOICE, entry
41). -/
def withBudget (f : State → State) (s : State) : State := budgetAfter (budgetAsserted s) (f s)

/-! ## Tamper (R129, R131) -/

/-- The tamper latch is set, which asserts TAMPER and queues the watch page (R129). -/
def setLatch (s : State) : State :=
  if s.w.watch.latch then s
  else assertIndicator .tamper (queuePage watchPage [] (setWatch { s.w.watch with latch := true } s))

/-- The tamper latch is cleared; a clearing that changes it queues the watch page (R129). -/
def clearLatch (s : State) : State :=
  if s.w.watch.latch then queuePage watchPage [] (setWatch { s.w.watch with latch := false } s) else s

/-- A sample of the TAMPER line: the filter changes at the second consecutive opposite sample (R129). -/
def sampleTamper (high : Bool) (s : State) : State :=
  if high = s.twu.tamperOpen then { s with twu := { s.twu with tamperOpposite := false } }
  else if s.twu.tamperOpposite then
    let t : State := { s with twu := { s.twu with tamperOpen := high, tamperOpposite := false } }
    if high then setLatch t else t
  else { s with twu := { s.twu with tamperOpposite := true } }

/-! ## Tether (R127, R128) -/

/-- A sample of `m` cycles is good (R127). -/
def goodSample (s : State) (m : Nat) : Bool :=
  s.w.config.period ≤ m + s.w.config.tolerance && m ≤ s.w.config.period + s.w.config.tolerance

/-- The filter changes to LOST: the TETHER_LOST relock with what the lanes do at it, and then TETHER asserts (R128, R6, R49). The
manual gives the two no order (DESIGN CHOICE, entry 46). -/
def loseTether (s : State) : State :=
  assertIndicator .tether
    (lanesReact (relock .tetherLost { s with twu := { s.twu with tetherLost := true, tetherRun := 0 } }))

/-- The filter changes to PRESENT: TETHER deasserts (R128). -/
def regainTether (s : State) : State :=
  deassertIndicator .tether { s with twu := { s.twu with tetherLost := false, tetherRun := 0 } }

/-- A sample is handed to the tether filter: an agreeing one clears the run, the K-th disagreeing one in a row changes the
filter (R128). -/
def sampleTether (good : Bool) (s : State) : State :=
  if good = s.twu.tetherLost then
    if s.w.config.filterLength ≤ s.twu.tetherRun + 1 then (if s.twu.tetherLost then regainTether s else loseTether s)
    else { s with twu := { s.twu with tetherRun := s.twu.tetherRun + 1 } }
  else { s with twu := { s.twu with tetherRun := 0 } }

/-- The meter's counter is set. -/
def setMeter (n : Nat) (s : State) : State := { s with twu := { s.twu with meterCount := n } }

/-- The meter counts `n` cycles; at 65,535 it yields a bad sample and starts again from 0 (R127). -/
def meterCycles (n : Nat) (s : State) : State :=
  if s.twu.meterOn then
    if Config.meterTop ≤ s.twu.meterCount + n then
      sampleTether false (setMeter (s.twu.meterCount + n - Config.meterTop) s)
    else setMeter (s.twu.meterCount + n) s
  else s

/-- A rising edge: a starting edge, or a sample (R127). -/
def meterEdge (s : State) : State :=
  if s.twu.meterOn then
    if s.twu.meterFirst then { s with twu := { s.twu with meterFirst := false, meterCount := 0 } }
    else sampleTether (goodSample s s.twu.meterCount) (setMeter 0 s)
  else s

/-- The meter's counter reaches 65,535 within the present tick period (R127; entry 13). -/
def overflowDue (s : State) : Bool :=
  s.twu.meterOn && Config.meterTop ≤ s.twu.meterCount + (Config.cyclesPerTick - s.divider)

/-- The overflow: the cycles up to it pass, and it yields a bad sample (R127; entry 13). -/
def meterOverflow (s : State) : State :=
  if overflowDue s then
    sampleTether false
      { s with divider := s.divider + (Config.meterTop - s.twu.meterCount), twu := { s.twu with meterCount := 0 } }
  else s

/-- The meter stops and the filter is PRESENT, as a tether that is off leaves them (R121, R140). -/
def meterOff (u : WatchUnit) : WatchUnit :=
  { u with meterOn := false, meterFirst := false, meterCount := 0, tetherLost := false, tetherRun := 0 }

/-- The meter starts or restarts: the filter keeps its state with run 0 (R121, R127). The cycle of the tick period at which it
starts is not carried: it starts where the divider stands (R183; DESIGN CHOICE, entry 54). -/
def meterStart (u : WatchUnit) : WatchUnit :=
  { u with meterOn := true, meterFirst := true, meterCount := 0, tetherRun := 0 }

/-! ## Grace and check-in periods (R123, R133) -/

/-- The grace has reached 0 in SUSPECT (R133). -/
def graceDue (s : State) : Bool := theft s = .suspect && s.twu.grace = 0

/-- The end of the grace enters ALARM (R132, R133). -/
def expireGrace (s : State) : State := if graceDue s then enterAlarm s else s

/-- CHECKIN asserts where the check-in counter has reached the watch period (R123). -/
def reachPeriod (s : State) : State := if checkinAsserted s then assertIndicator .checkin s else s

/-- A grace checkpoint: the watch page takes the grace seconds and is queued (R133). -/
def graceCheckpoint (s : State) : State :=
  queuePage watchPage [] (setWatch { s.w.watch with graceSeconds := s.twu.grace / Config.ticksPerSecond } s)

/-- A tick of the grace, with its checkpoint (R133). -/
def tickGrace (s : State) : State :=
  if theft s = .suspect && 0 < s.twu.grace then
    let t : State := { s with twu := { s.twu with grace := s.twu.grace - 1 } }
    if t.twu.grace ≠ 0 && t.twu.grace % Config.checkpoint = 0 then graceCheckpoint t else t
  else s

/-- A tick of the check-in counter (R123). -/
def tickCounter (s : State) : State :=
  if theft s = .armed || theft s = .suspect then
    { s with twu := { s.twu with counter := min (s.twu.counter + 1) Config.counterTop } }
  else s

end Sys2Proof.Machine
end

