-- ==== Sys2Proof/Machine/Credentials.lean ====
section
/-! DEFINITION. The Credential Unit: the refusals of the flow, the charge, a match, a mismatch (R97 to R102, R126). -/

namespace Sys2Proof.Machine

/-! ## Which slot a request presents (R80) -/

/-- The slot whose secret a request presents; none for the kinds without a credential (R80). -/
def slotPresented : Body → Option SlotId
  | .unlock slot _ _ => some (slotOf (slot.getD 0).toNat)
  | .tokenUnlock _ _ | .remoteWipe _ => some 7
  | .setCred _ _ _ | .grant _ _ _ | .revoke _ _ | .bandSet _ _ | .bandErase _ _ | .driveSet _ _ _ _ | .coverOpen _
  | .watchArm _ _ | .watchDisarm _ | .watchRecover _ | .wipeNow _ _ | .scrubStop _ => some 0
  | .lock _ | .own _ | .coverClose | .revert _ | .statusQuery | .undefined _ => none

/-- The secret a request presents. -/
def secretPresented : Body → Secret
  | .unlock _ x _ | .tokenUnlock x _ | .remoteWipe x | .setCred x _ _ | .grant x _ _ | .revoke x _ | .bandSet x _
  | .bandErase x _ | .driveSet x _ _ _ | .coverOpen x | .watchArm x _ | .watchDisarm x | .watchRecover x | .wipeNow x _
  | .scrubStop x => x.getD 0
  | .lock _ | .own _ | .coverClose | .revert _ | .statusQuery | .undefined _ => 0

/-- The kind authenticates with the ADMIN slot (R80). -/
def isAdminKind : Body → Bool
  | .setCred _ _ _ | .grant _ _ _ | .revoke _ _ | .bandSet _ _ | .bandErase _ _ | .driveSet _ _ _ _ | .coverOpen _
  | .watchArm _ _ | .watchDisarm _ | .watchRecover _ | .wipeNow _ _ | .scrubStop _ => true
  | _ => false

/-- The theft state lets a request through the first refusal of the flow (R97). -/
def flowPasses (body : Body) (s : State) : Bool :=
  match theft s with
  | .dormant | .armed | .suspect => true
  | .alarm =>
    match body with
    | .watchRecover _ | .remoteWipe _ => true
    | _ => false
  | .wiping =>
    match body with
    | .scrubStop _ => true
    | _ => false
  | .wiped =>
    (cred s 0).state = .blank &&
      (isAdminKind body ||
        (match body with
         | .unlock slot _ _ => slotOf (slot.getD 0).toNat = 0
         | _ => false))

/-- The first refusal of the flow against the theft state, the slot and the supply (R97, R98). -/
def flowRefusal (body : Body) (i : SlotId) (s : State) : Option RStatus :=
  if !flowPasses body s then some .denied
  else if (cred s i).state = .empty then some .slotEmpty
  else if (cred s i).state = .disabled then some .slotDisabled
  else if 0 < backoffOf s i then some .wait
  else if !s.supplyOk then some .lowPower
  else none

/-! ## The charge (R99) -/

/-- The failure count after a charge (R99). -/
def raisedCount (c : Credential) (n : Nat) : Nat := min (n + 1) c.hard

/-- A user or platform slot whose count stands at its hard limit is to be DISABLED (R99). -/
def mustDisable (i : SlotId) (s : State) : Bool := i ≠ 0 && count s i = (cred s i).hard

/-- A slot becomes DISABLED: its credential page is queued and its backoff stops (R99, R106). -/
def disable (i : SlotId) (s : State) : State :=
  queuePage (credPage i) [] (setBackoff i 0 (setCred i { cred s i with state := .disabled } s))

/-- The charge raises the slot's count and queues its attempt page, and disables a user or platform slot at its hard limit
(R99); BUDGET is re-evaluated (R114). The watch page of a change that BUDGET brings is queued behind the slot's pages (DESIGN
CHOICE, entry 41). -/
def charge (i : SlotId) (ws : List Waiter) (s : State) : State :=
  withBudget (fun s =>
    let t := queuePage (attemptPage i) ws (setCount i (raisedCount (cred s i) (count s i)) s)
    if mustDisable i t then disable i t else t) s

/-- The charge leaves the count unchanged (R99). -/
def saturated (i : SlotId) (s : State) : Bool := raisedCount (cred s i) (count s i) = count s i

/-! ## Match and mismatch (R101, R102) -/

/-- A slot's count becomes 0 and its backoff stops; its attempt page is queued if the count changed (R101). -/
def clearCount (i : SlotId) (s : State) : State :=
  queuePage (attemptPage i) [] (setBackoff i 0 (setCount i 0 s))

/-- A user or platform slot that is DISABLED becomes SET, and its credential page is queued (R101). -/
def undisable (i : SlotId) (s : State) : State :=
  if i ≠ 0 && (cred s i).state = .disabled then queuePage (credPage i) [] (setCred i { cred s i with state := .set } s)
  else s

/-- A match of the ADMIN slot clears the tamper latch, and in SUSPECT the check is made (R101, R131). -/
def adminMatch (i : SlotId) (s : State) : State := if i = 0 then suspectCheck (clearLatch s) else s

/-- A match's own effects (R101). -/
def matchSlot (i : SlotId) (s : State) : State :=
  adminMatch i (withBudget (fun s => clearCount i (undisable i s)) s)

/-- The backoff of a slot after a failure that leaves its count at `f` (R102). -/
def backoffAfter (i : SlotId) (s : State) : State :=
  if count s i ≤ (cred s i).free then s else setBackoff i (backoffDelay i (cred s i) (count s i)) s

/-- A mismatch's effects on the slot (R102). -/
def mismatchSlot (i : SlotId) (s : State) : State :=
  withBudget (fun s =>
    if mustDisable i s then (if (cred s i).state = .disabled then setBackoff i 0 s else disable i s)
    else backoffAfter i s) s

/-! ## The check-in (R125, R126) -/

/-- The check-in status is set. -/
def setStatus (x : CheckinStatus) (s : State) : State := { s with twu := { s.twu with status := x } }

/-- What a strobe finds (R125). -/
def strobeStatus (s : State) : CheckinStatus :=
  if s.twu.status = .pending then .pending
  else if theft s ≠ .armed && theft s ≠ .suspect then .ignoredState
  else if (cred s 7).state = .empty || (cred s 7).state = .disabled then .ignoredSlot
  else if 0 < backoffOf s 7 then .ignoredBackoff
  else if !s.supplyOk then .ignoredPower
  else .pending

/-- The strobe with a copy of the token field (R125). -/
def strobe (token : Secret) (s : State) : State :=
  if s.twu.status = .pending then s
  else
    let x := strobeStatus s
    if x = .pending then handCompare token (setStatus x s) else setStatus x s

/-- The compare's match (R126). -/
def checkinMatch (s : State) : State :=
  suspectCheck
    (withBudget (clearCount 7) (setStatus .good { s with twu := { s.twu with counter := 0 } }))

/-- The compare's mismatch: a charge after the fact, with the effects of R99 and R102 (R126). -/
def checkinMismatch (s : State) : State :=
  withBudget (fun s =>
    let t := queuePage (attemptPage 7) [] (setCount 7 (raisedCount (cred s 7) (count s 7)) s)
    if mustDisable 7 t then disable 7 t else backoffAfter 7 t) (setStatus .bad s)

/-- The compare completes (R126). Where both apply, IGNORED_STATE comes before IGNORED_SLOT (DESIGN CHOICE, entry 42). -/
def compareDone (token : Secret) (s : State) : State :=
  if theft s ≠ .armed && theft s ≠ .suspect then setStatus .ignoredState s
  else if (cred s 7).state ≠ .set then setStatus .ignoredSlot s
  else if verifies (cred s 7) token then checkinMatch s
  else checkinMismatch s

end Sys2Proof.Machine
end

