-- ==== Sys2Proof/Machine/Report.lean ====
section
/-! DEFINITION. The codes of Formats, the query report, and the bytes of the messages the part sends (R87, R185, R187,
R190). -/

namespace Sys2Proof.Machine

/-! ## Codes (R185) -/

def theftCode : Theft → Nat
  | .dormant => 0 | .armed => 1 | .suspect => 2 | .alarm => 3 | .wiping => 4 | .wiped => 5

def causeCode : Option Cause → Nat
  | none => 0
  | some .theft => 1 | some .remote => 2 | some .owner => 3 | some .revert => 4 | some .storeLoss => 5

def phaseCode : Phase → Nat
  | .root => 0 | .rebuild => 1 | .scrub => 2 | .done => 3

def modeCode : LaneMode → Nat
  | .single => 0 | .stripe => 1 | .split => 2 | .stream => 3

/-- The lane mode of a code; SINGLE for a code above 3, which no check lets through (R59). -/
def modeOf (n : Nat) : LaneMode :=
  if n = 1 then .stripe else if n = 2 then .split else if n = 3 then .stream else .single

def slotStateCode : SlotState → Nat
  | .blank => 0 | .empty => 1 | .set => 2 | .disabled => 3

def actionCode : Action → Nat
  | .lockdown => 0 | .wipe => 1

def endedCode : Ended → Nat
  | .complete => 1 | .stopped => 2 | .abandoned => 3

def checkinCode : CheckinStatus → Nat
  | .none => 0 | .pending => 1 | .good => 2 | .bad => 3 | .ignoredState => 4 | .ignoredSlot => 5
  | .ignoredBackoff => 6 | .ignoredPower => 7

def tstatusCode : TStatus → Nat
  | .ok => 0 | .locked => 1 | .covered => 2 | .alarm => 3 | .wiping => 4 | .outOfRange => 5 | .badDescriptor => 6
  | .dupTag => 7 | .queueFull => 8 | .badOrder => 9 | .reconfigured => 10 | .dataTimeout => 11 | .sequenceError => 12

def rstatusCode : RStatus → Nat
  | .ok => 0 | .authFailed => 1 | .wait => 2 | .slotEmpty => 3 | .slotDisabled => 4 | .denied => 5 | .badArgument => 6
  | .badRange => 7 | .busy => 8 | .lowPower => 9 | .noEntropy => 10 | .notBlank => 11 | .notArmed => 12

/-! ## The query report (R190) -/

/-- The lost pages of a list, page p at bit p (R190). -/
def pageBits : List PageId → Nat
  | [] => 0
  | p :: ps => 2 ^ p.val ||| pageBits ps

/-- A figure given in one state only, else zero (R190). -/
def only (c : Bool) (n : Nat) : Nat := if c then n else 0

/-- Grace remaining in seconds, rounded up, in SUSPECT; else zero (R133). -/
def graceShown (s : State) : Nat :=
  only (theft s = .suspect) ((s.twu.grace + (Config.ticksPerSecond - 1)) / Config.ticksPerSecond)

/-- A figure of the policy, zero while it is absent (R190). -/
def ofPolicy (s : State) (f : Policy → Nat) : Nat :=
  match s.w.watch.policy with
  | some p => f p
  | none => 0

/-- The drive's part of the report: offsets 0 to 63 (R190). -/
def driveReport (s : State) : List Byte :=
  let wiping : Bool := theft s = .wiping
  leBytes 1 (theftCode (theft s)) ++ leBytes 1 (only wiping (causeCode s.w.plan.cause)) ++
    leBytes 1 (only wiping (phaseCode s.w.plan.phase)) ++ leBytes 1 0 ++ leBytes 2 (only wiping s.w.plan.pass) ++
    leBytes 6 (only wiping (watermark s)) ++ leBytes 1 (ofPolicy s fun p => p.enabled.toNat) ++
    leBytes 1 (indicatorSet s).toNat ++ leBytes 2 (graceShown s) ++ leBytes 1 (modeCode s.w.config.mode) ++
    leBytes 1 s.w.config.coverBand.val ++
    leBytes 1 (bitAt 0 (coverActive s) + bitAt 1 s.coverPermit + bitAt 2 s.twu.tetherLost + bitAt 3 s.entropyFailed +
      bitAt 4 (!s.supplyOk) + bitAt 5 (wiping && s.w.plan.stop)) ++
    leBytes 1 s.w.config.filterLength ++ leBytes 6 s.w.config.split ++ leBytes 4 s.w.config.coverLength ++
    leBytes 2 s.w.config.period ++ leBytes 2 s.w.config.tolerance ++ leBytes 1 s.dq.length ++
    leBytes 1 s.ks.queue.length ++ leBytes 7 (pageBits s.startup.lost) ++ leBytes 7 (pageBits s.startup.torn) ++
    leBytes 1 (ofPolicy s fun p => p.periodIndex.val) ++ leBytes 1 (ofPolicy s fun p => actionCode p.action) ++
    leBytes 2 (ofPolicy s fun p => p.graceSeconds) ++ leBytes 1 (ofPolicy s fun p => p.passes.val) ++
    leBytes 1 (ofPolicy s fun p => p.budget) ++ leBytes 8 0

/-- A band's record in the report (R190); band 0 is shown used, with start and length zero. -/
def bandReport (s : State) (b : BandId) : List Byte :=
  let r := record s b
  leBytes 6 (only (b ≠ 0) r.start) ++ leBytes 6 (only (b ≠ 0) r.length) ++
    leBytes 1 (bitAt 0 r.rle + bitAt 1 r.wle + bitAt 2 (flags s b).readLocked + bitAt 3 (flags s b).writeLocked +
      bitAt 4 (present s (.band b)) + bitAt 5 (flags s b).pendingLoad + bitAt 6 (used s b)) ++ leBytes 3 0

/-- The bands of a wrap row (R190). -/
def rowBands (c : Credential) : BandSet := setOf (allBands.filter fun b => (c.row.get b).isSome)

/-- A slot's record in the report (R190). -/
def slotReport (s : State) (i : SlotId) : List Byte :=
  let c := cred s i
  leBytes 1 (slotStateCode c.state) ++ leBytes 1 (count s i) ++ leBytes 1 c.hard ++ leBytes 1 c.free ++
    leBytes 2 (waitSeconds (backoffOf s i)) ++ leBytes 2 (rowBands c).toNat ++ leBytes 8 0

/-- The query report: 448 bytes (R87, R190). -/
def queryReport (s : State) : List Byte :=
  driveReport s ++ allBands.flatMap (bandReport s) ++ allSlots.flatMap (slotReport s)

/-! ## The messages the part sends (R187) -/

/-- The bytes of a first refusal in a COMPLETION. -/
def refusalBytes : Option (Nat × TStatus) → List Byte
  | some (a, x) => leBytes 6 a ++ leBytes 1 (tstatusCode x)
  | none => leBytes 7 0

/-- A message as the link carries it (R187). -/
def messageBytes : OutMsg → List Byte
  | .fetch tag media stride n =>
    leBytes 1 0x10 ++ [tag] ++ leBytes 6 media ++ leBytes 1 stride ++ leBytes 2 n ++ leBytes 1 0
  | .pull tag drive media stride n =>
    leBytes 1 0x11 ++ [tag] ++ leBytes 6 drive ++ leBytes 6 media ++ leBytes 1 stride ++ leBytes 1 0 ++ leBytes 2 n ++
      leBytes 2 0
  | .plainSector tag drive data => leBytes 1 0x02 ++ [tag] ++ leBytes 6 drive ++ data
  | .cipherSector tag media data => leBytes 1 0x03 ++ [tag] ++ leBytes 6 media ++ data
  | .completion c _ =>
    leBytes 1 0x12 ++ [c.tag] ++ leBytes 1 (tstatusCode c.status) ++ leBytes 1 (bitAt 0 c.firstRefusal.isSome) ++
      leBytes 2 c.processed ++ leBytes 2 c.refused ++ refusalBytes c.firstRefusal ++ leBytes 1 0
  | .response r =>
    leBytes 1 0x13 ++ leBytes 1 (rstatusCode r.status) ++ leBytes 2 r.id.toNat ++ leBytes 2 r.wait ++
      leBytes 2 r.granted.toNat ++ leBytes 2 r.report.length ++ leBytes 6 0 ++ r.report
  | .scrubOrder slot pass first n =>
    leBytes 1 0x14 ++ leBytes 1 slot.val ++ leBytes 2 pass ++ leBytes 6 first ++ leBytes 2 n
  | .state t c => leBytes 1 0x15 ++ leBytes 1 (theftCode t) ++ leBytes 1 (causeCode c) ++ leBytes 1 0

end Sys2Proof.Machine
end

