-- ==== Sys2Proof/Machine/Requests.lean ====
section
/-! DEFINITION. The mailboxes and the owners of requests: taking an envelope, the checks, responses, and what a match does for
each kind (R80 to R87, R97 to R113, R118 to R121, R134, R151, R152). -/

namespace Sys2Proof.Machine

/-! ## Responses (R83, R84, R177) -/

/-- The response sequence after a response (R177). -/
def nextSequence (x : Byte) : Byte := if x = 255 then 1 else x + 1

/-- A response is written into the response record, and RESPONSE_READY is set (R84, R177). -/
def writeRecord (r : Response) (s : State) : State :=
  raise noticeResponse
    { s with psp := { s.psp with response :=
        { sequence := nextSequence s.psp.response.sequence, id := r.id, status := rstatusCode r.status, wait := r.wait,
          granted := r.granted, report := r.report } } }

/-- A response is delivered by its port (R73, R84). -/
def respond (p : Port) (r : Response) (s : State) : State :=
  match p with
  | .link => hand (.response r) s
  | .side => writeRecord r s

/-- A response with a status alone. -/
def plainResponse (id : BitVec 16) (x : RStatus) : Response :=
  { id := id, status := x, wait := 0, granted := 0, report := [] }

/-- The response of a refusal in the flow: WAIT carries its seconds (R98). -/
def refusalResponse (id : BitVec 16) (x : RStatus) (i : SlotId) (s : State) : Response :=
  { plainResponse id x with wait := if x = .wait then waitSeconds (backoffOf s i) else 0 }

/-- A held request ends: its mailbox is EMPTY, and its response is delivered, or dropped where the drop mark names it (R78,
R83). -/
def deliver (p : Port) (r : Response) (s : State) : State :=
  let t := setBox p none s
  match p with
  | .link =>
    match s.link.dropMark with
    | some _ => { t with link := { t.link with dropMark := none } }
    | none => respond p r t
  | .side => respond p r t

/-- A held request's next act, and the pages for whose room it waits. -/
def setNext (p : Port) (x : ReqStage) (room : List PageId) (s : State) : State :=
  match box p s with
  | some h => setBox p (some { h with stage := x, room := room }) s
  | none => s

/-- After an act for a held request: its next act, which waits for the room of the pages that the act changed (R158). -/
def nextAct (p : Port) (before : State) (x : ReqStage) (s : State) : State := setNext p x (roomTouched before s) s

/-- The theft state has become WIPING. -/
def beganWipe (before after : State) : Bool := theft before ≠ .wiping && theft after = .wiping

/-- After an act of a request's own effect: as `nextAct`, but that a request which starts a wipe gets its response at the change of
the theft state, whatever the pages of that act wait for (R135; DEDUCED, entry 38). -/
def effectAct (p : Port) (before : State) (x : ReqStage) (s : State) : State :=
  if beganWipe before s then setNext p x [] s else nextAct p before x s

/-- A held request's answer with a status alone. -/
def ends (x : RStatus) : ReqStage := .answering x 0

/-! ## Taking an envelope (R82) -/

/-- The kind may come by the port (R82, check 1). -/
def portAllows (p : Port) (body : Body) : Bool :=
  match p, body with
  | _, .undefined _ => false
  | _, .statusQuery => true
  | .side, .tokenUnlock _ _ => true
  | .side, .remoteWipe _ => true
  | .side, _ => false
  | .link, .tokenUnlock _ _ => false
  | .link, .remoteWipe _ => false
  | .link, _ => true

/-- Every part the kind requires is present, and an UNLOCK's slot is not above 7 (R82, check 2; R189). -/
def complete : Body → Bool
  | .unlock slot x args => (slot.any fun n => n.toNat ≤ 7) && x.isSome && args.isSome
  | .tokenUnlock x args => x.isSome && args.isSome
  | .lock bands => bands.isSome
  | .own new => new.isSome
  | .setCred x args _ => x.isSome && args.isSome
  | .grant x args target => x.isSome && args.isSome && target.isSome
  | .revoke x args => x.isSome && args.isSome
  | .bandSet x args => x.isSome && args.isSome
  | .bandErase x band => x.isSome && band.isSome
  | .driveSet x _ _ _ => x.isSome
  | .coverOpen x => x.isSome
  | .coverClose => true
  | .watchArm x args => x.isSome && args.isSome
  | .watchDisarm x => x.isSome
  | .watchRecover x => x.isSome
  | .remoteWipe x => x.isSome
  | .wipeNow x passes => x.isSome && passes.isSome
  | .scrubStop x => x.isSome
  | .revert code => code.isSome
  | .statusQuery => true
  | .undefined _ => false

/-- The kinds a mailbox lets through in WIPING (R82, check 3). -/
def passesInWiping : Body → Bool
  | .scrubStop _ | .statusQuery => true
  | _ => false

/-- The first check of the mailbox that refuses an envelope (R82). -/
def mailboxCheck (p : Port) (body : Body) (s : State) : Option RStatus :=
  if !portAllows p body then some .badArgument
  else if !complete body then some .badArgument
  else if theft s = .wiping && !passesInWiping body then some .denied
  else none

/-- An owner's check of an optional part that the mailbox has found present. -/
def ofPart {α : Type} (x : Option α) (f : α → Option RStatus) : Option RStatus :=
  match x with
  | some a => f a
  | none => some .badArgument

/-- The owner's own checks, before the first step of the flow (R15, R19, R20, R104, R108, R111, R112, R118 to R120, R134,
R151, R152). -/
def ownerCheck (body : Body) (s : State) : Option RStatus :=
  match body with
  | .unlock _ _ args => ofPart args unlockCheck
  | .tokenUnlock _ args => ofPart args unlockCheck
  | .setCred _ args new => ofPart args fun x => setCredCheck x new s
  | .grant _ args _ => ofPart args fun x => grantCheck x s
  | .revoke _ args => ofPart args rowCheck
  | .bandSet _ args => ofPart args fun x => bandSetCheck x s
  | .bandErase _ band => ofPart band fun x => if 15 < x.toNat then some .badArgument else none
  | .driveSet _ lane cover tether => driveSetCheck lane cover tether s
  | .watchArm _ args => ofPart args fun x => watchArmCheck x s
  | .watchDisarm _ => if theft s = .wiped then some .denied else none
  | .watchRecover _ => if theft s ≠ .alarm then some .denied else none
  | .remoteWipe _ => if theft s = .dormant || theft s = .wiped then some .notArmed else none
  | .wipeNow _ passes => ofPart passes fun x => if (passesOf x).isNone then some .badArgument else none
  | .scrubStop _ => scrubStopCheck s
  | _ => none

/-- The mailbox holds a request (R81). -/
def hold (p : Port) (e : Envelope) (started : Bool) (x : ReqStage) (s : State) : State :=
  setBox p (some { env := e, started := started, stage := x, room := [] }) s

/-- The request's verify job is handed (R100). -/
def handVerify (p : Port) (s : State) : State :=
  match box p s with
  | some h => setBox p (some { h with stage := .verifying }) (handMailbox p .verify s)
  | none => s

/-- A credential request's flow: the refusals, then the charge (R97 to R99). A charge that leaves the count unchanged is a charge
too, so that its request is held as started (R78; DEDUCED, entry 34). -/
def flow (p : Port) (e : Envelope) (i : SlotId) (s : State) : State :=
  match flowRefusal e.body i s with
  | some x => respond p (refusalResponse e.id x i s) s
  | none =>
    if saturated i s then handVerify p (hold p e true .verifying s)
    else nextAct p s .charged (charge i [.request p] (hold p e true .charged s))

/-- LOCK: every band of the set is locked, or the set is refused (R7). -/
def lockRequest (p : Port) (id : BitVec 16) (v : BitVec 32) (s : State) : State :=
  if inRange v then respond p (plainResponse id .ok) (lanesReact (lockBands (names v) s))
  else respond p (plainResponse id .badArgument) s

/-- The first check that refuses an OWN (R107). -/
def ownRefusal (new : Secret) (s : State) : Option RStatus :=
  if theft s = .alarm then some .denied
  else if (cred s 0).state ≠ .blank then some .notBlank
  else if new = 0 then some .badArgument
  else if !s.supplyOk then some .lowPower
  else if s.entropyFailed then some .noEntropy
  else none

/-- OWN: refused, or its job is handed (R107). -/
def ownRequest (p : Port) (e : Envelope) (new : Secret) (s : State) : State :=
  match ownRefusal new s with
  | some x => respond p (plainResponse e.id x) s
  | none => hold p e false (.handing .own) s

/-- The first check that refuses a REVERT (R113). -/
def revertRefusal (code : Secret) (s : State) : Option RStatus :=
  if !s.supplyOk then some .lowPower
  else if code ≠ s.w.identity.revertCode then some .badArgument
  else none

/-- REVERT: refused, or a wipe with cause REVERT begins (R113, R135). -/
def revertRequest (p : Port) (e : Envelope) (code : Secret) (s : State) : State :=
  match revertRefusal code s with
  | some x => respond p (plainResponse e.id x) s
  | none => effectAct p s (ends .ok) (enterWiping .revert (.times 1) (hold p e true (ends .ok) s))

/-- STATUS_QUERY: answered with the query report (R86). -/
def statusRequest (p : Port) (id : BitVec 16) (s : State) : State :=
  respond p { plainResponse id .ok with report := queryReport s } s

/-- An envelope that passed the mailbox's checks reaches its owner (R82). -/
def owner (p : Port) (e : Envelope) (s : State) : State :=
  match ownerCheck e.body s with
  | some x => respond p (plainResponse e.id x) s
  | none =>
    match e.body with
    | .lock bands => lockRequest p e.id (bands.getD 0) s
    | .own new => ownRequest p e (new.getD 0) s
    | .coverClose => respond p (plainResponse e.id .ok) { s with coverPermit := false }
    | .revert code => revertRequest p e (code.getD 0) s
    | .statusQuery => statusRequest p e.id s
    | .undefined _ => respond p (plainResponse e.id .badArgument) s
    | body =>
      match slotPresented body with
      | some i => flow p e i s
      | none => s

/-- An envelope reaches a mailbox: BUSY where it holds a request, else the checks and the owner (R81, R82). -/
def takeEnvelope (p : Port) (e : Envelope) (s : State) : State :=
  match box p s with
  | some _ => respond p (plainResponse e.id .busy) s
  | none =>
    match mailboxCheck p e.body s with
    | some x => respond p (plainResponse e.id x) s
    | none => owner p e s

/-! ## What a match does for each kind: the state after it, and the request's next act -/

/-- The wraps that an UNLOCK's effect job unwraps: the requested bands that the row holds and that have a band secret (R104,
R167). -/
def unlockWraps (x : UnlockArgs) (i : SlotId) (s : State) : List (BandId × Wrap) :=
  allBands.filterMap fun b =>
    if names x.bands b && hasSecret s b then ((cred s i).row.get b).map fun w => (b, w) else none

/-- UNLOCK and TOKEN_UNLOCK after a match (R104). -/
def matchUnlock (x : UnlockArgs) (i : SlotId) (s : State) : State × ReqStage :=
  let ws := unlockWraps x i s
  (s, if ws.isEmpty then ends .ok else .handing (.unlock (saltOf (cred s i)) ws))

/-- A slot with the limits of a SET_CRED. -/
def withLimits (x : LimitArgs) (c : Credential) : Credential :=
  { c with hard := x.hard.toNat, free := x.free.toNat, base := x.base.toNat, cap := x.cap.toNat }

/-- A slot cleared by SET_CRED (R109). -/
def clearedSlot (x : LimitArgs) (c : Credential) : Credential :=
  { withLimits x c with state := .empty, salt := none, verifier := none, row := Vector.replicate 16 none }

/-- SET_CRED without a secret clears its target: attempt page, then credential page (R109). -/
def clearSlot (x : LimitArgs) (i : SlotId) (s : State) : State :=
  withBudget (fun s => queuePage (credPage i) [] (clearCount i (setCred i (clearedSlot x (cred s i)) s))) s

/-- SET_CRED after a match (R108 to R110). -/
def matchSetCred (x : LimitArgs) (new : Option Secret) (s : State) : State × ReqStage :=
  let i := slotOf x.target.toNat
  match new with
  | some _ =>
    if s.entropyFailed then (s, ends .noEntropy)
    else (s, .handing (if i = 0 then .setCredAdmin else .setCred))
  | none => (clearSlot x i s, ends .ok)

/-- A row without the wraps of the listed bands (R112). -/
def revokedRow (v : BitVec 32) (row : Vector (Option Wrap) 16) : Vector (Option Wrap) 16 :=
  tab16 fun b => if names v b then none else row.get b

/-- REVOKE after a match (R112). -/
def matchRevoke (x : RowArgs) (s : State) : State × ReqStage :=
  let i := slotOf x.target.toNat
  (queuePage (credPage i) [] (setCred i { cred s i with row := revokedRow x.bands (cred s i).row } s), ends .ok)

/-- BAND_SET after a match (R15 to R17). -/
def matchBandSet (x : BandArgs) (s : State) : State × ReqStage :=
  if rangeChange x s then (s, if s.entropyFailed then ends .noEntropy else .handing .bandSetRange)
  else (s, .handing .bandSet)

/-- BAND_ERASE after a match (R19). -/
def matchBandErase (s : State) : State × ReqStage :=
  (s, if s.entropyFailed then ends .noEntropy else .handing .bandErase)

/-- The drive configuration with a lane group; S is 0 outside SPLIT (R59). -/
def withLane (x : LaneArgs) (c : DriveConfig) : DriveConfig :=
  { c with mode := modeOf x.mode.toNat, split := if x.mode = 2 then x.split.toNat else 0 }

/-- The drive configuration with a cover group (R20). -/
def withCover (x : CoverArgs) (c : DriveConfig) : DriveConfig :=
  { c with coverLength := x.length.toNat, coverBand := bandNo x.band.toNat }

/-- The drive configuration with a tether group; with P = 0, T and K are stored as 0 and 2 (R121). -/
def withTether (x : TetherArgs) (c : DriveConfig) : DriveConfig :=
  if x.period = 0 then { c with period := 0, tolerance := 0, filterLength := 2 }
  else { c with period := x.period.toNat, tolerance := x.tolerance.toNat, filterLength := x.filter.toNat }

/-- An optional group applied to the drive configuration. -/
def applyGroup {α : Type} (g : Option α) (f : α → DriveConfig → DriveConfig) (c : DriveConfig) : DriveConfig :=
  match g with
  | some x => f x c
  | none => c

/-- The meter's response to a change of the tether settings (R121). -/
def meterResponds (old new : DriveConfig) (s : State) : State :=
  if old.period = new.period && old.tolerance = new.tolerance && old.filterLength = new.filterLength then s
  else if new.period = 0 then deassertIndicator .tether { s with twu := meterOff s.twu }
  else { s with twu := meterStart s.twu }

/-- The cover load permit is cleared by a change of L or of the cover band (R20, R22). -/
def permitAfter (old new : DriveConfig) (permit : Bool) : Bool :=
  if old.coverLength = new.coverLength && old.coverBand = new.coverBand then permit else false

/-- The drive configuration takes new settings: the permit and the meter respond, and page 2 is queued if its content
changed (R20, R59, R121). -/
def applyConfig (c : DriveConfig) (s : State) : State :=
  meterResponds s.w.config c
    (queuePage configPage []
      { s with w := { s.w with config := c }, coverPermit := permitAfter s.w.config c s.coverPermit })

/-- DRIVE_SET after a match (R20, R59, R121). -/
def matchDriveSet (lane : Option LaneArgs) (cover : Option CoverArgs) (tether : Option TetherArgs) (s : State) :
    State × ReqStage :=
  (applyConfig (applyGroup tether withTether (applyGroup cover withCover (applyGroup lane withLane s.w.config))) s, ends .ok)

/-- The policy a WATCH_ARM carries (R118). -/
def policyOf (x : WatchArgs) : Policy :=
  { enabled := x.indicators.setWidth 4, periodIndex := Fin.ofNat 4 x.period.toNat, graceSeconds := x.grace.toNat,
    action := if x.action = 1 then .wipe else .lockdown, passes := Fin.ofNat 4 x.passes.toNat, budget := x.budget.toNat }

/-- A new policy enables an indicator that is asserted, with the check-in counter taken as 0 and the budget judged against
the new limit (R118). -/
def policyAsserted (p : Policy) (s : State) : Bool :=
  (inSet p.enabled .tether && s.twu.tetherLost) || (inSet p.enabled .tamper && s.w.watch.latch) ||
    (inSet p.enabled .budget && p.budget ≤ failureSum s)

/-- The policy is replaced and the check-in counter set to 0 (R118). -/
def armWith (p : Policy) (s : State) : State :=
  let t := setWatch { s.w.watch with policy := some p } { s with twu := { s.twu with counter := 0 } }
  if theft t = .dormant then changeTheft .armed t else queuePage watchPage [] t

/-- WATCH_ARM after a match (R118). Of the three checks, which the manual lists without an order, the first that fails gives the
status (DESIGN CHOICE, entry 51). -/
def matchWatchArm (x : WatchArgs) (s : State) : State × ReqStage :=
  if theft s ≠ .dormant && theft s ≠ .armed then (s, ends .denied)
  else if x.indicators.getLsbD 0 && (cred s 7).state ≠ .set then (s, ends .badArgument)
  else if policyAsserted (policyOf x) s then (s, ends .denied)
  else (armWith (policyOf x) s, ends .ok)

/-- WATCH_DISARM after a match (R119). The manual names ALARM and WIPING there; WIPED ends DENIED too (DESIGN CHOICE, entry 51). -/
def matchWatchDisarm (s : State) : State × ReqStage :=
  match theft s with
  | .armed | .suspect => (changeTheft .dormant s, ends .ok)
  | .dormant => (s, ends .ok)
  | _ => (s, ends .denied)

/-- A slot's count cleared by WATCH_RECOVER: every slot that is not DISABLED (R120). -/
def recoveredCount (s : State) (i : SlotId) : Nat := if (cred s i).state = .disabled then count s i else 0

/-- A slot's backoff stopped by WATCH_RECOVER (R120). -/
def recoveredBackoff (s : State) (i : SlotId) : Nat := if (cred s i).state = .disabled then backoffOf s i else 0

/-- Steps 1 to 4 of WATCH_RECOVER: latch, counter, tether filter, counts and backoffs (R120). -/
def recoverClear (s : State) : State :=
  { s with w := { s.w with watch := { s.w.watch with latch := false }, counts := tab8 (recoveredCount s) },
           twu := { s.twu with counter := 0, tetherLost := false, tetherRun := 0 }, backoff := tab8 (recoveredBackoff s) }

/-- The state WATCH_RECOVER returns to: ARMED, or DORMANT when the policy is absent (R120). -/
def recoverTo (s : State) : Theft := if s.w.watch.policy.isSome then .armed else .dormant

/-- The attempt pages in slot order. -/
def attemptPages : List PageId := allSlots.map attemptPage

/-- WATCH_RECOVER after a match: the changes, the watch page and then the attempt pages, and an effect job where a band is
held (R120). -/
def matchRecover (s : State) : State × ReqStage :=
  if theft s ≠ .alarm then (s, ends .denied)
  else
    let t := queuePages attemptPages [] (changeTheft (recoverTo s) (recoverClear s))
    (t, if anyPending t then .handing .recover else ends .ok)

/-- REMOTE_WIPE after a match (R134). -/
def matchRemoteWipe (s : State) : State × ReqStage :=
  match theft s with
  | .armed | .suspect | .alarm => (enterWiping .remote (theftPasses s) s, ends .ok)
  | .dormant | .wiped => (s, ends .notArmed)
  | .wiping => (s, ends .denied)

/-- WIPE_NOW after a match (R151). -/
def matchWipeNow (p : Passes) (s : State) : State × ReqStage :=
  match theft s with
  | .dormant | .armed | .suspect | .wiped => (enterWiping .owner p s, ends .ok)
  | .alarm | .wiping => (s, ends .denied)

/-- The stop mark is set and the journal queued (R137, R152). -/
def setStop (s : State) : State := journalQueue (setPlan { s.w.plan with stop := true } s)

/-- SCRUB_STOP after a match: the mark, and with no pass running the end of the wipe (R152). -/
def matchScrubStop (s : State) : State × ReqStage :=
  if theft s = .wiping && s.w.plan.phase = .scrub && !s.w.plan.stop then
    if s.wipe.running then (setStop s, ends .ok)
    else (goDone (storeResult .stopped s.w.plan.pass s.w.plan.written s.w.plan.refused (setStop s)), ends .ok)
  else (s, ends .ok)

/-- What a match does for a request's kind, after the match's own effects (R101). -/
def matchKind (e : Envelope) (i : SlotId) (s : State) : State × ReqStage :=
  match e.body with
  | .unlock _ _ (some x) => matchUnlock x i s
  | .tokenUnlock _ (some x) => matchUnlock x i s
  | .setCred _ (some x) new => matchSetCred x new s
  | .grant _ (some _) _ => (s, .handing .grant)
  | .revoke _ (some x) => matchRevoke x s
  | .bandSet _ (some x) => matchBandSet x s
  | .bandErase _ _ => matchBandErase s
  | .driveSet _ lane cover tether => matchDriveSet lane cover tether s
  | .coverOpen _ => ({ s with coverPermit := true }, ends .ok)
  | .watchArm _ (some x) => matchWatchArm x s
  | .watchDisarm _ => matchWatchDisarm s
  | .watchRecover _ => matchRecover s
  | .remoteWipe _ => matchRemoteWipe s
  | .wipeNow _ passes => matchWipeNow ((passes.bind passesOf).getD (.times 0)) s
  | .scrubStop _ => matchScrubStop s
  | _ => (s, ends .badArgument)

/-- The verify job of a held request completes (R100 to R102). -/
def verified (p : Port) (h : Held) (i : SlotId) (s : State) : State :=
  if (cred s i).state = .empty then nextAct p s (ends .slotEmpty) s
  else if verifies (cred s i) (secretPresented h.env.body) then
    let r := matchKind h.env i (matchSlot i s)
    effectAct p s r.2 r.1
  else nextAct p s (ends .authFailed) (mismatchSlot i s)

end Sys2Proof.Machine
end

