-- ==== Sys2Proof/Machine/Jobs.lean ====
section
/-! DEFINITION. What the effect jobs of requests and of the Wipe Engine do when they complete (R104, R107 to R111, R16, R17,
R19, R120, R138 to R142). -/

namespace Sys2Proof.Machine

/-! ## Requests -/

/-- The running job of a mailbox with the request the mailbox holds. -/
def mailboxRunning (s : State) : Option (Port × Job × Held) :=
  match s.engine.running with
  | some (.mailbox p, j) => (box p s).map fun h => (p, j, h)
  | _ => none

/-- A job that needs a value gets none: the ES is FAILED, and the request ends NO_ENTROPY (R92). -/
def noEntropy (p : Port) (s : State) : State := nextAct p s (ends .noEntropy) (failEntropy s)

/-- The admin secret's wrapping key as a request presents it. -/
def adminUnder (h : Held) (s : State) : WrapUnder := .credential (secretPresented h.env.body) (saltOf (cred s 0))

/-- A row with a wrap for every band, each key unwrapped from the admin row under one secret and wrapped under another
(R107, R110). -/
def fullRow (s : State) (old new : WrapUnder) : Vector (Option Wrap) 16 :=
  tab16 fun b => some { key := rowKey (cred s 0) b old, under := new }

/-- The wraps an UNLOCK's job applies: the bands whose unlock is not discarded (R104). -/
def grantedBands (ws : List (BandId × Wrap)) (s : State) : List BandId :=
  (ws.map fun x => x.1).filter fun b => !unlockDiscarded s b

/-- The unlocks of an UNLOCK's job, one band after the other (R104). -/
def applyUnlocks (x : UnlockArgs) (u : WrapUnder) : List (BandId × Wrap) → State → State
  | [], s => s
  | (b, w) :: rest, s =>
    applyUnlocks x u rest
      (unlockBand b (x.directions.getLsbD 0) (x.directions.getLsbD 1)
        (mediaKey s (unwrap w u) ((s.w.secrets.get b).getD 0)) s)

/-- The arguments of an UNLOCK or a TOKEN_UNLOCK. -/
def unlockArgs : Body → UnlockArgs
  | .unlock _ _ (some x) | .tokenUnlock _ (some x) => x
  | _ => { bands := 0, directions := 0 }

/-- The effect job of UNLOCK and TOKEN_UNLOCK completes (R104). -/
def unlockDone (p : Port) (h : Held) (salt : Secret) (ws : List (BandId × Wrap)) (s : State) : State :=
  if barred s then nextAct p s (ends .denied) s
  else
    nextAct p s (.answering .ok (setOf (grantedBands ws s)))
      (lanesReact (applyUnlocks (unlockArgs h.env.body) (.credential (secretPresented h.env.body) salt) ws s))

/-- OWN's effect: the ADMIN slot becomes SET with the new secret and row; WIPED becomes DORMANT; watch page, credential page,
attempt page (R107). -/
def applyOwn (new salt : Secret) (s : State) : State :=
  let c := cred s 0
  let c' : Credential :=
    { c with state := .set, salt := some salt, verifier := some { secret := new, salt := salt },
             row := fullRow s (.credential 0 (saltOf c)) (.credential new salt) }
  let t := setCred 0 c' s
  let t := if theft t = .wiped then changeTheft .dormant t else t
  withBudget (clearCount 0) (queuePage (credPage 0) [] t)

/-- OWN's job completes (R107). -/
def ownDone (p : Port) (h : Held) (d : Draw) (s : State) : State :=
  match drawn s d, h.env.body with
  | some salt, .own new => nextAct p s (ends .ok) (applyOwn (new.getD 0) salt s)
  | _, _ => noEntropy p s

/-- SET_CRED's effect on a user or platform target (R109). -/
def applySetCred (h : Held) (x : LimitArgs) (new salt : Secret) (s : State) : State :=
  let i := slotOf x.target.toNat
  let c := cred s i
  let c' : Credential :=
    { withLimits x c with
      state := .set, salt := some salt, verifier := some { secret := new, salt := salt },
      row := tab16 fun b => (c.row.get b).map fun _ =>
        { key := rowKey (cred s 0) b (adminUnder h s), under := .credential new salt } }
  withBudget (fun s => queuePage (credPage i) [] (clearCount i (setCred i c' s))) s

/-- SET_CRED's effect on slot 0 (R110). -/
def applySetCredAdmin (h : Held) (x : LimitArgs) (new salt : Secret) (s : State) : State :=
  let c := cred s 0
  let c' : Credential :=
    { withLimits x c with
      state := .set, salt := some salt, verifier := some { secret := new, salt := salt },
      row := fullRow s (adminUnder h s) (.credential new salt) }
  withBudget (fun s => queuePage (credPage 0) [] (clearCount 0 (setCred 0 c' s))) s

/-- SET_CRED's job for a user or platform target completes (R109). -/
def setCredDone (p : Port) (h : Held) (d : Draw) (s : State) : State :=
  match drawn s d, h.env.body with
  | some salt, .setCred _ (some x) (some new) => nextAct p s (ends .ok) (applySetCred h x new salt s)
  | _, _ => noEntropy p s

/-- SET_CRED's job for slot 0 completes (R110). -/
def setCredAdminDone (p : Port) (h : Held) (d : Draw) (s : State) : State :=
  match drawn s d, h.env.body with
  | some salt, .setCred _ (some x) (some new) => nextAct p s (ends .ok) (applySetCredAdmin h x new salt s)
  | _, _ => noEntropy p s

/-- The row of GRANT's target with the new wraps (R111). -/
def grantedRow (h : Held) (x : RowArgs) (target : Secret) (s : State) : Vector (Option Wrap) 16 :=
  let c := cred s (slotOf x.target.toNat)
  tab16 fun b =>
    if names x.bands b then
      some { key := rowKey (cred s 0) b (adminUnder h s), under := .credential target (saltOf c) }
    else c.row.get b

/-- GRANT's job completes (R111; entry 16). -/
def grantDone (p : Port) (h : Held) (s : State) : State :=
  match h.env.body with
  | .grant _ (some x) (some target) =>
    let i := slotOf x.target.toNat
    if (cred s i).state = .empty then nextAct p s (ends .slotEmpty) s
    else if !verifies (cred s i) target then nextAct p s (ends .badArgument) s
    else if (cred s i).state = .disabled then nextAct p s (ends .slotDisabled) s
    else
      nextAct p s (ends .ok)
        (queuePage (credPage i) [] (setCred i { cred s i with row := grantedRow h x target s } s))
  | _ => s

/-- The open wrap of a band record with a given RLE (R10): none where RLE is set, the one it has, or a fresh one of the
band key. -/
def openWrapFor (rle : Bool) (old : Option Wrap) (kb : Secret) (s : State) : Option Wrap :=
  if rle then none else some (old.getD { key := kb, under := .root (rootOf s) })

/-- A band record with the settings of a BAND_SET. -/
def withSettings (x : BandArgs) (r : BandRecord) : BandRecord :=
  { r with rle := x.enables.getLsbD 0, wle := x.enables.getLsbD 1, relock := x.relock.setWidth 4 }

/-- BAND_SET without a range change: record, enables, record page (R16). -/
def applyBandSet (h : Held) (x : BandArgs) (s : State) : State :=
  let b := bandNo x.band.toNat
  let r := record s b
  let kb := rowKey (cred s 0) b (adminUnder h s)
  let r' : BandRecord := { withSettings x r with openWrap := openWrapFor (x.enables.getLsbD 0) r.openWrap kb s }
  let t := setRecord b r' s
  let t :=
    if r.rle ≠ r'.rle || r.wle ≠ r'.wle then
      settleBand b ((s.w.secrets.get b).map fun z => mediaKey s kb z) t
    else t
  queuePage (bandPage b) [] (lanesReact t)

/-- BAND_SET's job without a range change completes (R16). -/
def bandSetDone (p : Port) (h : Held) (s : State) : State :=
  match h.env.body with
  | .bandSet _ (some x) => nextAct p s (ends .ok) (applyBandSet h x s)
  | _ => s

/-- A fresh band secret replaces a band's: the band is held closed and the band secret page queued, and the request waits for
its write with the derived key and open wrap (R17, R19). -/
def replaceSecret (p : Port) (b : BandId) (z : Secret) (key : MediaKey) (wrap : Option Wrap) (s : State) : State :=
  nextAct p s (.secretWrite key wrap)
    (queuePage (secretPage b) [.request p] (setSecret b (some z) (lanesReact (holdClosed b s))))

/-- BAND_SET's job with a range change completes (R17, steps 2 and 3). -/
def bandSetRangeDone (p : Port) (h : Held) (d : Draw) (s : State) : State :=
  match drawn s d, h.env.body with
  | some z, .bandSet _ (some x) =>
    let b := bandNo x.band.toNat
    let kb := rowKey (cred s 0) b (adminUnder h s)
    replaceSecret p b z (mediaKey s kb z) (openWrapFor (x.enables.getLsbD 0) none kb s) s
  | _, _ => noEntropy p s

/-- BAND_ERASE's job completes (R19, steps 2 and 3). -/
def bandEraseDone (p : Port) (h : Held) (d : Draw) (s : State) : State :=
  match drawn s d, h.env.body with
  | some z, .bandErase _ (some n) =>
    let b := bandNo n.toNat
    let kb := rowKey (cred s 0) b (adminUnder h s)
    replaceSecret p b z (mediaKey s kb z) none s
  | _, _ => noEntropy p s

/-- A band's hold ends. -/
def unhold (b : BandId) (s : State) : State := setFlags b { flags s b with held := false } s

/-- The epochs of a band's entry and of band 0's rise for a range change (R12, R17). -/
def bumpRange (b : BandId) (s : State) : State :=
  let t := setBandKey b (bumped (s.keys.bands.get b)) s
  if b = 0 then t else setBandKey 0 (bumped (t.keys.bands.get 0)) t

/-- BAND_SET's band secret page is written: range, settings, epochs, record page, enables (R17, steps 5 and 6). -/
def bandRangeWritten (x : BandArgs) (key : MediaKey) (wrap : Option Wrap) (s : State) : State :=
  let b := bandNo x.band.toNat
  let r := withSettings x (record s b)
  let r' : BandRecord := { r with start := (newRange x).1, length := (newRange x).2, openWrap := wrap }
  lanesReact (settleBand b (some key) (unhold b (queuePage (bandPage b) [] (bumpRange b (setRecord b r' s)))))

/-- BAND_ERASE's band secret page is written: the band is brought to its enables (R19, step 5). -/
def bandEraseWritten (b : BandId) (key : MediaKey) (s : State) : State :=
  lanesReact (settleBand b (some key) (unhold b s))

/-- A request's band secret page is written (R17, R19). -/
def secretWritten (body : Body) (key : MediaKey) (wrap : Option Wrap) (s : State) : State :=
  match body with
  | .bandSet _ (some x) => bandRangeWritten x key wrap s
  | .bandErase _ (some n) => bandEraseWritten (bandNo n.toNat) key s
  | _ => s

/-- WATCH_RECOVER's job completes: the pending open loads are applied (R5, R120). -/
def recoverDone (p : Port) (s : State) : State := nextAct p s (ends .ok) (lanesReact (applyOpenLoads s))

/-! ## The Wipe Engine -/

/-- The root secret is replaced and its page queued; the cover key of the new root is loaded when it is written (R138,
R140). -/
def replaceRoot (r : Secret) (s : State) : State :=
  queuePage rootPage [.wipe] { s with w := { s.w with root := some r } }

/-- ROOT's job completes: a new root secret, or the erasure of the root page and a second job, which is handed once the erasure has
a place in the queue (R138, R158; DEDUCED, entry 45). -/
def rootDone (d : Draw) (s : State) : State :=
  if s.wipe.activity = .rootJob then
    match drawn s d with
    | some r =>
      let t := replaceRoot r s
      { t with wipe := { t.wipe with activity := .rootWrite (.cover r), rootNeeds := false } }
    | none =>
      let t := queuePage rootPage [.wipe] (failEntropy { s with w := { s.w with root := none } })
      { t with wipe := { t.wipe with activity := .coverZeroWait, rootNeeds := true } }
  else s

/-- The job that derives the cover key from 32 zero bytes completes (R138, R13). -/
def coverZeroDone (s : State) : State :=
  if s.wipe.activity = .coverZeroJob then setActivity (.rootWrite (.cover 0)) s else s

/-- REBUILD stops where it stands, or a pass does not begin, for want of a random value (R141, R142). -/
def wipeNoEntropy (s : State) : State := setActivity .noEntropy (failEntropy s)

/-- REBUILD's root job completes (R140). -/
def rebuildRootDone (d : Draw) (s : State) : State :=
  if s.wipe.activity = .rebuildRootJob then
    match drawn s d with
    | some r => setActivity (.rebuildRootWrite (.cover r)) (replaceRoot r s)
    | none => wipeNoEntropy s
  else s

/-- A slot as REBUILD's admin job leaves it: ADMIN BLANK with its row kept, the others EMPTY, all with the default limits
(R140). -/
def rebuiltSlot (salt : Secret) (s : State) (i : SlotId) : Credential :=
  if i = 0 then
    { Credential.blank 0 with salt := some salt, verifier := some { secret := 0, salt := salt }, row := (cred s 0).row }
  else Credential.blank i

/-- The credential pages in slot order. -/
def credPages : List PageId := allSlots.map credPage

/-- REBUILD's admin job: slots, counts, backoffs, attempt pages and credential pages (R140). -/
def rebuildSlots (salt : Secret) (s : State) : State :=
  withBudget (fun s =>
    queuePages (attemptPages ++ credPages) [.wipe]
      { s with w := { s.w with creds := tab8 (rebuiltSlot salt s), counts := Vector.replicate 8 0 },
               backoff := Vector.replicate 8 0 }) s

/-- REBUILD's admin job completes (R140). -/
def rebuildAdminDone (d : Draw) (s : State) : State :=
  if s.wipe.activity = .rebuildAdminJob then
    match drawn s d with
    | some salt => setActivity (.rebuildNext 0) (rebuildSlots salt s)
    | none => wipeNoEntropy s
  else s

/-- A band as REBUILD's band job leaves it: secret, record, admin wrap, and their pages (R140). Start 0 and length 0 are no range
change, so no epoch rises by R12 (DEDUCED, entry 40). -/
def rebuildBand (b : BandId) (z kb : Secret) (s : State) : State :=
  let c := cred s 0
  let c' : Credential := { c with row := put c.row b (some { key := kb, under := .credential 0 (saltOf c) }) }
  let r : BandRecord := { BandRecord.blank with openWrap := some { key := kb, under := .root (rootOf s) } }
  queuePages [secretPage b, bandPage b, credPage 0] [.wipe] (setCred 0 c' (setRecord b r (setSecret b (some z) s)))

/-- REBUILD's last queueing: the drive configuration is reset, the permit cleared, the meter off (R140). -/
def rebuildConfig (s : State) : State :=
  queuePage configPage [.wipe]
    { s with w := { s.w with config := DriveConfig.default }, coverPermit := false, twu := meterOff s.twu }

/-- A REBUILD band job completes; after band 15 the drive configuration is to be reset, once the band's pages have room (R140,
R158). -/
def rebuildBandDone (b : BandId) (secret key : Draw) (s : State) : State :=
  if s.wipe.activity = .rebuildBandJob b then
    match drawn s secret, drawn s key with
    | some z, some kb =>
      let t := rebuildBand b z kb s
      setActivity (if b = 15 then .rebuildConfigWait else .rebuildNext (b + 1)) t
    | _, _ => wipeNoEntropy s
  else s

/-- A pass begins: the FILL entry is loaded, and orders are issued from the plan's watermark (R142). A pass resumed at the scrub
end, as its last checkpoint can leave it, has nothing left to fill and ends at once (R148; DEDUCED, entry 35). -/
def passBegin (k : Secret) (s : State) : State :=
  let t := loadFill (.fill k) s
  endOrIssue
    { t with wipe := { t.wipe with activity := .scanning, running := true, issuePoint := t.w.plan.watermark,
                                   written := t.w.plan.written, refused := t.w.plan.refused } }

/-- The fill-key job completes: the pass begins, or waits; a job that the wipe no longer waits for is discarded (R142,
R152). -/
def fillKeyDone (d : Draw) (s : State) : State :=
  match drawn s d with
  | some k => if s.wipe.activity = .fillJob then passBegin k s else s
  | none => if s.wipe.activity = .fillJob then wipeNoEntropy s else failEntropy s

/-- The job that loads the bands held at DONE completes (R5, R148). -/
def openLoadDone (s : State) : State := lanesReact (applyOpenLoads s)

end Sys2Proof.Machine
end

