-- ==== Sys2Proof/Machine/Settle.lean ====
section
/-! DEFINITION. What follows at once from every act: the writer takes its head, released requests and the Wipe Engine go on,
and the arbiter grants (R89, R100, R137 to R142, R148, R158 to R160; entry 20). -/

namespace Sys2Proof.Machine

/-! ## Mailboxes -/

/-- The pages for whose room a held request waits, without those that have moved into the queue (R158). -/
def roomMoved (p : Port) (s : State) : State :=
  match box p s with
  | none => s
  | some h => setBox p (some { h with room := h.room.filter fun q => onList s.ks.room q }) s

/-- A held request goes on when what it waits for has come: the write of its attempt page and room for the other pages of its
charge (R99, R158), the room for its job, its band secret page (R17, R19, R100). -/
def advanceBox (p : Port) (s : State) : State :=
  match box p s with
  | none => s
  | some h =>
    match h.stage with
    | .charged => if waits (.request p) s || !roomClear h.room s then s else handVerify p s
    | .handing j =>
      if roomClear h.room s then setBox p (some { h with stage := .working }) (handMailbox p j s) else s
    | .secretWrite key wrap =>
      if waits (.request p) s then s else nextAct p s (ends .ok) (secretWritten h.env.body key wrap s)
    | _ => s

/-- A held request is answered when its pages have room (R83, R158). -/
def answerBox (p : Port) (s : State) : State :=
  match box p s with
  | none => s
  | some h =>
    match h.stage with
    | .answering x granted =>
      if roomClear h.room s then deliver p { plainResponse h.env.id x with granted := granted } s else s
    | _ => s

/-- A mailbox after an act. -/
def progressBox (p : Port) (s : State) : State := answerBox p (advanceBox p (roomMoved p s))

/-! ## The Wipe Engine -/

/-- The root page is written: the COVER entry takes the cover key of the new root (R13, R138, R140). -/
def coverReload (k : MediaKey) (s : State) : State := lanesReact (loadCover k s)

/-- ROOT ends: REBUILD is named (R138). -/
def rootWritten (k : MediaKey) (s : State) : State :=
  setActivity .rebuildWait (journalWait (setPlan { s.w.plan with phase := .rebuild } (coverReload k s)))

/-- REBUILD may begin: its journal is written, the ES is GOOD, and no started request is held (R139). -/
def rebuildMayBegin (s : State) : Bool :=
  !waits .wipe s && entropyGood s && !startedIn .link s && !startedIn .side s

/-- REBUILD hands its first job (R140). -/
def rebuildBegin (s : State) : State :=
  if s.wipe.rootNeeds then handWipe .rebuildRoot (setActivity .rebuildRootJob s)
  else handWipe .rebuildAdmin (setActivity .rebuildAdminJob s)

/-- REBUILD's root page is written: the COVER entry is loaded, and the admin job handed (R140). -/
def rebuildRootWritten (k : MediaKey) (s : State) : State :=
  let t := coverReload k s
  handWipe .rebuildAdmin { t with wipe := { t.wipe with activity := .rebuildAdminJob, rootNeeds := false } }

/-- The scrub of an OWNER wipe is abandoned: its result, and DONE (R153). -/
def abandonScrub (s : State) : State :=
  let p := s.w.plan
  goDone (storeResult .abandoned (if p.pass = 0 then 1 else p.pass) p.written p.refused s)

/-- REBUILD ends: the first pass is named, or the wipe goes to DONE (R141, R153). -/
def rebuildEnds (s : State) : State :=
  if s.w.plan.passes = .times 0 then goDone s
  else if s.wipe.abandon then abandonScrub s
  else namePass 1 s

/-- REBUILD ends when every page it queued has been written (R141). -/
def endRebuild (s : State) : State := if waits .wipe s then s else rebuildEnds s

/-- The drive configuration is reset, and the end of REBUILD waits for its pages (R140, R141). -/
def rebuildConfigured (s : State) : State := endRebuild (setActivity .rebuildEnd (rebuildConfig s))

/-- The watch page carrying WIPED is written: the journal names DONE (R148). -/
def wipedWritten (s : State) : State :=
  setActivity .idle (journalQueue (setPlan { s.w.plan with phase := .done } s))

/-- The Wipe Engine goes on when what it waits for has come (R137 to R142, R148). -/
def progressWipe (s : State) : State :=
  match s.wipe.activity with
  | .rootWait => if waits .wipe s then s else handWipe .root (setActivity .rootJob s)
  | .coverZeroWait =>
    if listsWaiter s.ks.room .wipe then s else handWipe .coverZero (setActivity .coverZeroJob s)
  | .rootWrite k => if waits .wipe s then s else rootWritten k s
  | .rebuildWait => if rebuildMayBegin s then rebuildBegin s else s
  | .rebuildRootWrite k => if waits .wipe s then s else rebuildRootWritten k s
  | .rebuildNext b =>
    if listsWaiter s.ks.room .wipe then s else handWipe (.rebuildBand b) (setActivity (.rebuildBandJob b) s)
  | .rebuildConfigWait => if listsWaiter s.ks.room .wipe then s else rebuildConfigured s
  | .rebuildEnd => endRebuild s
  | .passWait => if waits .wipe s then s else handWipe .fillKey (setActivity .fillJob s)
  | .doneWait => if waitsFor .wipe watchPage s then s else wipedWritten s
  | _ => s

/-! ## After every act -/

/-- What follows at once from an act. -/
def settle (s : State) : State :=
  grant (handHeldWipe (serviceStore (progressWipe (progressBox .side (progressBox .link (serviceStore s))))))

end Sys2Proof.Machine
end

