-- ==== Sys2Proof/Machine/Link.lean ====
section
/-! DEFINITION. The Media Link Port: taking messages under the inbound hold, sending, the link reset (R62 to R79). -/

namespace Sys2Proof.Machine

/-- A message is handed to its owner (R64). A sector of another size than the drive's is discarded (R65). -/
def takeMessage (m : InMsg) (s : State) : State :=
  match m with
  | .descriptor kind tag stream a n slot => takeDescriptor kind tag stream a n slot s
  | .plainSector tag a data => if data.length = sectorSize s then sectorArrives .write tag a data s else s
  | .cipherSector tag a data => if data.length = sectorSize s then sectorArrives .read tag a data s else s
  | .request e => takeEnvelope .link e s
  | .scrubRefuse slot => orderRefuse slot s

/-- The messages on the link are taken in order while the inbound hold is FLOWING; the rest stay unread (R64, R66). -/
def drain : List InMsg → State → State
  | [], s => { s with link := { s.link with inbound := [] } }
  | m :: ms, s =>
    if inboundHeld s then { s with link := { s.link with inbound := m :: ms } }
    else drain ms (settle (takeMessage m s))

/-- A message arrives: discarded while the link is DOWN, else it waits its turn on the link (R63 to R66). -/
def receive (m : InMsg) (s : State) : State :=
  if linkUp s then drain (s.link.inbound ++ [m]) s else s

/-- What the sending of a message frees: the record and tag of an admitted transfer's COMPLETION (R72). -/
def freedBy (m : OutMsg) (s : State) : State :=
  match m with
  | .completion c true => { s with dq := release c.tag s.dq }
  | _ => s

/-- The head of the outbound queue is sent, and messages that the hold kept back are taken (R66, R67). -/
def send (s : State) : State :=
  match s.link.outbound with
  | [] => s
  | m :: ms =>
    let t := freedBy m { s with link := { s.link with outbound := ms, lastSent := some m } }
    drain t.link.inbound t

/-- The link mailbox at a LINK_RESET: a started request runs on with its response to be dropped, any other is discarded with
its job (R78). -/
def resetMailbox (s : State) : State :=
  match s.linkBox with
  | none => s
  | some h =>
    if h.started then { s with link := { s.link with dropMark := some h.env.id } }
    else { withdraw .link s with linkBox := none }

/-- The link's queues, the DQ, the translation and the lanes are emptied (R76, R77, R44, R58). -/
def emptyLink (s : State) : State :=
  { s with link := { s.link with outbound := [], inbound := [] }, dq := [], stu := Translation.idle, laneA := Lane.idle,
           laneB := Lane.idle }

/-- The effects of a LINK_RESET, as one act (R76 to R79). -/
def linkReset (s : State) : State :=
  ordersReset (handState (resetMailbox (relock .linkReset { emptyLink s with coverPermit := false })))

/-- Bytes that arrive as a message: discarded where they are none (R65), else taken as what they are. -/
def receiveBytes (xs : List Byte) (s : State) : State :=
  if linkUp s then
    match decodeMessage s.w.identity.largeSectors xs with
    | none => s
    | some .reset => settle (linkReset s)
    | some (.message m) => receive m s
  else s

end Sys2Proof.Machine
end

