-- ==== Sys2Proof/Machine/Window.lean ====
section
/-! DEFINITION. The platform sideband's window: what each location reads as, what beginning a byte and writing a byte do (R169
to R178, R191). -/

namespace Sys2Proof.Machine

/-- The sideband answers its address (R169, R182). -/
def sidebandOn (s : State) : Bool := (targetAddress s).isSome

/-- Start-up is under way, in the sense of R178. -/
def starting (s : State) : Bool := !linkUp s

/-! ## Latched items (R172, R191) -/

/-- The latched item a location belongs to, with the byte's place in it. -/
def itemAt (a : Nat) : Option (Item × Nat) :=
  if a = 0x0A || a = 0x0B then some (.failureSum, a - 0x0A)
  else if a = 0x0C || a = 0x0D then some (.grace, a - 0x0C)
  else if a = 0x0E || a = 0x0F then some (.checkin, a - 0x0E)
  else if 0x30 ≤ a && a < 0x70 then some (.record (Fin.ofNat 4 ((a - 0x30) / 16)), (a - 0x30) % 16)
  else if 0x78 ≤ a && a < 0x80 then some (.header, a - 0x78)
  else none

/-- The 16 bytes of a result record (R150, R191). -/
def recordBytes : Option Machine.Result → List Byte
  | none => List.replicate 16 0
  | some r =>
    leBytes 1 (bitAt 0 r.unread + bitAt 1 r.overrun) ++ leBytes 1 (endedCode r.ended + 16 * causeCode r.cause) ++
      leBytes 2 r.pass ++ leBytes 6 r.written ++ leBytes 6 r.refused

/-- The pages of a report (R177). -/
def reportPages (r : ResponseRecord) : Nat := (r.report.length + 63) / 64

/-- The 8 bytes of the response header (R191). -/
def headerBytes (r : ResponseRecord) : List Byte :=
  [r.sequence] ++ leBytes 2 r.id.toNat ++ leBytes 1 (r.status + 16 * reportPages r) ++ leBytes 2 r.wait ++
    leBytes 2 r.granted.toNat

/-- The present bytes of a latched item; while start-up runs the counters read 0 and the result records as empty (R171,
R178). -/
def itemBytes (s : State) : Item → List Byte
  | .failureSum => leBytes 2 (only (!starting s) (failureSum s))
  | .grace => leBytes 2 (only (!starting s) (graceShown s))
  | .checkin => leBytes 2 (only (!starting s) (min (s.twu.counter / Config.ticksPerSecond) 65535))
  | .record r => recordBytes (if starting s then none else s.wipe.ring.get r)
  | .header => headerBytes s.psp.response

/-! ## Reading a byte (R170 to R173) -/

/-- The submit byte: the sideband mailbox's occupancy, held by start-up while it runs (R176, R178). -/
def submitByte (s : State) : Byte := if starting s || s.sideBox.isSome then 1 else 0

/-- The theft state location: STARTING during start-up (R171, R178). -/
def theftByte (s : State) : Byte := if starting s then 15 else BitVec.ofNat 8 (theftCode (theft s))

/-- The identification bytes (R191). -/
def identification : List Byte := [0x9C, 0x40, 0x01, 0x01]

/-- What a location outside the latched items reads as (R171, R191). -/
def plainByte (s : State) (a : Nat) : Byte :=
  if a < 4 then byteAt identification a
  else if a = 4 then s.psp.notice.setWidth 8
  else if a = 5 then theftByte s
  else if a = 6 then (if starting s then 0 else (indicatorSet s).setWidth 8)
  else if a = 9 then BitVec.ofNat 8 (checkinCode s.twu.status)
  else if a = 0x70 then submitByte s
  else if a = 0x71 then BitVec.ofNat 8 s.psp.page
  else if 0xC0 ≤ a then byteAt s.psp.response.report (s.psp.page * 64 + (a - 0xC0))
  else 0

/-- A byte of a latched item other than its first: from the latch if it holds that item, else present (R172). -/
def laterByte (s : State) (i : Item) (n : Nat) : Byte :=
  match s.psp.latch with
  | some (j, xs) => if j = i then byteAt xs n else byteAt (itemBytes s i) n
  | none => byteAt (itemBytes s i) n

/-- What a location reads as when its byte is begun (R170 to R172). -/
def readByte (s : State) (a : Nat) : Byte :=
  match itemAt a with
  | some (i, n) => if n = 0 then byteAt (itemBytes s i) 0 else laterByte s i n
  | none => plainByte s a

/-- A result record whose first byte has been read; while start-up runs the ring reads as empty, and no record is read (R150,
R178). -/
def markRead (r : OrderSlot) (s : State) : State :=
  if starting s then s
  else
    { s with wipe := { s.wipe with
        ring := put s.wipe.ring r ((s.wipe.ring.get r).map fun x => { x with unread := false }) } }

/-- The first byte of an item latches the whole item; that of a result record clears its unread flag (R172, R150). -/
def latchItem (i : Item) (s : State) : State :=
  let t : State := { s with psp := { s.psp with latch := some (i, itemBytes s i) } }
  match i with
  | .record r => markRead r t
  | _ => t

/-- The read effects of a location (R172, R173). -/
def readEffect (a : Nat) (s : State) : State :=
  match itemAt a with
  | some (i, n) => if n = 0 then latchItem i s else s
  | none => if a = 4 then { s with psp := { s.psp with notice := 0 } } else s

/-- The pointer moves to the location after `a`, wrapping (R170). -/
def pointAfter (a : Nat) (s : State) : State := { s with psp := { s.psp with pointer := BitVec.ofNat 8 (a + 1) } }

/-- A byte is begun at a location: its value is taken, its read effects apply, the pointer advances (R170). -/
def beginByte (a : Nat) (s : State) : State :=
  let v := readByte s a
  let t := pointAfter a (readEffect a s)
  { t with psp := { t.psp with served := v } }

/-! ## Writing a byte (R170, R171, R174 to R177) -/

/-- The event byte takes a value; ignored while start-up runs (R174). -/
def eventWrite (v : Byte) (s : State) : State :=
  if starting s then s
  else if v = 1 then lanesReact (relock .suspend s)
  else if v = 2 then lanesReact (relock .lidClosed s)
  else if v = 3 then lanesReact (lockAll s)
  else s

/-- The bytes of the token field as a secret. -/
def tokenValue (s : State) : Secret := BitVec.ofNat 256 (ofLe s.psp.token.toList)

/-- The token field is set to zero bytes (R175). -/
def zeroToken (s : State) : State := { s with psp := { s.psp with token := Vector.replicate 32 0 } }

/-- The CHECKIN strobe takes a value: 0x01 strobes with the token field, which is zeroed; during start-up the status becomes
IGNORED_STATE (R125, R175). -/
def strobeWrite (v : Byte) (s : State) : State :=
  if v = 1 then
    if starting s then setStatus .ignoredState (zeroToken s) else settle (strobe (tokenValue s) (zeroToken s))
  else s

/-- The request buffer is set to zero bytes (R176). -/
def zeroBuffer (s : State) : State := { s with psp := { s.psp with buffer := Vector.replicate 64 0 } }

/-- An envelope is submitted on the sideband: BUSY while start-up runs (R84, R176). -/
def submit (e : Envelope) (s : State) : State :=
  if starting s then writeRecord (plainResponse e.id .busy) s else settle (takeEnvelope .side e s)

/-- The envelope in the request buffer, with bytes 64 to 127 taken as zero (R176, R189). -/
def bufferEnvelope (s : State) : Envelope := readEnvelope (padTo 128 s.psp.buffer.toList)

/-- The submit byte takes a value: 0x01 submits the buffer, which is zeroed (R176). -/
def submitWrite (v : Byte) (s : State) : State :=
  if v = 1 then submit (bufferEnvelope s) (zeroBuffer s) else s

/-- The report page takes a value from 0 to 7 (R177). -/
def pageWrite (v : Byte) (s : State) : State :=
  if v.toNat ≤ 7 then { s with psp := { s.psp with page := v.toNat } } else s

/-- A byte is stored in the token field (R175). -/
def tokenWrite (n : Nat) (v : Byte) (s : State) : State :=
  { s with psp := { s.psp with token := put s.psp.token (Fin.ofNat 32 n) v } }

/-- A byte is stored in the request buffer (R176). -/
def bufferWrite (n : Nat) (v : Byte) (s : State) : State :=
  { s with psp := { s.psp with buffer := put s.psp.buffer (Fin.ofNat 64 n) v } }

/-- What writing a byte to a location does; a write to any other location is ignored (R170, R171). -/
def writeEffect (a : Nat) (v : Byte) (s : State) : State :=
  if a = 7 then eventWrite v s
  else if a = 8 then strobeWrite v s
  else if 0x10 ≤ a && a < 0x30 then tokenWrite (a - 0x10) v s
  else if a = 0x70 then submitWrite v s
  else if a = 0x71 then pageWrite v s
  else if 0x80 ≤ a && a < 0xC0 then bufferWrite (a - 0x80) v s
  else s

/-- A byte is written to a location, and the pointer advances (R170). -/
def writeByte (a : Nat) (v : Byte) (s : State) : State := writeEffect a v (pointAfter a s)

end Sys2Proof.Machine
end

