-- ==== Sys2Proof/Machine/Asks.lean ====
section
/-! DEFINITION. The commands that bring a request: UNLOCK to REQUEST_BAD_KIND (R80 to R87). -/

namespace Sys2Proof.Machine

/-- A REQUEST message carries an envelope over the link (R64, R73). -/
def linkRequest (id : BitVec 16) (body : Body) (s : State) : State := receive (.request { id := id, body := body }) s

/-- An envelope written into the request buffer and submitted, the pointer left after the submit byte (R176; entry 10). -/
def sideRequest (id : BitVec 16) (body : Body) (s : State) : State :=
  if sidebandOn s then submit { id := id, body := body } (zeroBuffer (pointAfter 0x70 s)) else s

/-- A request by the port it comes by. -/
def portRequest (p : Port) (id : BitVec 16) (body : Body) (s : State) : State :=
  match p with
  | .link => linkRequest id body s
  | .side => sideRequest id body s

/-- UNLOCK (R104). -/
def execUnlock (id : BitVec 16) (slot : Option Byte) (secret : Option Secret) (args : Option UnlockArgs) (s : State) : Answer :=
  .next (linkRequest id (.unlock slot secret args) s)

/-- TOKEN_UNLOCK (R104). -/
def execTokenUnlock (id : BitVec 16) (secret : Option Secret) (args : Option UnlockArgs) (s : State) : Answer :=
  .next (sideRequest id (.tokenUnlock secret args) s)

/-- LOCK (R7). -/
def execLock (id : BitVec 16) (bands : Option (BitVec 32)) (s : State) : Answer := .next (linkRequest id (.lock bands) s)

/-- OWN (R107). -/
def execOwn (id : BitVec 16) (new : Option Secret) (s : State) : Answer := .next (linkRequest id (.own new) s)

/-- SET_CRED (R108). -/
def execSetCred (id : BitVec 16) (secret : Option Secret) (args : Option LimitArgs) (new : Option Secret) (s : State) : Answer :=
  .next (linkRequest id (.setCred secret args new) s)

/-- GRANT (R111). -/
def execGrant (id : BitVec 16) (secret : Option Secret) (args : Option RowArgs) (target : Option Secret) (s : State) : Answer :=
  .next (linkRequest id (.grant secret args target) s)

/-- REVOKE (R112). -/
def execRevoke (id : BitVec 16) (secret : Option Secret) (args : Option RowArgs) (s : State) : Answer :=
  .next (linkRequest id (.revoke secret args) s)

/-- BAND_SET (R15). -/
def execBandSet (id : BitVec 16) (secret : Option Secret) (args : Option BandArgs) (s : State) : Answer :=
  .next (linkRequest id (.bandSet secret args) s)

/-- BAND_ERASE (R19). -/
def execBandErase (id : BitVec 16) (secret : Option Secret) (band : Option Byte) (s : State) : Answer :=
  .next (linkRequest id (.bandErase secret band) s)

/-- DRIVE_SET (R20, R59, R121). -/
def execDriveSet (id : BitVec 16) (secret : Option Secret) (lane : Option LaneArgs) (cover : Option CoverArgs)
    (tether : Option TetherArgs) (s : State) : Answer :=
  .next (linkRequest id (.driveSet secret lane cover tether) s)

/-- COVER_OPEN (R22). -/
def execCoverOpen (id : BitVec 16) (secret : Option Secret) (s : State) : Answer := .next (linkRequest id (.coverOpen secret) s)

/-- COVER_CLOSE (R22). -/
def execCoverClose (id : BitVec 16) (s : State) : Answer := .next (linkRequest id .coverClose s)

/-- WATCH_ARM (R118). -/
def execWatchArm (id : BitVec 16) (secret : Option Secret) (args : Option WatchArgs) (s : State) : Answer :=
  .next (linkRequest id (.watchArm secret args) s)

/-- WATCH_DISARM (R119). -/
def execWatchDisarm (id : BitVec 16) (secret : Option Secret) (s : State) : Answer :=
  .next (linkRequest id (.watchDisarm secret) s)

/-- WATCH_RECOVER (R120). -/
def execWatchRecover (id : BitVec 16) (secret : Option Secret) (s : State) : Answer :=
  .next (linkRequest id (.watchRecover secret) s)

/-- REMOTE_WIPE (R134). -/
def execRemoteWipe (id : BitVec 16) (secret : Option Secret) (s : State) : Answer :=
  .next (sideRequest id (.remoteWipe secret) s)

/-- WIPE_NOW (R151). -/
def execWipeNow (id : BitVec 16) (secret : Option Secret) (passes : Option Byte) (s : State) : Answer :=
  .next (linkRequest id (.wipeNow secret passes) s)

/-- SCRUB_STOP (R152). -/
def execScrubStop (id : BitVec 16) (secret : Option Secret) (s : State) : Answer := .next (linkRequest id (.scrubStop secret) s)

/-- REVERT (R113). -/
def execRevert (id : BitVec 16) (code : Option Secret) (s : State) : Answer := .next (linkRequest id (.revert code) s)

/-- STATUS_QUERY (R86). -/
def execStatusQuery (p : Port) (id : BitVec 16) (s : State) : Answer := .next (portRequest p id .statusQuery s)

/-- REQUEST_BAD_KIND (R82). -/
def execRequestBadKind (p : Port) (id : BitVec 16) (kind : Byte) (s : State) : Answer :=
  .next (portRequest p id (.undefined kind) s)

end Sys2Proof.Machine
end

