-- ==== Sys2Proof/Machine/Startup.lean ====
section
/-! DEFINITION. Start-up: load and classification, loss results, first start, the restoring of the watch, key loading, wipe
resume, meters, the entropy test, completion (R23, R96, R117, R153, R154, R164 to R168, R179 to R181). -/

namespace Sys2Proof.Machine

/-! ## Step 2: load and classify (R164) -/

/-- Pages 1 to 52. -/
def laterPages : List PageId := (List.range 52).map fun n => Fin.ofNat 53 (n + 1)

/-- Pages 2 to 52. -/
def dataPages : List PageId := (List.range 51).map fun n => Fin.ofNat 53 (n + 2)

def isIntact (x : Stored) : Bool := (intact x).isSome
def isBlank (x : Stored) : Bool := x = .blank

/-- The pages 1 to 52 found BLANK or TORN: the recorded set, which page 0 does not belong to (R168; DESIGN CHOICE, entry 49). -/
def lostPages (ps : Vector Stored 53) : List PageId := laterPages.filter fun p => !isIntact (ps.get p)

/-- The pages 1 to 52 found TORN. -/
def tornPages (ps : Vector Stored 53) : List PageId := laterPages.filter fun p => ps.get p = .torn

/-- Pages 1 to 52 are all BLANK: a first start (R165). -/
def allBlank (ps : Vector Stored 53) : Bool := laterPages.all fun p => isBlank (ps.get p)

/-- The identity that page 0 holds. -/
def identityOf : Stored → Option Identity
  | .intact (.identity i) => some i
  | _ => none

/-- The root secret that page 1 holds. -/
def loadRoot : Stored → Option Secret
  | .intact (.root x) => some x
  | _ => none

/-- The drive configuration, or its loss result (R166). -/
def loadConfig : Stored → DriveConfig
  | .intact (.config c) => c
  | _ => DriveConfig.default

/-- The journal's plan, or its loss result: phase DONE, pass 0, watermark 0 (R166); its other fields as at a first start (DESIGN
CHOICE, entry 53). -/
def loadPlan : Stored → Plan
  | .intact (.journal p) => p
  | _ => Plan.blank

/-- An INTACT journal names ROOT, REBUILD or SCRUB (R153, R166). -/
def journalNames : Stored → Bool
  | .intact (.journal p) => p.phase ≠ .done
  | _ => false

/-- The watch page a lost one is given: WIPING where the journal names a phase of a wipe, else ALARM (R117, R166). -/
def lostWatch (journal : Stored) : Watch :=
  { Watch.blank with theft := if journalNames journal then .wiping else .alarm }

/-- The watch page, or its loss result (R166). -/
def loadWatch (watch journal : Stored) : Watch :=
  match watch with
  | .intact (.watch w) => w
  | _ => lostWatch journal

/-- A band record's loss result (R23). -/
def lostBand : BandRecord := { BandRecord.blank with rle := true, wle := true }

def loadBand : Stored → BandRecord
  | .intact (.band r) => r
  | _ => lostBand

def loadSecret : Stored → Option Secret
  | .intact (.secret x) => some x
  | _ => none

/-- A slot's credential page, or its loss result: DISABLED with the default limits (R96). -/
def loadCred (i : SlotId) : Stored → Credential
  | .intact (.credential c) => c
  | _ => Credential.fresh i .disabled

/-- A slot's failure count: as loaded, at most the hard limit; a lost attempt page gives hard limit − 1 (R96). -/
def loadCount (hard : Nat) : Stored → Nat
  | .intact (.attempt n) => min n hard
  | _ => hard - 1

/-- A user or platform slot whose loaded count equals its hard limit is DISABLED (R96). -/
def limitCred (i : SlotId) (n : Nat) (c : Credential) : Credential :=
  if i ≠ 0 && n = c.hard then { c with state := .disabled } else c

/-- The working copy of an INTACT or lost store (R164, R166). -/
def loadWorking (i : Identity) (ps : Vector Stored 53) : Working :=
  let c (k : SlotId) : Credential := loadCred k (ps.get (credPage k))
  let n (k : SlotId) : Nat := loadCount (c k).hard (ps.get (attemptPage k))
  { identity := i, root := loadRoot (ps.get rootPage), config := loadConfig (ps.get configPage),
    watch := loadWatch (ps.get watchPage) (ps.get journalPage), plan := loadPlan (ps.get journalPage),
    bands := tab16 fun b => loadBand (ps.get (bandPage b)), secrets := tab16 fun b => loadSecret (ps.get (secretPage b)),
    creds := tab8 fun k => limitCred k (n k) (c k), counts := tab8 n }

/-- The working copy of a first start, but for the values that must be drawn (R165). -/
def firstWorking (i : Identity) : Working := { Working.unloaded with identity := i }

/-- Steps 2 and 3 in part: the working copy, and what start-up records (R164, R165, R168). -/
def loadStep (i : Identity) (s : State) : State :=
  if allBlank s.ks.pages then
    { s with w := firstWorking i, startup := { restored := .dormant, lost := [], torn := [], firstStart := true } }
  else
    { s with w := loadWorking i s.ks.pages,
             startup := { restored := .dormant, lost := lostPages s.ks.pages, torn := tornPages s.ks.pages,
                          firstStart := false } }

/-! ## Step 3: loss results (R166, R167) -/

/-- A wipe with cause STORE_LOSS in phase REBUILD, the root needing a secret (R135, R165, R166). -/
def storeLossPlan (s : State) : State :=
  journalWait
    { setPlan (freshPlan .storeLoss (.times 0) .rebuild) s with
      wipe := { WipeEngine.powerOn with activity := .rebuildWait, rootNeeds := true, ring := s.wipe.ring,
                                        ringNext := s.wipe.ringNext } }

/-- A lost root page outside a wipe begins one with cause STORE_LOSS (R166). -/
def rootLoss (s : State) : Bool := s.w.root.isNone && theft s ≠ .wiping && !s.startup.firstStart

/-- The pages that start-up writes again: the lost ones, and the credential pages of slots disabled at their limit; the
journal of a wipe is the Wipe Engine's (R96, R167). -/
def rewrites (s : State) : List PageId :=
  dataPages.filter fun p =>
    (s.startup.lost.contains p && !(p = journalPage && theft s = .wiping)) || (37 ≤ p.val && p.val < 45)

/-- Step 3: the loss results, and their pages in page order (R166, R167); at a root loss the wipe's watch page and journal come
behind them (DESIGN CHOICE, entry 39). -/
def lossStep (s : State) : State :=
  if s.startup.firstStart then s
  else if rootLoss s then
    let t := setWatch (watchAs .wiping s.w.watch) s
    storeLossPlan (queuePage watchPage [.wipe] (queuePages (rewrites t) [] t))
  else queuePages (rewrites s) [] s

/-! ## Steps 4 and 5 (R117, R179, R182) -/

/-- The theft state uses the check-in counter. -/
def watched (t : Theft) : Bool := t = .armed || t = .suspect

/-- The grace at step 4: stored seconds, or at a line reset that found SUSPECT the retained value (R117). -/
def restoredGrace (s : State) : Nat :=
  if theft s = .suspect then
    match s.held with
    | some h => if h.inSuspect then h.grace else s.w.watch.graceSeconds * Config.ticksPerSecond
    | none => s.w.watch.graceSeconds * Config.ticksPerSecond
  else 0

/-- The check-in counter at step 4: 0 at power-on, retained at a line reset (R117). -/
def restoredCounter (s : State) : Nat :=
  if watched (theft s) then
    match s.held with
    | some h => h.counter
    | none => 0
  else 0

/-- The tamper latch at step 4: the watch page's, or the one held (R117, R182). -/
def restoredLatch (s : State) : Bool :=
  match s.held with
  | some h => h.latch
  | none => s.w.watch.latch

/-- Step 4: the watch is restored; a held latch that differs is queued, but at a first start with the other pages (R117,
R182). -/
def watchStep (s : State) : State :=
  let t : State :=
    { s with w := { s.w with watch := { s.w.watch with latch := restoredLatch s } },
             twu := { WatchUnit.powerOn with grace := restoredGrace s, counter := restoredCounter s, status := s.twu.status },
             startup := { s.startup with restored := theft s } }
  if s.startup.firstStart then t else queuePage watchPage [] t

/-- A band's flags at step 5: as a lock per its enables gives; closed in ALARM, in WIPING and without a band secret (R23,
R167, R180). -/
def startFlags (s : State) (b : BandId) : BandFlags :=
  let shut : BandFlags := { readLocked := true, writeLocked := true, pendingLoad := false, held := false }
  if barred s || !hasSecret s b then shut else withLock (record s b) shut

/-- Step 5: every band is locked per its enables, with every live key entry absent at epoch 0 (R11, R179). -/
def lockStep (s : State) : State := { s with bands := tab16 (startFlags s), keys := KeyTable.powerOn }

/-! ## Steps 6 and 7 (R96, R180) -/

/-- The bands whose keys the key job derives: those left not closed (R180). -/
def openBands (s : State) : List BandId := allBands.filter fun b => !closed (flags s b)

/-- Step 6: the key job is handed (R180). -/
def keyStep (s : State) : State := handStartup (.startupKey (openBands s)) s

/-- A slot's backoff at step 7 (R96). -/
def restoredBackoff (s : State) (i : SlotId) : Nat :=
  if count s i ≤ (cred s i).free || (i ≠ 0 && (cred s i).state = .disabled) then 0
  else
    match s.held with
    | some h => h.backoff.get i
    | none => backoffDelay i (cred s i) (count s i)

/-- Step 7: backoffs (R96, R180). -/
def backoffStep (s : State) : State := { s with backoff := tab8 (restoredBackoff s) }

/-! ## Step 8: wipe resume (R153, R154) -/

/-- The wipe is an OWNER's with finite passes above 0, whose scrub a resume abandons (R153). -/
def abandons (p : Plan) : Bool :=
  p.cause = some .owner &&
    (match p.passes with
     | .times n => n ≠ 0
     | .continuous => false)

/-- Resume in ROOT: it begins when the journal and the watch page stand in the store (R137, R153). It waits for a watch page that
start-up has queued again, for another latch too (R160; DESIGN CHOICE, entry 44). -/
def resumeRoot (s : State) : State :=
  journalWait (queuePage watchPage [.wipe]
    { s with wipe := { s.wipe with activity := .rootWait, abandon := abandons s.w.plan } })

/-- Resume in REBUILD (R153, R154). -/
def resumeRebuild (s : State) : State :=
  { s with wipe := { s.wipe with activity := .rebuildWait, abandon := abandons s.w.plan } }

/-- Resume in SCRUB (R153). -/
def resumeScrub (s : State) : State :=
  let p := s.w.plan
  if abandons p then abandonScrub s
  else if p.cause = some .owner then namePass 1 s
  else
    { s with wipe := { s.wipe with activity := .passWait, issuePoint := p.watermark, written := p.written,
                                   refused := p.refused } }

/-- A lost root page while WIPING: the wipe resumes at REBUILD with the root job first (R154). -/
def resumeRootLost (s : State) : State :=
  let t : State := { s with wipe := { s.wipe with rootNeeds := true } }
  if s.w.plan.phase = .rebuild then resumeRebuild t
  else resumeRebuild (journalWait (setPlan { s.w.plan with phase := .rebuild } t))

/-- An unusable journal while WIPING: a fresh plan with cause THEFT from ROOT (R154). -/
def resumeFresh (s : State) : State :=
  let t := setPlan (freshPlan .theft (theftPasses s) .root) s
  resumeRoot { t with wipe := { t.wipe with rootNeeds := s.w.root.isNone } }

/-- Outside WIPING a journal that names a phase is set to DONE (R154). -/
def ignoreJournal (s : State) : State :=
  if s.w.plan.phase = .done then s else journalQueue (setPlan { s.w.plan with phase := .done } s)

/-- Step 8: a wipe is resumed; one that a lost root page has just begun goes on by itself (R153, R154, R166). -/
def resumeStep (s : State) : State :=
  if theft s ≠ .wiping then ignoreJournal s
  else if s.wipe.activity ≠ .idle then s
  else if s.w.plan.phase = .done then resumeFresh s
  else if s.w.root.isNone then resumeRootLost s
  else
    match s.w.plan.phase with
    | .root => resumeRoot s
    | .rebuild => resumeRebuild s
    | _ => resumeScrub s

/-! ## Steps 9 and 10 (R117, R127, R129, R181) -/

/-- The tether filter at step 9: PRESENT, or the state held at a line reset (R128, R182; entry 28). -/
def restoredTether (s : State) : Bool :=
  match s.held with
  | some h => h.tetherLost
  | none => false

/-- The meter and the filters start (R127 to R129). The cycle of the tick period at which the meter starts is not carried: it
starts where the divider stands (R183; DESIGN CHOICE, entry 54). -/
def startMeters (s : State) : State :=
  let on : Bool := 0 < s.w.config.period
  { s with twu := { s.twu with meterOn := on, meterFirst := on, meterCount := 0, tetherLost := restoredTether s,
                               tetherRun := 0, tamperOpen := false, tamperOpposite := false } }

/-- An indicator evaluated against the restored theft state (R117). -/
def evaluate (i : Indicator) (s : State) : State := if asserted s i then assertIndicator i s else s

/-- Step 9: the meters start and the indicators are evaluated (R117, R181; entry 14). -/
def meterStep (s : State) : State :=
  evaluate .budget (evaluate .tamper (evaluate .tether (evaluate .checkin (startMeters s))))

/-- A first start without entropy proceeds as a wipe whose REBUILD waits (R91, R165). -/
def firstStartFails (s : State) : State := storeLossPlan (theftCore .wiping s)

/-- Step 10: the health test (R91, R181). -/
def entropyStep (s : State) : State :=
  let t : State := { s with entropyFailed := !s.entropyTest }
  if t.entropyFailed && t.startup.firstStart then firstStartFails t else t

/-- Steps 3 to 10, after the load. -/
def laterSteps (s : State) : State :=
  let t := entropyStep (meterStep (resumeStep (backoffStep (keyStep (lockStep (watchStep (lossStep s)))))))
  { t with held := none }

/-- Start-up's steps 1 to 10, with the store writer IDLE; where page 0 is not INTACT it stops (R164, R179 to R181). -/
def startUp (s : State) : State :=
  match identityOf (s.ks.pages.get 0) with
  | none => raise noticeLoss { s with mode := .identityLost }
  | some i => laterSteps (loadStep i { s with mode := .keyJobs })

/-- Start-up begins, once the store writer is IDLE (R161, R179). -/
def beginStartUp (s : State) : State :=
  match s.ks.writer with
  | some _ => { s with mode := .writerWait }
  | none => startUp s

/-! ## Start-up's jobs and step 11 (R180, R181) -/

/-- Start-up stored a result: the ring is empty after either reset, and its first record is start-up's (R149). -/
def resultStored (s : State) : Bool := (s.wipe.ring.get 0).isSome

/-- Step 11: ready (R181, R63, R168); the orders of a resumed scrub follow the first STATE message (R63), and a result that
start-up stored is announced (entry 36). -/
def startupComplete (s : State) : State :=
  let t := issueOrders (handState { s with mode := .ready })
  let t := if theft t = t.startup.restored then t else raise noticeTheft t
  let t := if resultStored t then raise noticeResult t else t
  if t.startup.lost.isEmpty then t else raise noticeLoss t

/-- A band's entry when the key job completes: loaded for a band of the job that is open, unless the theft state is ALARM or
WIPING (R180, R14). -/
def startupPair (bs : List BandId) (s : State) (b : BandId) : BandFlags × LiveKey :=
  match openKey s b with
  | some k =>
    if bs.contains b && !barred s && !closed (flags s b) then (flags s b, loaded k (s.keys.bands.get b)) else bandPair s b
  | none => bandPair s b

/-- Values must be drawn: a first start's, or lost band secrets (R165, R167, R180). -/
def needsDraw (s : State) : Bool :=
  entropyGood s && ((s.startup.firstStart && s.w.root.isNone) || allBands.any fun b => !hasSecret s b)

/-- The key job completes (R180); the second job is handed where values must be drawn. -/
def startupKeyDone (bs : List BandId) (s : State) : State :=
  let t := tabBands (startupPair bs s) (loadCover (.cover (rootOrZero s)) s)
  if needsDraw t then handStartup .startupDraw t else startupComplete t

/-- The values delivered, each passing its test: none if one is missing or failed (R91, R92). -/
def allDrawn : Nat → List Draw → Option (List Secret)
  | 0, _ => some []
  | n + 1, some x :: xs => (allDrawn n xs).map fun ys => x :: ys
  | _ + 1, _ => none

/-- The values a job of `n` draws gets from the ES. -/
def drawnAll (s : State) (n : Nat) (ds : List Draw) : Option (List Secret) := if s.entropyFailed then none else allDrawn n ds

/-- The blank state of a first start with its drawn values: root, salt, sixteen band secrets, sixteen band keys (R165). -/
def firstDrawn (xs : List Secret) (w : Working) : Working :=
  let root := xs.getD 0 0
  let salt := xs.getD 1 0
  let key (b : BandId) : Secret := xs.getD (18 + b.val) 0
  { w with
    root := some root,
    creds := put w.creds 0
      { w.creds.get 0 with state := .blank, salt := some salt, verifier := some { secret := 0, salt := salt },
                           row := tab16 fun b => some { key := key b, under := .credential 0 salt } },
    secrets := tab16 fun b => some (xs.getD (2 + b.val) 0),
    bands := tab16 fun b => { w.bands.get b with openWrap := some { key := key b, under := .root root } } }

/-- The pages of a first start: 2 to 52 in page order, and the root page last (R165). -/
def firstPages : List PageId := dataPages ++ [rootPage]

/-- A first start's values are installed, its keys loaded and its pages queued (R165, R180). -/
def firstInstall (xs : List Secret) (s : State) : State :=
  let t : State := { s with w := firstDrawn xs s.w }
  let t := loadCover (.cover (rootOrZero t)) t
  queuePages firstPages [] (tabBands (fun b => settlePair t b (openKey t b)) t)

/-- A lost band secret's fresh value is installed, its page queued and the band brought to its enables (R167, R180). -/
def lostInstall (b : BandId) (x : Secret) (s : State) : State :=
  let t := queuePage (secretPage b) [] (setSecret b (some x) s)
  settleBand b (openKey t b) t

/-- The fresh values of lost band secrets, in band order. -/
def lostInstalls : List (BandId × Secret) → State → State
  | [], s => s
  | (b, x) :: rest, s => lostInstalls rest (lostInstall b x s)

/-- The bands without a band secret. -/
def bareBands (s : State) : List BandId := allBands.filter fun b => !hasSecret s b

/-- The second job completes (R165, R167, R180). -/
def startupDrawDone (ds : List Draw) (s : State) : State :=
  if s.startup.firstStart then
    match drawnAll s 34 ds with
    | some xs => startupComplete (firstInstall xs s)
    | none => startupComplete (firstStartFails (failEntropy s))
  else
    match drawnAll s (bareBands s).length ds with
    | some xs => startupComplete (lostInstalls ((bareBands s).zip xs) s)
    | none => startupComplete (failEntropy s)

end Sys2Proof.Machine
end

