-- ==== Sys2Proof/Machine/Completions.lean ====
section
/-! DEFINITION. The commands that end a job of the Derivation Engine or a page write: VERIFY_JOB_COMPLETE to
PAGE_WRITE_COMPLETE (R90, R100, R159). A completion of a job that is not running leaves the state as it is (entry 3). -/

namespace Sys2Proof.Machine

/-- The Wipe Engine's running job. -/
def wipeRunning (s : State) : Option Job :=
  match s.engine.running with
  | some (.wipe, j) => some j
  | _ => none

/-- The slot a held request presents. -/
def heldSlot (h : Held) : SlotId := (slotPresented h.env.body).getD 0

/-- VERIFY_JOB_COMPLETE (R100). -/
def execVerifyJobComplete (s : State) : Answer :=
  match mailboxRunning s with
  | some (p, .verify, h) => .next (settle (verified p h (heldSlot h) (endJob s)))
  | _ => .next s

/-- UNLOCK_JOB_COMPLETE (R104). -/
def execUnlockJobComplete (s : State) : Answer :=
  match mailboxRunning s with
  | some (p, .unlock salt ws, h) => .next (settle (unlockDone p h salt ws (endJob s)))
  | _ => .next s

/-- OWN_JOB_COMPLETE (R107). -/
def execOwnJobComplete (salt : Draw) (s : State) : Answer :=
  match mailboxRunning s with
  | some (p, .own, h) => .next (settle (ownDone p h salt (endJob s)))
  | _ => .next s

/-- SET_CRED_JOB_COMPLETE (R109). -/
def execSetCredJobComplete (salt : Draw) (s : State) : Answer :=
  match mailboxRunning s with
  | some (p, .setCred, h) => .next (settle (setCredDone p h salt (endJob s)))
  | _ => .next s

/-- SET_CRED_ADMIN_JOB_COMPLETE (R110). -/
def execSetCredAdminJobComplete (salt : Draw) (s : State) : Answer :=
  match mailboxRunning s with
  | some (p, .setCredAdmin, h) => .next (settle (setCredAdminDone p h salt (endJob s)))
  | _ => .next s

/-- GRANT_JOB_COMPLETE (R111). -/
def execGrantJobComplete (s : State) : Answer :=
  match mailboxRunning s with
  | some (p, .grant, h) => .next (settle (grantDone p h (endJob s)))
  | _ => .next s

/-- BAND_SET_JOB_COMPLETE (R16). -/
def execBandSetJobComplete (s : State) : Answer :=
  match mailboxRunning s with
  | some (p, .bandSet, h) => .next (settle (bandSetDone p h (endJob s)))
  | _ => .next s

/-- BAND_SET_RANGE_JOB_COMPLETE (R17). -/
def execBandSetRangeJobComplete (secret : Draw) (s : State) : Answer :=
  match mailboxRunning s with
  | some (p, .bandSetRange, h) => .next (settle (bandSetRangeDone p h secret (endJob s)))
  | _ => .next s

/-- BAND_ERASE_JOB_COMPLETE (R19). -/
def execBandEraseJobComplete (secret : Draw) (s : State) : Answer :=
  match mailboxRunning s with
  | some (p, .bandErase, h) => .next (settle (bandEraseDone p h secret (endJob s)))
  | _ => .next s

/-- WATCH_RECOVER_JOB_COMPLETE (R120). -/
def execWatchRecoverJobComplete (s : State) : Answer :=
  match mailboxRunning s with
  | some (p, .recover, _) => .next (settle (recoverDone p (endJob s)))
  | _ => .next s

/-- CHECKIN_COMPARE_COMPLETE (R126). -/
def execCheckinCompareComplete (s : State) : Answer :=
  match s.engine.running with
  | some (.compare, .compare token) => .next (settle (compareDone token (endJob s)))
  | _ => .next s

/-- ROOT_JOB_COMPLETE (R138). -/
def execRootJobComplete (root : Draw) (s : State) : Answer :=
  match wipeRunning s with
  | some .root => .next (settle (rootDone root (endJob s)))
  | _ => .next s

/-- COVER_ZERO_JOB_COMPLETE (R138). -/
def execCoverZeroJobComplete (s : State) : Answer :=
  match wipeRunning s with
  | some .coverZero => .next (settle (coverZeroDone (endJob s)))
  | _ => .next s

/-- REBUILD_ROOT_JOB_COMPLETE (R140). -/
def execRebuildRootJobComplete (root : Draw) (s : State) : Answer :=
  match wipeRunning s with
  | some .rebuildRoot => .next (settle (rebuildRootDone root (endJob s)))
  | _ => .next s

/-- REBUILD_ADMIN_JOB_COMPLETE (R140). -/
def execRebuildAdminJobComplete (salt : Draw) (s : State) : Answer :=
  match wipeRunning s with
  | some .rebuildAdmin => .next (settle (rebuildAdminDone salt (endJob s)))
  | _ => .next s

/-- REBUILD_BAND_JOB_COMPLETE (R140). -/
def execRebuildBandJobComplete (secret key : Draw) (s : State) : Answer :=
  match wipeRunning s with
  | some (.rebuildBand b) => .next (settle (rebuildBandDone b secret key (endJob s)))
  | _ => .next s

/-- FILL_KEY_JOB_COMPLETE (R142). -/
def execFillKeyJobComplete (key : Draw) (s : State) : Answer :=
  match wipeRunning s with
  | some .fillKey => .next (settle (fillKeyDone key (endJob s)))
  | _ => .next s

/-- OPEN_LOAD_JOB_COMPLETE (R148). -/
def execOpenLoadJobComplete (s : State) : Answer :=
  match wipeRunning s with
  | some .openLoad => .next (settle (openLoadDone (endJob s)))
  | _ => .next s

/-- PAGE_WRITE_COMPLETE; a start-up that waited for the writer begins (R159, R161). -/
def execPageWriteComplete (s : State) : Answer :=
  match s.ks.writer with
  | none => .next s
  | some _ =>
    if s.mode = .writerWait then .next (settle (startUp (completeWrite s))) else .next (settle (completeWrite s))

end Sys2Proof.Machine
end

