-- ==== Sys2Proof/Machine/Power.lean ====
section
/-! DEFINITION. The commands of the supply and the RESETn line: POWER_ON to STARTUP_DRAW_JOB_COMPLETE (R161, R179 to R182). -/

namespace Sys2Proof.Machine

/-- POWER_ON: all volatile state takes its power-on values, and start-up waits for the supply (R179). A part that is powered
is left as it is (entry 3). -/
def execPowerOn (addrSel : Bool) (s : State) : Answer :=
  if s.mode = .off then .next (State.powerOn s.ks.pages addrSel s.entropyTest s.pending) else .next s

/-- The pages after a power loss: one being written is left TORN, or BLANK where the cut fell within the erase (R161). -/
def cutPages (inErase : Bool) (s : State) : Vector Stored 53 :=
  match s.ks.writer with
  | some x => put s.ks.pages x.page (if inErase then .blank else .torn)
  | none => s.ks.pages

/-- POWER_LOSS: the write in progress is cut, and all else is lost (R161). -/
def execPowerLoss (inErase : Bool) (s : State) : Answer :=
  if s.mode = .off then .next s
  else .next { State.powerOn (cutPages inErase s) s.addrSel s.entropyTest s.pending with mode := .off }

/-- The items the part holds through a line reset; those that the interrupted start-up had not set stay as held before
(R182). -/
def heldNow (s : State) : Option HeldItems :=
  if counting s then
    some { backoff := s.backoff, counter := s.twu.counter, grace := s.twu.grace, inSuspect := theft s = .suspect,
           tetherLost := s.twu.tetherLost, latch := s.w.watch.latch }
  else s.held

/-- The writer while RESETn is asserted: a write in progress runs on, nothing waits for it (R161, R182). -/
def writerKept (s : State) : Option Writing := s.ks.writer.map fun x => { x with waiters := [] }

/-- The part while RESETn is asserted (R182): power-on values, but for the store, the supply monitor, the time base and the
items held. -/
def resetAsserted (s : State) : State :=
  { State.powerOn s.ks.pages s.addrSel s.entropyTest s.pending with
    mode := .resetHeld, supplyOk := s.supplyOk, supplyPrev := s.supplyPrev, supplySeenOk := s.supplySeenOk,
    divider := s.divider, held := heldNow s,
    ks := { pages := s.ks.pages, queue := [], room := [], writer := writerKept s } }

/-- RESETN_ASSERT (R182). -/
def execResetnAssert (s : State) : Answer :=
  if s.mode = .off || s.mode = .resetHeld then .next s else .next (resetAsserted s)

/-- RESETN_RELEASE: ADDR_SEL is sampled and start-up begins, or waits for the supply's first OK (R169, R179). -/
def execResetnRelease (addrSel entropyGood : Bool) (s : State) : Answer :=
  if s.mode = .resetHeld then
    let t : State := { s with addrSel := addrSel, entropyTest := entropyGood }
    .next (if s.supplySeenOk then settle (beginStartUp t) else { t with mode := .supplyWait })
  else .next s

/-- STARTUP_KEY_JOB_COMPLETE (R180). -/
def execStartupKeyJobComplete (s : State) : Answer :=
  match s.engine.running with
  | some (.startup, .startupKey bs) => .next (settle (startupKeyDone bs (endJob s)))
  | _ => .next s

/-- STARTUP_DRAW_JOB_COMPLETE (R180). -/
def execStartupDrawJobComplete (draws : List Draw) (s : State) : Answer :=
  match s.engine.running with
  | some (.startup, .startupDraw) => .next (settle (startupDrawDone draws (endJob s)))
  | _ => .next s

end Sys2Proof.Machine
end

