-- ==== Sys2Proof/Machine/Sideband.lean ====
section
/-! DEFINITION. The commands of the platform sideband: SUSPEND to RESULT_RECORD_READ (R170 to R178). While the sideband
acknowledges no address they do nothing (R169). -/

namespace Sys2Proof.Machine

/-- SUSPEND: the event byte takes 1 (R174). -/
def execSuspend (s : State) : Answer := .next (if sidebandOn s then writeByte 0x07 1 s else s)

/-- LID_CLOSED: the event byte takes 2 (R174). -/
def execLidClosed (s : State) : Answer := .next (if sidebandOn s then writeByte 0x07 2 s else s)

/-- LOCK_ALL: the event byte takes 3 (R7, R174). -/
def execLockAll (s : State) : Answer := .next (if sidebandOn s then writeByte 0x07 3 s else s)

/-- CHECKIN_STROBE: the strobe takes 0x01 (R125, R175). -/
def execCheckinStrobe (s : State) : Answer := .next (if sidebandOn s then writeByte 0x08 1 s else s)

/-- POINTER_SET: the first byte of a write transaction (R170). -/
def execPointerSet (value : Byte) (s : State) : Answer :=
  .next (if sidebandOn s then { s with psp := { s.psp with pointer := value } } else s)

/-- REGISTER_WRITE: a byte is written at the pointer (R170, R171). -/
def execRegisterWrite (value : Byte) (s : State) : Answer :=
  .next (if sidebandOn s then writeByte s.psp.pointer.toNat value s else s)

/-- REPORT_PAGE_SELECT (R177). -/
def execReportPageSelect (value : Byte) (s : State) : Answer :=
  .next (if sidebandOn s then writeByte 0x71 value s else s)

/-- NOTICE_BYTE_READ (R173). -/
def execNoticeByteRead (s : State) : Answer := .next (if sidebandOn s then beginByte 0x04 s else s)

/-- LATCHED_READ: a byte is begun at the pointer (R170, R172). -/
def execLatchedRead (s : State) : Answer := .next (if sidebandOn s then beginByte s.psp.pointer.toNat s else s)

/-- RESULT_RECORD_READ: the first byte of a record is begun (R150, R172). -/
def execResultRecordRead (r : OrderSlot) (s : State) : Answer :=
  .next (if sidebandOn s then beginByte (0x30 + 16 * r.val) s else s)

end Sys2Proof.Machine
end

