-- ==== Sys2Proof/Machine/Time.lean ====
section
/-! DEFINITION. The commands of time and of the lines it samples: TICK to TETHER_OVERFLOW (R56, R106, R123, R127, R133, R183,
R184). -/

namespace Sys2Proof.Machine

/-- A sample of the supply comparator: the state changes at the second of two samples against it (R184). -/
def sampleSupply (high : Bool) (s : State) : State :=
  let ok : Bool := if s.supplyPrev = some high then high else s.supplyOk
  { s with supplyOk := ok, supplyPrev := some high, supplySeenOk := s.supplySeenOk || ok }

/-- The timers that reached their end and whose own commands have not been taken: lane A's, lane B's, the grace, the check-in
period, an order that the manual leaves open (DESIGN CHOICE, entry 32). -/
def takeDue (s : State) : State := reachPeriod (expireGrace (expire .b (expire .a s)))

/-- The counts of a tick: lanes, backoffs, check-in counter, grace (R183). -/
def tickCounts (s : State) : State :=
  tickGrace (tickCounter
    { s with laneA := laneTick s.laneA, laneB := laneTick s.laneB, backoff := tab8 fun i => backoffOf s i - 1 })

/-- A tick for the blocks whose counters start-up has started (R183): the ends that are due, the cycles of the meter with an
overflow on the tick's own cycle, the counts, and the tamper sample (DESIGN CHOICE, entry 47). -/
def tickBlocks (tamperHigh : Bool) (s : State) : State :=
  if counting s then
    sampleTamper tamperHigh (tickCounts (meterCycles (Config.cyclesPerTick - s.divider) (takeDue s)))
  else s

/-- Start-up begins when the supply first becomes OK after power-on (R179, R184). -/
def startIfSupplied (s : State) : State := if s.mode = .supplyWait && s.supplyOk then beginStartUp s else s

/-- TICK (R183). -/
def execTick (tamperHigh supplyHigh entropyGood : Bool) (s : State) : Answer :=
  if s.mode = .off then .next s
  else
    .next (settle (startIfSupplied (sampleSupply supplyHigh
      { tickBlocks tamperHigh s with divider := 0, entropyTest := entropyGood })))

/-- DATA_TIMEOUT (R56). -/
def execDataTimeout (l : LaneId) (s : State) : Answer := .next (settle (expire l s))

/-- BACKOFF_END: the tick that brought the backoff to 0 has done all there is to do (R106; entry 2). -/
def execBackoffEnd (_slot : SlotId) (s : State) : Answer := .next s

/-- CHECKIN_PERIOD_REACHED (R123). -/
def execCheckinPeriodReached (s : State) : Answer := .next (settle (reachPeriod s))

/-- GRACE_EXPIRED (R133). -/
def execGraceExpired (s : State) : Answer := .next (settle (expireGrace s))

/-- The cycles up to an edge pass (R127, R183; entry 13). -/
def passCycles (cycle : Nat) (s : State) : State :=
  meterCycles (min cycle Config.cyclesPerTick - s.divider)
    { s with divider := max s.divider (min cycle Config.cyclesPerTick) }

/-- TETHER_EDGE (R127). Of an edge and an overflow on one cycle the overflow comes first (DESIGN CHOICE, entry 37). -/
def execTetherEdge (cycle : Nat) (s : State) : Answer :=
  if s.mode = .off then .next s else .next (settle (meterEdge (passCycles cycle s)))

/-- TETHER_OVERFLOW (R127). -/
def execTetherOverflow (s : State) : Answer := .next (settle (meterOverflow s))

end Sys2Proof.Machine
end

