-- ==== Sys2Proof/Machine/Traffic.lean ====
section
/-! DEFINITION. The commands of the media link and of the data path: DESCRIPTOR to FILL_SECTOR (R25 to R79). -/

namespace Sys2Proof.Machine

/-- DESCRIPTOR (R25). -/
def execDescriptor (kind tag stream : Byte) (first : BitVec 48) (n : BitVec 16) (order : Byte) (s : State) : Answer :=
  .next (receive (.descriptor kind tag stream first.toNat n.toNat order) s)

/-- PLAIN_SECTOR (R52). -/
def execPlainSector (tag : Byte) (address : BitVec 48) (data : List Byte) (s : State) : Answer :=
  .next (receive (.plainSector tag address.toNat data) s)

/-- CIPHER_SECTOR (R51). -/
def execCipherSector (tag : Byte) (address : BitVec 48) (data : List Byte) (s : State) : Answer :=
  .next (receive (.cipherSector tag address.toNat data) s)

/-- SCRUB_REFUSE (R75). -/
def execScrubRefuse (order : Byte) (s : State) : Answer := .next (receive (.scrubRefuse order) s)

/-- LINK_RESET: discarded while the link is DOWN (R76). -/
def execLinkReset (s : State) : Answer := .next (if linkUp s then settle (linkReset s) else s)

/-- MALFORMED_MESSAGE (R65). -/
def execMalformedMessage (bytes : List Byte) (s : State) : Answer := .next (receiveBytes bytes s)

/-- SEND_MESSAGE (R67). -/
def execSendMessage (s : State) : Answer := .next (if linkUp s then send s else s)

/-- TRANSLATE_PIECE (R33). -/
def execTranslatePiece (s : State) : Answer := .next (settle (translateNext s))

/-- TRANSLATION_RESUME (R40). -/
def execTranslationResume (s : State) : Answer := .next (settle (resumeTranslation s))

/-- FILL_SECTOR (R53). -/
def execFillSector (l : LaneId) (s : State) : Answer := .next (settle (fillNext l s))

end Sys2Proof.Machine
end

