-- ==== Sys2Proof/Machine/Dispatch.lean ====
section
/-! DEFINITION. The meaning of every command: one arm for each row of spec/opcode_table.json. -/

namespace Sys2Proof.Machine

def exec (i : Instr) (s : State) : Host.Outcome State Fault Refusal :=
  match i with
  | .powerOn addrSel => Sys2Proof.Machine.execPowerOn addrSel s
  | .powerLoss inErase => Sys2Proof.Machine.execPowerLoss inErase s
  | .resetnAssert => Sys2Proof.Machine.execResetnAssert s
  | .resetnRelease addrSel entropyGood => Sys2Proof.Machine.execResetnRelease addrSel entropyGood s
  | .startupKeyJobComplete => Sys2Proof.Machine.execStartupKeyJobComplete s
  | .startupDrawJobComplete draws => Sys2Proof.Machine.execStartupDrawJobComplete draws s
  | .tick tamperHigh supplyHigh entropyGood => Sys2Proof.Machine.execTick tamperHigh supplyHigh entropyGood s
  | .dataTimeout lane => Sys2Proof.Machine.execDataTimeout lane s
  | .backoffEnd slot => Sys2Proof.Machine.execBackoffEnd slot s
  | .checkinPeriodReached => Sys2Proof.Machine.execCheckinPeriodReached s
  | .graceExpired => Sys2Proof.Machine.execGraceExpired s
  | .tetherEdge cycle => Sys2Proof.Machine.execTetherEdge cycle s
  | .tetherOverflow => Sys2Proof.Machine.execTetherOverflow s
  | .descriptor kind tag stream first count order => Sys2Proof.Machine.execDescriptor kind tag stream first count order s
  | .plainSector tag address data => Sys2Proof.Machine.execPlainSector tag address data s
  | .cipherSector tag address data => Sys2Proof.Machine.execCipherSector tag address data s
  | .scrubRefuse order => Sys2Proof.Machine.execScrubRefuse order s
  | .linkReset => Sys2Proof.Machine.execLinkReset s
  | .malformedMessage bytes => Sys2Proof.Machine.execMalformedMessage bytes s
  | .sendMessage => Sys2Proof.Machine.execSendMessage s
  | .translatePiece => Sys2Proof.Machine.execTranslatePiece s
  | .translationResume => Sys2Proof.Machine.execTranslationResume s
  | .fillSector lane => Sys2Proof.Machine.execFillSector lane s
  | .unlock id slot secret args => Sys2Proof.Machine.execUnlock id slot secret args s
  | .tokenUnlock id secret args => Sys2Proof.Machine.execTokenUnlock id secret args s
  | .lock id bands => Sys2Proof.Machine.execLock id bands s
  | .own id new => Sys2Proof.Machine.execOwn id new s
  | .setCred id secret args new => Sys2Proof.Machine.execSetCred id secret args new s
  | .grant id secret args target => Sys2Proof.Machine.execGrant id secret args target s
  | .revoke id secret args => Sys2Proof.Machine.execRevoke id secret args s
  | .bandSet id secret args => Sys2Proof.Machine.execBandSet id secret args s
  | .bandErase id secret band => Sys2Proof.Machine.execBandErase id secret band s
  | .driveSet id secret lane cover tether => Sys2Proof.Machine.execDriveSet id secret lane cover tether s
  | .coverOpen id secret => Sys2Proof.Machine.execCoverOpen id secret s
  | .coverClose id => Sys2Proof.Machine.execCoverClose id s
  | .watchArm id secret args => Sys2Proof.Machine.execWatchArm id secret args s
  | .watchDisarm id secret => Sys2Proof.Machine.execWatchDisarm id secret s
  | .watchRecover id secret => Sys2Proof.Machine.execWatchRecover id secret s
  | .remoteWipe id secret => Sys2Proof.Machine.execRemoteWipe id secret s
  | .wipeNow id secret passes => Sys2Proof.Machine.execWipeNow id secret passes s
  | .scrubStop id secret => Sys2Proof.Machine.execScrubStop id secret s
  | .revert id code => Sys2Proof.Machine.execRevert id code s
  | .statusQuery port id => Sys2Proof.Machine.execStatusQuery port id s
  | .requestBadKind port id kind => Sys2Proof.Machine.execRequestBadKind port id kind s
  | .verifyJobComplete => Sys2Proof.Machine.execVerifyJobComplete s
  | .unlockJobComplete => Sys2Proof.Machine.execUnlockJobComplete s
  | .ownJobComplete salt => Sys2Proof.Machine.execOwnJobComplete salt s
  | .setCredJobComplete salt => Sys2Proof.Machine.execSetCredJobComplete salt s
  | .setCredAdminJobComplete salt => Sys2Proof.Machine.execSetCredAdminJobComplete salt s
  | .grantJobComplete => Sys2Proof.Machine.execGrantJobComplete s
  | .bandSetJobComplete => Sys2Proof.Machine.execBandSetJobComplete s
  | .bandSetRangeJobComplete secret => Sys2Proof.Machine.execBandSetRangeJobComplete secret s
  | .bandEraseJobComplete secret => Sys2Proof.Machine.execBandEraseJobComplete secret s
  | .watchRecoverJobComplete => Sys2Proof.Machine.execWatchRecoverJobComplete s
  | .checkinCompareComplete => Sys2Proof.Machine.execCheckinCompareComplete s
  | .rootJobComplete root => Sys2Proof.Machine.execRootJobComplete root s
  | .coverZeroJobComplete => Sys2Proof.Machine.execCoverZeroJobComplete s
  | .rebuildRootJobComplete root => Sys2Proof.Machine.execRebuildRootJobComplete root s
  | .rebuildAdminJobComplete salt => Sys2Proof.Machine.execRebuildAdminJobComplete salt s
  | .rebuildBandJobComplete secret key => Sys2Proof.Machine.execRebuildBandJobComplete secret key s
  | .fillKeyJobComplete key => Sys2Proof.Machine.execFillKeyJobComplete key s
  | .openLoadJobComplete => Sys2Proof.Machine.execOpenLoadJobComplete s
  | .pageWriteComplete => Sys2Proof.Machine.execPageWriteComplete s
  | .suspend => Sys2Proof.Machine.execSuspend s
  | .lidClosed => Sys2Proof.Machine.execLidClosed s
  | .lockAll => Sys2Proof.Machine.execLockAll s
  | .checkinStrobe => Sys2Proof.Machine.execCheckinStrobe s
  | .pointerSet value => Sys2Proof.Machine.execPointerSet value s
  | .registerWrite value => Sys2Proof.Machine.execRegisterWrite value s
  | .reportPageSelect value => Sys2Proof.Machine.execReportPageSelect value s
  | .noticeByteRead => Sys2Proof.Machine.execNoticeByteRead s
  | .latchedRead => Sys2Proof.Machine.execLatchedRead s
  | .resultRecordRead record => Sys2Proof.Machine.execResultRecordRead record s

end Sys2Proof.Machine
end

