-- ==== Sys2Proof/Machine/Step.lean ====
section
/-! DEFINITION. One step: the command at the front of the queue is taken; and the host's placing of a command. -/

namespace Sys2Proof.Machine

/-- The state with the queue's rest. -/
def withQueue (q : List Instr) (s : State) : State := { s with pending := q }

/-- The command at the front is taken and run on the state with the queue's rest; on an empty queue the part idles
(entry 8). -/
def step (s : State) : Host.Outcome State Fault Refusal :=
  match s.pending with
  | [] => .next s
  | c :: rest => exec c (withQueue rest s)

/-- The state with the command that a word spells at the front of its queue, unchanged where it spells none. -/
def State.withFetchWord (s : State) (nbits w : Nat) : State :=
  match decodeTableWord nbits w with
  | some c => withQueue (c :: s.pending) s
  | none => s

end Sys2Proof.Machine
end

