-- ==== Sys2Proof/Safety.lean ====
section
/-! DEFINITION. The conditions that statements about the DB-640 use: what is at rest, what a command asks, and the laws of the
device. -/

namespace Sys2Proof.Machine

/-! ## At rest: nothing follows at once (entry 20) -/

/-- The store: no room that a listed page could take, and no entry that the writer could take (R158, R159). -/
def storeQuiet (s : State) : Bool :=
  decide (s.ks.queue.length ≤ Config.storeRoom) && (s.ks.room.isEmpty || s.ks.queue.length = Config.storeRoom) &&
    (s.ks.writer.isSome || !s.supplyOk || s.ks.queue.isEmpty)

/-- A mailbox: its request has what it waits for not yet (R99, R158, R160). -/
def boxQuiet (p : Port) (s : State) : Bool :=
  match box p s with
  | none => true
  | some h =>
    (h.room.all fun q => onList s.ks.room q) &&
    match h.stage with
    | .charged => waits (.request p) s || !roomClear h.room s
    | .secretWrite _ _ => waits (.request p) s
    | .handing _ | .answering _ _ => !roomClear h.room s
    | .verifying | .working => true

/-- The Wipe Engine: what it waits for has not come (R137 to R142, R148). -/
def wipeQuiet (s : State) : Bool :=
  match s.wipe.activity with
  | .rootWait | .rootWrite _ | .rebuildRootWrite _ | .rebuildEnd | .passWait => waits .wipe s
  | .doneWait => waitsFor .wipe watchPage s
  | .rebuildWait => !rebuildMayBegin s
  | .coverZeroWait | .rebuildNext _ | .rebuildConfigWait => listsWaiter s.ks.room .wipe
  | _ => true

/-- The Derivation Engine: it runs a job or none waits, and no job of the Wipe Engine is kept back that could be handed (R88,
R89). -/
def engineQuiet (s : State) : Bool :=
  (s.engine.running.isSome ||
    (s.engine.startup.isNone && s.engine.wipe.isNone && s.engine.compare.isNone && s.engine.link.isNone &&
      s.engine.side.isNone)) &&
    (s.wipe.toHand.all fun j => heldBack j s)

/-- Nothing that follows at once from an act is left to do. -/
def Quiet (s : State) : Bool := storeQuiet s && boxQuiet .link s && boxQuiet .side s && wipeQuiet s && engineQuiet s

/-- The link port takes a message as it arrives: the link is UP, the hold is FLOWING, and none waits before it (R64, R66). -/
def LinkTakes (s : State) : Prop := linkUp s = true ∧ s.link.inbound = [] ∧ s.link.outbound.length < Config.holdLimit

/-- Neither lane has work. -/
def lanesAtRest (s : State) : Bool :=
  s.laneA.inFlight.isNone && s.laneA.queue.isEmpty && s.laneB.inFlight.isNone && s.laneB.queue.isEmpty

/-- An act of the Wipe Engine is what follows: the store and the mailboxes are at rest. -/
def WipeMoves (s : State) : Prop := storeQuiet s = true ∧ boxQuiet .link s = true ∧ boxQuiet .side s = true

/-- The Wipe Engine's next act makes the state `x`; what else follows is the writer's and the arbiter's (entry 20). -/
def Follows (s x : State) : Prop := settle s = grant (handHeldWipe (serviceStore x))

/-! ## What a command asks -/

/-- The port and the envelope of a command that brings a request (R80). -/
def requestOf : Instr → Option (Port × Envelope)
  | .unlock id slot secret args => some (.link, { id := id, body := .unlock slot secret args })
  | .tokenUnlock id secret args => some (.side, { id := id, body := .tokenUnlock secret args })
  | .lock id bands => some (.link, { id := id, body := .lock bands })
  | .own id new => some (.link, { id := id, body := .own new })
  | .setCred id secret args new => some (.link, { id := id, body := .setCred secret args new })
  | .grant id secret args target => some (.link, { id := id, body := .grant secret args target })
  | .revoke id secret args => some (.link, { id := id, body := .revoke secret args })
  | .bandSet id secret args => some (.link, { id := id, body := .bandSet secret args })
  | .bandErase id secret band => some (.link, { id := id, body := .bandErase secret band })
  | .driveSet id secret lane cover tether => some (.link, { id := id, body := .driveSet secret lane cover tether })
  | .coverOpen id secret => some (.link, { id := id, body := .coverOpen secret })
  | .coverClose id => some (.link, { id := id, body := .coverClose })
  | .watchArm id secret args => some (.link, { id := id, body := .watchArm secret args })
  | .watchDisarm id secret => some (.link, { id := id, body := .watchDisarm secret })
  | .watchRecover id secret => some (.link, { id := id, body := .watchRecover secret })
  | .remoteWipe id secret => some (.side, { id := id, body := .remoteWipe secret })
  | .wipeNow id secret passes => some (.link, { id := id, body := .wipeNow secret passes })
  | .scrubStop id secret => some (.link, { id := id, body := .scrubStop secret })
  | .revert id code => some (.link, { id := id, body := .revert code })
  | .statusQuery p id => some (p, { id := id, body := .statusQuery })
  | .requestBadKind p id kind => some (p, { id := id, body := .undefined kind })
  | _ => none

/-- The message that a command brings over the link (R64). -/
def messageOf : Instr → Option InMsg
  | .descriptor kind tag stream first n order => some (.descriptor kind tag stream first.toNat n.toNat order)
  | .plainSector tag address data => some (.plainSector tag address.toNat data)
  | .cipherSector tag address data => some (.cipherSector tag address.toNat data)
  | .scrubRefuse order => some (.scrubRefuse order)
  | c =>
    match requestOf c with
    | some (.link, e) => some (.request e)
    | _ => none

/-- The port takes a request as it arrives: for the link as `LinkTakes`, for the sideband once start-up has completed. -/
def PortTakes (p : Port) (s : State) : Prop :=
  match p with
  | .link => LinkTakes s
  | .side => linkUp s = true

/-- The state with an envelope's bytes off the sideband window: the buffer is zero and the pointer stands after the submit
byte (R170, R176; entry 10). A link request leaves the window as it is. -/
def submitted (p : Port) (s : State) : State :=
  match p with
  | .link => s
  | .side => zeroBuffer (pointAfter 0x70 s)

/-! ## What a statement says of a state -/

/-- A mailbox's request has its job running (R88). -/
def Running (p : Port) (j : Job) (h : Held) (s : State) : Prop := s.engine.running = some (.mailbox p, j) ∧ box p s = some h

/-- A mailbox's request is to be answered, once its pages have room (R83, R158). -/
def Answers (p : Port) (h : Held) (x : RStatus) (granted : BandSet) (s : State) : Prop :=
  ∃ room, box p s = some { h with stage := .answering x granted, room := room }

/-- A mailbox's request is to be answered at once, whatever pages wait for room (R135). -/
def AnswersAtOnce (p : Port) (h : Held) (x : RStatus) (s : State) : Prop :=
  box p s = some { h with stage := .answering x 0, room := [] }

/-- The present content of a page stands in the store write queue or on the room wait list, or is what the store holds or the
writer is writing (R157). -/
def Carried (p : PageId) (s : State) : Prop := onList (s.ks.queue ++ s.ks.room) p = true ∨ pageOf s p = reference s p

/-- Two states agree on a band's flags and live key. -/
def SameBand (b : BandId) (s t : State) : Prop := flags t b = flags s b ∧ entry t (.band b) = entry s (.band b)

/-- A lock of the selected bands has taken a state to another (R3): the flags per the enables, and the entry of a band that the
lock closes removed, its epoch rising if it was present (R12); every other band, the store and its working copy as they were. -/
def LockedBands (sel : BandId → Bool) (s t : State) : Prop :=
  t.w = s.w ∧ t.ks = s.ks ∧
  ∀ b : BandId,
    if sel b && lockActs s b then
      flags t b = { flags s b with readLocked := (record s b).rle, writeLocked := (record s b).wle || (record s b).rle } ∧
      ((record s b).rle = false → entry t (.band b) = entry s (.band b)) ∧
      ((record s b).rle = true → closed (flags s b) = true → entry t (.band b) = entry s (.band b)) ∧
      ((record s b).rle = true → closed (flags s b) = false → entry t (.band b) =
        { key := none,
          epoch := if present s (.band b) then (entry s (.band b)).epoch + 1 else (entry s (.band b)).epoch })
    else SameBand b s t

/-- A byte of the sideband window is begun that has no read effect: it is served, the pointer advances (R170), and nothing else
changes; `served` is the model's own record of it (entry 21). -/
def Serves (v : Byte) (s : State) : Prop :=
  exec .latchedRead s = .next { s with psp := { s.psp with pointer := s.psp.pointer + 1, served := v } }

/-- A result has been stored (R149): in the record at the next index, unread, with the overrun flag where the record it replaced
was unread; the index rises, and SCRUB_RESULT is set while the link is UP (entry 36). -/
def StoresResult (ended : Ended) (pass written refused : Nat) (s t : State) : Prop :=
  t.wipe.ringNext = s.wipe.ringNext + 1 ∧ (linkUp s = true → t.psp.notice.getLsbD 1 = true) ∧
  ∀ i : OrderSlot, t.wipe.ring.get i =
    if i = s.wipe.ringNext then
      some { cause := s.w.plan.cause, pass := pass, written := written, refused := refused, ended := ended, unread := true,
             overrun := (s.wipe.ring.get i).any fun r => r.unread }
    else s.wipe.ring.get i

/-- A theft change is announced over both ports, while the link is UP (R116, R69). -/
def Announced (x : OutMsg) (s t : State) : Prop := linkUp s = true → t.psp.notice.getLsbD 0 = true ∧ x ∈ t.link.outbound

/-- A transition into ALARM under a policy, which with the action WIPE is one into WIPING with cause THEFT (R132, R116, R14,
R135): no cause and no grace are left, every band is closed without a key, the other live keys stay. -/
def EntersAlarm (p : Policy) (s t : State) : Prop :=
  t.w.watch.policy = some p ∧ t.w.watch.cause = none ∧ t.w.watch.graceSeconds = 0 ∧ t.twu.grace = 0 ∧
  Carried watchPage t ∧ t.keys.cover = s.keys.cover ∧ t.keys.fill = s.keys.fill ∧
  (∀ b : BandId, closed (flags t b) = true ∧ (flags t b).pendingLoad = false ∧ present t (.band b) = false) ∧
  match p.action with
  | .lockdown => theft t = .alarm ∧ t.w.plan = s.w.plan ∧ t.wipe = s.wipe ∧ Announced (.state .alarm none) s t
  | .wipe =>
    theft t = .wiping ∧ t.twu.counter = 0 ∧ t.wipe.activity = .rootWait ∧ Carried journalPage t ∧
    Announced (.state .wiping (some .theft)) s t ∧
    t.w.plan = { cause := some .theft, phase := .root, passes := .times p.passes, pass := 0, watermark := 0, stop := false,
                 written := 0, refused := 0 }

/-- ARMED has become SUSPECT by an indicator under a policy whose grace period is not 0 (R130, R116): the watch page with that
cause and the policy's grace is to be written, the grace runs, no band closes, and the change is announced. -/
def EntersSuspect (i : Indicator) (p : Policy) (s t : State) : Prop :=
  t.w.watch = { s.w.watch with theft := .suspect, cause := some i, graceSeconds := p.graceSeconds } ∧
  t.twu.grace = p.graceSeconds * 1024 ∧ t.twu.counter = s.twu.counter ∧ Carried watchPage t ∧ t.keys = s.keys ∧
  t.bands = s.bands ∧ t.w.plan = s.w.plan ∧ t.wipe = s.wipe ∧ Announced (.state .suspect none) s t

/-- The theft watch has moved nothing: the watch page, the grace, the check-in counter, the wipe, the bands and the live keys are
as they were. -/
def WatchStays (s t : State) : Prop :=
  t.w.watch = s.w.watch ∧ t.twu.grace = s.twu.grace ∧ t.twu.counter = s.twu.counter ∧ t.w.plan = s.w.plan ∧
  t.wipe = s.wipe ∧ t.keys = s.keys ∧ t.bands = s.bands

/-- SUSPECT has become ARMED (R131, R116): the watch page without a cause and a grace is to be written, and the change is
announced. -/
def ReturnsToArmed (s t : State) : Prop :=
  t.w.watch = { s.w.watch with theft := .armed, cause := none, graceSeconds := 0 } ∧ Carried watchPage t ∧
  Announced (.state .armed none) s t

/-- What keeps SUSPECT once a good check-in has deasserted CHECKIN: TETHER or TAMPER still asserted, or BUDGET by the given
failure sum (R129, R131). -/
def StaysSuspect (s : State) (failures : Nat) : Prop :=
  ∃ p : Policy, s.w.watch.policy = some p ∧
    ((inSet p.enabled .tether = true ∧ s.twu.tetherLost = true) ∨ (inSet p.enabled .tamper = true ∧ s.w.watch.latch = true) ∨
      (inSet p.enabled .budget = true ∧ p.budget ≤ failures))

/-- The check-in counter moves nothing at a tick (R123, R130, R132): it stands below the watch period, CHECKIN is not enabled, the
theft state takes no indicator, or CHECKIN is its cause already. -/
def CheckinIdle (s : State) : Prop :=
  checkinAsserted s = false ∨ enabled s .checkin = false ∨ (theft s ≠ .armed ∧ theft s ≠ .suspect) ∨
    (theft s = .suspect ∧ s.w.watch.cause = some .checkin)

/-- A tick's counts on the watch, from what its meter left of it (R123, R133): the check-in counter rises in ARMED and SUSPECT,
and in SUSPECT the grace falls, with its checkpoint at a non-zero multiple of 65,536 ticks; TAMPER reads as the filter does. -/
def TickCounted (s x : State) (u : WatchUnit) : Prop :=
  x.twu = { u with
    counter := if theft s = .armed ∨ theft s = .suspect then min (u.counter + 1) Config.counterTop else u.counter,
    grace := if theft s = .suspect then u.grace - 1 else u.grace, tamperOpposite := false } ∧
  if theft s = .suspect ∧ u.grace - 1 ≠ 0 ∧ (u.grace - 1) % 65536 = 0 then
    x.w = { s.w with watch := { s.w.watch with graceSeconds := 64 * ((u.grace - 1) / 65536) } } ∧ Carried watchPage x
  else x.w = s.w ∧ x.ks = s.ks

/-- Both lanes stand as the last change of live keys left them (R49): the key check of a segment in flight passes, and no segment
waits for an idle lane. -/
def LanesSettled (s : State) : Prop :=
  ∀ l : LaneId,
    match (lane l s).inFlight with
    | some g => keyCheck s g.key g.epoch = none
    | none => (lane l s).queue = []

/-- Every band after the TETHER_LOST relock (R6). -/
def TetherRelocked (s x : State) : Prop :=
  ∀ b : BandId, (flags x b, entry x (.band b)) =
    if (record s b).relock.getLsbD 3 then lockPair s b else (flags s b, entry s (.band b))

/-- What BUDGET does in the act of a charge (R99, R114, R124, R130 to R132), by the failure sums before and after it: in ARMED a
sum that reaches the limit enters SUSPECT, or ALARM where the grace period is 0; in SUSPECT it enters ALARM, or changes nothing
where BUDGET is the cause; in SUSPECT a charge that disables a slot, so that the sum falls below the limit, returns to ARMED
where no other enabled indicator is asserted; in every other case the watch stays. With the action WIPE, ALARM is WIPING. -/
def BudgetFollows (s t : State) : Prop :=
  ((∀ p, s.w.watch.policy = some p → inSet p.enabled .budget = false) → WatchStays s t) ∧
  (theft s ≠ .armed → theft s ≠ .suspect → WatchStays s t) ∧
  ∀ p : Policy, s.w.watch.policy = some p → inSet p.enabled .budget = true →
    (failureSum s < p.budget → p.budget ≤ failureSum t →
      (theft s = .armed → p.graceSeconds ≠ 0 → EntersSuspect .budget p s t) ∧
      (theft s = .armed → p.graceSeconds = 0 → EntersAlarm p s t) ∧
      (theft s = .suspect → s.w.watch.cause ≠ some .budget → EntersAlarm p s t) ∧
      (theft s = .suspect → s.w.watch.cause = some .budget → WatchStays s t)) ∧
    (theft s = .suspect → p.budget ≤ failureSum s → failureSum t < p.budget →
      if (inSet p.enabled .checkin = true ∧ watchPeriod p.periodIndex ≤ s.twu.counter) ∨
          (inSet p.enabled .tether = true ∧ s.twu.tetherLost = true) ∨ (inSet p.enabled .tamper = true ∧ s.w.watch.latch = true)
      then WatchStays s t
      else ReturnsToArmed s t ∧ t.keys = s.keys ∧ t.bands = s.bands) ∧
    (theft s = .armed → failureSum t < p.budget → WatchStays s t) ∧
    ((p.budget ≤ failureSum s ↔ p.budget ≤ failureSum t) → WatchStays s t)

/-- What keeps SUSPECT once an admin match has cleared the tamper latch: CHECKIN or TETHER still asserted, or BUDGET by the given
failure sum (R131). -/
def MatchKeepsSuspect (s : State) (failures : Nat) : Prop :=
  ∃ p : Policy, s.w.watch.policy = some p ∧
    ((inSet p.enabled .checkin = true ∧ watchPeriod p.periodIndex ≤ s.twu.counter) ∨
      (inSet p.enabled .tether = true ∧ s.twu.tetherLost = true) ∨ (inSet p.enabled .budget = true ∧ p.budget ≤ failures))

/-- A first start without entropy (R91, R165): a wipe with cause STORE_LOSS whose REBUILD waits, the root secret needing a value,
with WIPING and the journal to be written and every band closed without a key. -/
def StartsWithoutEntropy (t : State) : Prop :=
  t.entropyFailed = true ∧ theft t = .wiping ∧ t.wipe.activity = .rebuildWait ∧ t.wipe.rootNeeds = true ∧
  t.w.plan = { cause := some .storeLoss, phase := .rebuild, passes := .times 0, pass := 0, watermark := 0, stop := false,
               written := 0, refused := 0 } ∧
  Carried watchPage t ∧ Carried journalPage t ∧ ∀ b : BandId, closed (flags t b) = true ∧ present t (.band b) = false

/-- A wipe has reached DONE (R148, R116, R5): WIPED, with the watch page awaited; each band that its enables leave open is held
closed for its open load, whose job is handed, or kept back while a page of the wipe waits for room (R158; entry 45);
the change is announced while the link is UP. -/
def ReachesDone (s t : State) : Prop :=
  theft t = .wiped ∧ t.wipe.activity = .doneWait ∧ Carried watchPage t ∧
  (∀ b : BandId, (flags s b).held = false → hasSecret s b = true →
    closed (flags t b) = true ∧ (flags t b).pendingLoad = !(record s b).rle ∧ present t (.band b) = false) ∧
  (anyPending t = true → wipeWantsRoom t = false → wipeBusy s = false → t.engine.wipe = some .openLoad) ∧
  (anyPending t = true → wipeWantsRoom t = true → t.wipe.toHand = some .openLoad) ∧
  (linkUp s = true → t.psp.notice.getLsbD 0 = true ∧ OutMsg.state .wiped none ∈ t.link.outbound)

/-! ## The laws of the device -/

/-- R2: the ranges of the used bands 1 to 15 hold no address in common, and each lies within the capacity on granule
boundaries. -/
def RangesApart (s : State) : Prop :=
  (∀ b c : BandId, b ≠ 0 → c ≠ 0 → b ≠ c → (record s b).length ≠ 0 → (record s c).length ≠ 0 →
    overlap (record s b).start (record s b).length (record s c).start (record s c).length = false) ∧
  ∀ b : BandId, b ≠ 0 → (record s b).length ≠ 0 →
    (record s b).start + (record s b).length ≤ capacity s ∧ (record s b).start % granule s = 0 ∧
    (record s b).length % granule s = 0

/-- R14: a band entry that is present is that of a band not closed, outside ALARM and WIPING. -/
def LiveKeysGuarded (s : State) : Prop :=
  ∀ b : BandId, present s (.band b) = true → closed (flags s b) = false ∧ barred s = false

/-- R99 and R106: no failure count exceeds its hard limit, a user or platform slot whose count stands there is DISABLED, and a
backoff runs only while the count exceeds the free attempts. -/
def SlotsLimited (s : State) : Prop :=
  ∀ i : SlotId,
    count s i ≤ (cred s i).hard ∧
    (i ≠ 0 → 0 < (cred s i).hard → count s i = (cred s i).hard → (cred s i).state = .disabled) ∧
    (0 < backoffOf s i → (cred s i).free < count s i)

/-- R157 and R158: at most 16 entries, one entry for a page, and a room wait list only behind a full queue. -/
def StoreOrdered (s : State) : Prop :=
  s.ks.queue.length ≤ Config.storeRoom ∧ ((s.ks.queue ++ s.ks.room).map QEntry.page).Nodup ∧
    (s.ks.room ≠ [] → s.ks.queue.length = Config.storeRoom)

/-- R45, R70 and R71: at most 32 transfers, no two with one tag, and at most 16 segments waiting on each lane. -/
def TrafficBounded (s : State) : Prop :=
  s.dq.length ≤ Config.dqRoom ∧ (s.dq.map Transfer.tag).Nodup ∧
    s.laneA.queue.length ≤ Config.laneRoom ∧ s.laneB.queue.length ≤ Config.laneRoom

/-- R142, R143 and R147: scrub orders are open only while a pass is running, a pass runs only in WIPING, where the Wipe Engine is
at work, and before start-up has loaded the pages (R179, R182) the working copy, the Wipe Engine, the Derivation Engine, the
mailboxes and the tether meter stand as at power-on. -/
def ScrubInWiping (s : State) : Prop :=
  (noOrders s = false → s.wipe.running = true) ∧
  (s.wipe.running = true → s.wipe.activity = .scanning) ∧
  (s.wipe.activity ≠ .idle → s.wipe.activity ≠ .doneWait → theft s = .wiping) ∧
  (counting s = false → s.wipe = WipeEngine.powerOn ∧ s.w = Working.unloaded ∧ s.engine = Engine.idle ∧ s.linkBox = none ∧
    s.sideBox = none ∧ s.twu.meterOn = false)

end Sys2Proof.Machine
end

