-- ==== Sys2Proof/Certificates/Slice0/Obligations.lean ====
section
/-! DEFINITION. The statements about the DB-640 that are to be proved. A statement of a command's result gives the state `x` that
its act makes, and says that the command answers `settle x`: what follows at once from every act (entry 20), which is nothing at
rest (QuietSettles). -/

open Sys2Proof Sys2Proof.Machine

/-! ## The step -/

/-- The command at the front of the queue is run on the state with the queue's rest; with none waiting the part idles (entry 8).
-/
def Obligations.StepRunsFrontCommand : Prop :=
  (∀ (c : Instr) (q : List Instr) (s : State), s.pending = c :: q →
    Machine.step s = exec c { s with pending := q }) ∧
  ∀ s : State, s.pending = [] → Machine.step s = .next s

/-- Every command answers a next state, one whose event does not arise too (the model's choice, entry 3), and leaves the queue
of waiting commands as it is (the model's choice, entry 8). -/
def Obligations.EveryCommandCompletes : Prop :=
  ∀ (c : Instr) (s : State), ∃ t, exec c s = .next t ∧ t.pending = s.pending

/-- What follows at once from an act (entry 20). At rest nothing does. A charged request whose attempt page is written and whose
charge has room for its other pages hands its verify job (R99, R100, R158; entry 48). A request whose band secret page is
written takes its effect, which ReplacedSecretHoldsTheBand states (R17, R19), and is answered OK, once the pages that it queued
have room (R158). A request whose pages have room hands its effect job, or is answered (R83, R158): over the link with its
RESPONSE, or with none where the drop mark is set, which is then cleared (R78); over the sideband in the response record, its
sequence going from 255 to 1, with RESPONSE_READY (R84, R177). A job that the Wipe Engine kept back is handed when its previous
job has completed and, for the open load of DONE, its pages have room (R88, R158). While no job runs the arbiter grants
start-up's job, else the Wipe Engine's, else the compare, else a mailbox's, of two the one not served last, whose request is
then started (R89, R81). -/
def Obligations.QuietSettles : Prop :=
  (∀ s : State, Quiet s = true → settle s = s) ∧
  (∀ (s : State) (p : Port) (h : Held), storeQuiet s = true → boxQuiet (otherPort p) s = true → s.wipe.activity = .idle →
    s.wipe.toHand = none → s.engine.running ≠ none → box p s = some h →
    (h.stage = .charged → waits (.request p) s = false → roomClear h.room s = true →
      settle s = setBox p (some { h with stage := .verifying, room := [] }) (handMailbox p .verify s)) ∧
    (∀ j : Job, h.stage = .handing j → roomClear h.room s = true →
      settle s = setBox p (some { h with stage := .working, room := [] }) (handMailbox p j s)) ∧
    (∀ (key : MediaKey) (wrap : Option Wrap) (x : State), h.stage = .secretWrite key wrap → waits (.request p) s = false →
      noOrders s = true → x = secretWritten h.env.body key wrap s →
      (roomClear (roomTouched s x) x = true →
        settle s = serviceStore (deliver p { id := h.env.id, status := .ok, wait := 0, granted := 0, report := [] } x)) ∧
      (roomClear (roomTouched s x) x = false →
        settle s = serviceStore (setBox p (some { h with stage := .answering .ok 0, room := roomTouched s x }) x))) ∧
    ∀ (x : RStatus) (g : BandSet), h.stage = .answering x g → roomClear h.room s = true →
      (p = .link → s.link.dropMark = none → settle s = { s with
        linkBox := none,
        link := { s.link with outbound := s.link.outbound ++
          [.response { id := h.env.id, status := x, wait := 0, granted := g, report := [] }] } }) ∧
      (p = .link → s.link.dropMark ≠ none →
        settle s = { s with linkBox := none, link := { s.link with dropMark := none } }) ∧
      (p = .side → settle s = { s with
        sideBox := none,
        psp := { s.psp with
          notice := s.psp.notice ||| 4,
          response := { sequence := if s.psp.response.sequence = 255 then 1 else s.psp.response.sequence + 1,
                        id := h.env.id, status := rstatusCode x, wait := 0, granted := g, report := [] } } })) ∧
  (∀ (s : State) (j : Job), WipeMoves s → wipeQuiet s = true → s.engine.running ≠ none → s.wipe.toHand = some j →
    (wipeBusy s = false → (j = .openLoad → wipeWantsRoom s = false) →
      settle s = { s with engine := { s.engine with wipe := some j }, wipe := { s.wipe with toHand := none } }) ∧
    (wipeBusy s = true ∨ (j = .openLoad ∧ wipeWantsRoom s = true) → settle s = s)) ∧
  ∀ s : State, storeQuiet s = true → boxQuiet .link s = true → boxQuiet .side s = true → s.wipe.activity = .idle →
    s.wipe.toHand = none → s.engine.running = none →
    (∀ j : Job, s.engine.startup = some j →
      settle s = { s with engine := { s.engine with running := some (.startup, j), startup := none } }) ∧
    (s.engine.startup = none →
      (∀ j : Job, s.engine.wipe = some j →
        settle s = { s with engine := { s.engine with running := some (.wipe, j), wipe := none } }) ∧
      (s.engine.wipe = none →
        (∀ j : Job, s.engine.compare = some j →
          settle s = { s with engine := { s.engine with running := some (.compare, j), compare := none } }) ∧
        ∀ (p : Port) (j : Job) (h : Held), s.engine.compare = none → mailboxJob p s = some j → box p s = some h →
          p ≠ s.engine.lastServed ∨ mailboxJob (otherPort p) s = none →
          settle s = setBox p (some { h with started := true })
            { s with engine := { (withdraw p s).engine with running := some (.mailbox p, j), lastServed := p } }))

/-! ## The laws of the device -/

/-- R3, R14: no step leaves a closed band with a live key, nor any band with one in ALARM or WIPING. -/
def Obligations.StepKeepsLiveKeysGuarded : Prop :=
  ∀ s t : State, LiveKeysGuarded s → Machine.step s = .next t → LiveKeysGuarded t

/-- R99, R106: every step keeps each count within its hard limit, a user or platform slot at its limit DISABLED, and a backoff
only above the free attempts. -/
def Obligations.StepKeepsSlotsLimited : Prop :=
  ∀ s t : State, SlotsLimited s → Machine.step s = .next t → SlotsLimited t

/-- R157, R158: every step keeps the store write queue within 16 entries, one for a page, and the room wait list behind it. -/
def Obligations.StepKeepsStoreOrdered : Prop :=
  ∀ s t : State, StoreOrdered s → Machine.step s = .next t → StoreOrdered t

/-- R40, R70, R71: every step keeps at most 32 transfers with distinct tags, and at most 16 waiting segments a lane. -/
def Obligations.StepKeepsTrafficBounded : Prop :=
  ∀ s t : State, TrafficBounded s → Machine.step s = .next t → TrafficBounded t

/-- R142, R143, R147: every step keeps scrub orders within a running pass, and a running pass within WIPING. Its last clause,
that what start-up sets stands as at power-on until start-up has loaded the pages, is the model's choice (entry 9). -/
def Obligations.StepKeepsScrubInWiping : Prop :=
  ∀ s t : State, ScrubInWiping s → Machine.step s = .next t → ScrubInWiping t

/-- The five laws hold of the state right after reset, whose store is that of a part as manufactured (entry 1). -/
def Obligations.LawsHoldAtReset : Prop :=
  LiveKeysGuarded State.reset ∧ SlotsLimited State.reset ∧ StoreOrdered State.reset ∧ TrafficBounded State.reset ∧
  ScrubInWiping State.reset

/-! ## Power, line reset, start-up -/

/-- POWER_ON and POWER_LOSS (R179, R11, R178, R184, R161). At power-on volatile state takes its power-on values, whatever the
store holds: the store's queue and writer, the link, the DQ and the lanes (R62, R70, R45), the mailboxes and the engine (R81,
R88), the permit, the live keys (R22, R11) and the check-in status and counter (R115, R125). That every backoff is 0 then,
before start-up sets it (R96), is the model's choice (entry 9). At a power loss a page whose write was in progress is left TORN,
or BLANK where the cut fell within the erase; every other page is as the store held it; what waited to be written is lost. Which
of the two it is, and ADDR_SEL, come with the commands (entry 22). -/
def Obligations.PowerOnAndLoss : Prop :=
  (∀ (a : Bool) (s : State), s.mode = .off → ∃ t, exec (.powerOn a) s = .next t ∧
    t.ks = { pages := s.ks.pages, queue := [], room := [], writer := none } ∧
    t.supplyOk = false ∧ t.supplyPrev = none ∧ linkReady t = false ∧ alert t = false ∧ t.psp.pointer = 0 ∧
    targetAddress t = some (if a then 0x3D else 0x3C) ∧ t.link.outbound = [] ∧ t.dq = [] ∧
    t.laneA = Lane.idle ∧ t.laneB = Lane.idle ∧ t.linkBox = none ∧ t.sideBox = none ∧ t.engine = Engine.idle ∧
    t.coverPermit = false ∧ (∀ k : KeyName, entry t k = { key := none, epoch := 0 }) ∧
    (∀ i : SlotId, backoffOf t i = 0) ∧ t.twu.status = .none ∧ t.twu.counter = 0) ∧
  ∀ (inErase a : Bool) (s : State), s.mode ≠ .off → ∃ t u,
    exec (.powerLoss inErase) s = .next t ∧ t.mode = .off ∧ targetAddress t = none ∧ linkReady t = false ∧
    exec (.powerOn a) t = .next u ∧ u.ks.queue = [] ∧ u.ks.room = [] ∧ u.ks.writer = none ∧
    ∀ p : PageId, u.ks.pages.get p =
      if (s.ks.writer.any fun x => x.page = p) then (if inErase then .blank else .torn) else s.ks.pages.get p

/-- RESETN_ASSERT (R182, R161): both ports stop, jobs and requests end, and the part holds the backoffs, the check-in counter,
the grace, the tether filter and the tamper latch; a page write in progress goes on, and the supply monitor and the divider are
not touched. -/
def Obligations.LineResetHolds : Prop :=
  ∀ s : State, counting s = true → ∃ t, exec .resetnAssert s = .next t ∧ t.mode = .resetHeld ∧
    t.held = some { backoff := s.backoff, counter := s.twu.counter, grace := s.twu.grace,
                    inSuspect := decide (theft s = .suspect), tetherLost := s.twu.tetherLost,
                    latch := s.w.watch.latch } ∧
    linkReady t = false ∧ targetAddress t = none ∧ t.engine = Engine.idle ∧ t.linkBox = none ∧ t.sideBox = none ∧
    t.dq = [] ∧ t.laneA = Lane.idle ∧ t.laneB = Lane.idle ∧ t.link.outbound = [] ∧ alert t = false ∧
    (∀ k : KeyName, entry t k = { key := none, epoch := 0 }) ∧
    t.ks.pages = s.ks.pages ∧ t.ks.queue = [] ∧ t.ks.room = [] ∧
    t.ks.writer.map (fun x => (x.page, x.content)) = s.ks.writer.map (fun x => (x.page, x.content)) ∧
    t.supplyOk = s.supplyOk ∧ t.supplyPrev = s.supplyPrev ∧ t.divider = s.divider

/-- RESETN_RELEASE: start-up runs to the handing of its key job. Every slot goes on with the backoff that was held, but for a
slot whose count does not exceed its free attempts and a user or platform slot that is DISABLED (R96, R106, R182). Outside a
first start: each page is loaded or has its loss result, and a lost page is queued (R23, R96, R166, R167); every live key is
absent, and each band is locked per its enables, or closed in ALARM, in WIPING and without a band secret (R11, R14, R23, R179);
where WIPING is restored every band is closed, in an abandoned scrub's WIPED to await its open load (R5, R148); the theft state,
policy, latch, tether filter, grace and check-in counter are restored (R117, R128, R182; the filter: entry 28), the theft state
with no change where the latch and the tether filter are clear and the check-in counter and the failure sum stand below the
policy's limits; a page that holds a content of another kind counts as lost (entry 26); a lost root begins a wipe with cause
STORE_LOSS; and a wipe is resumed by its journal and cause, where the watch page carries WIPING and where it is lost beside a
journal that names a phase, an OWNER's with passes 1 to 3 in ROOT or REBUILD to abandon its scrub behind REBUILD (R153, R154,
R166; with an unusable journal from ROOT under a fresh plan, by the model's reading with the root page lost too, and with the
root lost in SCRUB under phase REBUILD with the journal queued: entry 18), or its scrub abandoned with a result, which is not
announced yet (entry 36). A first start is FirstStartOpensEveryBand, a writer still busy WriteCompletes; and where page 0 is
lost start-up stops with STORE_LOSS set (R164). -/
def Obligations.LineResetKeepsBackoffs : Prop :=
  (∀ (a g : Bool) (s : State) (h : HeldItems) (i : Identity), s.mode = .resetHeld → s.supplySeenOk = true →
    s.ks.writer = none → s.held = some h → s.ks.pages.get 0 = .intact (.identity i) →
    ∃ t, exec (.resetnRelease a g) s = .next t ∧ t.mode = .keyJobs ∧ t.addrSel = a ∧
      ∀ k : SlotId, backoffOf t k =
        if count t k ≤ (cred t k).free ∨ (k ≠ 0 ∧ (cred t k).state = .disabled) then 0 else h.backoff.get k) ∧
  (∀ (a g : Bool) (s : State), s.mode = .resetHeld → s.supplySeenOk = true → s.ks.writer = none →
    (∀ i : Identity, s.ks.pages.get 0 ≠ .intact (.identity i)) →
    ∃ t, exec (.resetnRelease a g) s = .next t ∧ t.mode = .identityLost ∧ linkReady t = false ∧
      t.psp.notice.getLsbD 3 = true ∧ t.ks.pages = s.ks.pages) ∧
  ∀ (a g : Bool) (s : State) (i : Identity) (n : PageId), s.mode = .resetHeld → s.supplySeenOk = true → s.ks.writer = none →
    s.ks.pages.get 0 = .intact (.identity i) → n ≠ 0 → s.ks.pages.get n ≠ .blank → ScrubInWiping s →
    ∃ x, exec (.resetnRelease a g) s = .next (settle x) ∧ x.mode = .keyJobs ∧ x.entropyFailed = !g ∧ x.psp = s.psp ∧
      (∀ p : PageId, p ∈ x.startup.lost ↔ p ≠ 0 ∧ intact (s.ks.pages.get p) = none) ∧
      (∀ p : PageId, p ∈ x.startup.lost → p ≠ rootPage → p.val < 21 ∨ 37 ≤ p.val →
        onList (x.ks.queue ++ x.ks.room) p = true) ∧
      (∀ b : BandId, record x b =
        match s.ks.pages.get (bandPage b) with
        | .intact (.band r) => r
        | _ => { start := 0, length := 0, rle := true, wle := true, relock := 0, openWrap := none }) ∧
      x.w.config =
        (match s.ks.pages.get configPage with
         | .intact (.config c) => c
         | _ => DriveConfig.default) ∧
      (∀ (k : SlotId) (c : Credential),
        c = (match s.ks.pages.get (credPage k) with
          | .intact (.credential d) => d
          | _ => Credential.fresh k .disabled) →
        count x k =
          (match s.ks.pages.get (attemptPage k) with
           | .intact (.attempt m) => min m c.hard
           | _ => c.hard - 1) ∧
        cred x k = if k ≠ 0 ∧ count x k = c.hard then { c with state := .disabled } else c) ∧
      (∀ k : KeyName, entry x k = { key := none, epoch := 0 }) ∧
      (x.startup.restored ≠ .wiping → ∀ b : BandId, flags x b =
        if barred x = true ∨ hasSecret x b = false then
          { readLocked := true, writeLocked := true, pendingLoad := false, held := false }
        else
          { readLocked := (record x b).rle, writeLocked := (record x b).wle || (record x b).rle, pendingLoad := false,
            held := false }) ∧
      (x.startup.restored = .wiping → ∀ b : BandId, flags x b =
        { readLocked := true, writeLocked := true, held := false,
          pendingLoad := decide (theft x = .wiped) && hasSecret x b && !(record x b).rle }) ∧
      (∀ b : BandId, hasSecret x b = true ↔ ∃ z, s.ks.pages.get (secretPage b) = .intact (.secret z)) ∧
      x.twu.tetherRun = 0 ∧ x.twu.meterOn = decide (0 < x.w.config.period) ∧
      (∀ h : HeldItems, s.held = some h → x.w.watch.latch = h.latch ∧ x.twu.tetherLost = h.tetherLost ∧
        (x.startup.restored ≠ .wiping → h.tetherLost = false → h.latch = false →
          (∀ p : Policy, x.w.watch.policy = some p →
            h.counter < watchPeriod p.periodIndex ∧ failureSum x < p.budget) →
          theft x = x.startup.restored ∧
          x.twu.grace = (if theft x = .suspect then
            (if h.inSuspect then h.grace else x.w.watch.graceSeconds * 1024) else 0) ∧
          x.twu.counter = if theft x = .armed ∨ theft x = .suspect then h.counter else 0)) ∧
      (s.held = none → x.twu.tetherLost = false ∧ x.twu.counter = 0 ∧
        (x.startup.restored ≠ .wiping → x.w.watch.latch = false →
          (∀ p : Policy, x.w.watch.policy = some p → failureSum x < p.budget) →
          theft x = x.startup.restored ∧
          x.twu.grace = if theft x = .suspect then x.w.watch.graceSeconds * 1024 else 0)) ∧
      ∀ names : Prop, (names ↔ ∃ q, s.ks.pages.get journalPage = .intact (.journal q) ∧ q.phase ≠ .done) →
        (∀ w, s.ks.pages.get watchPage = .intact (.watch w) → x.w.watch.policy = w.policy ∧
          (s.held = none → x.w.watch.latch = w.latch)) ∧
        ((∀ w, s.ks.pages.get watchPage ≠ .intact (.watch w)) → x.w.watch.policy = none ∧ x.w.watch.cause = none ∧
          (s.held = none → x.w.watch.latch = false) ∧ (names → x.startup.restored = .wiping)) ∧
        (∀ r, s.ks.pages.get rootPage = .intact (.root r) → x.w.root = some r ∧
          (∀ w, s.ks.pages.get watchPage = .intact (.watch w) → x.startup.restored = w.theft) ∧
          ((∀ w, s.ks.pages.get watchPage ≠ .intact (.watch w)) → ¬names → x.startup.restored = .alarm)) ∧
        ((∀ r, s.ks.pages.get rootPage ≠ .intact (.root r)) →
          (∃ w, s.ks.pages.get watchPage = .intact (.watch w) ∧ w.theft ≠ .wiping) ∨
            ((∀ w, s.ks.pages.get watchPage ≠ .intact (.watch w)) ∧ ¬names) →
          x.startup.restored = .wiping ∧ theft x = .wiping ∧ x.wipe.activity = .rebuildWait ∧ x.wipe.rootNeeds = true ∧
          x.w.plan = { cause := some .storeLoss, phase := .rebuild, passes := .times 0, pass := 0, watermark := 0,
                       stop := false, written := 0, refused := 0 } ∧
          x.wipe.abandon = false ∧ Carried watchPage x ∧ Carried journalPage x) ∧
        (∀ w, s.ks.pages.get watchPage = .intact (.watch w) → w.theft = .wiping → ¬names →
          theft x = .wiping ∧ x.wipe.activity = .rootWait ∧ x.wipe.abandon = false ∧ Carried journalPage x ∧
          x.w.plan = { cause := some .theft, phase := .root, pass := 0, watermark := 0, stop := false, written := 0,
                       refused := 0,
                       passes := match w.policy with
                         | some p => .times p.passes
                         | none => .times 0 }) ∧
        ((∃ w, s.ks.pages.get watchPage = .intact (.watch w) ∧ w.theft = .wiping) ∨
            (∀ w, s.ks.pages.get watchPage ≠ .intact (.watch w)) →
          ∀ q, s.ks.pages.get journalPage = .intact (.journal q) → q.phase ≠ .done →
            x.startup.restored = .wiping ∧
            ((∀ r, s.ks.pages.get rootPage ≠ .intact (.root r)) → theft x = .wiping ∧ x.wipe.activity = .rebuildWait ∧
              x.wipe.rootNeeds = true ∧ x.w.plan = { q with phase := .rebuild } ∧ Carried journalPage x ∧
              (x.wipe.abandon = true ↔ q.cause = some .owner ∧ ∃ m : Fin 4, m ≠ 0 ∧ q.passes = .times m)) ∧
            ∀ r, s.ks.pages.get rootPage = .intact (.root r) →
              (q.phase = .root ∨ q.phase = .rebuild →
                (x.wipe.abandon = true ↔ q.cause = some .owner ∧ ∃ m : Fin 4, m ≠ 0 ∧ q.passes = .times m)) ∧
              (q.phase = .root → theft x = .wiping ∧ x.wipe.activity = .rootWait ∧ x.w.plan = q) ∧
              (q.phase = .rebuild → theft x = .wiping ∧ x.wipe.activity = .rebuildWait ∧ x.w.plan = q) ∧
              (q.phase = .scrub → q.cause ≠ some .owner → theft x = .wiping ∧ x.wipe.activity = .passWait ∧ x.w.plan = q) ∧
              (q.phase = .scrub → q.cause = some .owner → q.passes = .continuous →
                theft x = .wiping ∧ x.wipe.activity = .passWait ∧ Carried journalPage x ∧
                x.w.plan = { q with pass := 1, watermark := 0, written := 0, refused := 0 }) ∧
              (q.phase = .scrub → q.cause = some .owner → ∀ m : Fin 4, m ≠ 0 → q.passes = .times m →
                theft x = .wiped ∧ x.wipe.activity = .doneWait ∧
                x.wipe.ring.get 0 = some
                  { cause := some .owner, pass := if q.pass = 0 then 1 else q.pass, written := q.written,
                    refused := q.refused, ended := .abandoned, unread := true, overrun := false }))

/-- STARTUP_KEY_JOB_COMPLETE (R180, R63, R14): the COVER entry and the open bands of the job are loaded, and no band outside the
job is. Values are to be drawn where the ES is GOOD and a first start has no root secret or a band secret is missing (R165,
R167). With nothing to draw the link comes UP with a STATE message first. A theft state that start-up changed, a result that it
stored (entry 36) and a lost page are noted in the notice byte (R181, R168). With values to draw, start-up hands its second job
and has not completed: the link stays DOWN, nothing is announced, and the store and its working copy are as before; at a first
start the COVER entry is loaded here too, from 32 zero bytes, by the model's reading (entry 15). -/
def Obligations.StartupLoadsOpenBands : Prop :=
  (∀ s : State, needsDraw s = true ↔ s.entropyFailed = false ∧
    ((s.startup.firstStart = true ∧ s.w.root = none) ∨ ∃ b : BandId, hasSecret s b = false)) ∧
  ∀ (s : State) (bs : List BandId), s.engine.running = some (.startup, .startupKey bs) →
    (needsDraw s = true ∨ s.link.outbound = []) →
    ∃ x, exec .startupKeyJobComplete s = .next (settle x) ∧
      x.keys.cover = loaded (.cover (rootOrZero s)) s.keys.cover ∧
      (∀ b : BandId, flags x b = flags s b) ∧
      (∀ b : BandId, entry x (.band b) =
        match openKey s b with
        | some k =>
          if b ∈ bs ∧ barred s = false ∧ closed (flags s b) = false then loaded k (entry s (.band b)) else entry s (.band b)
        | none => entry s (.band b)) ∧
      (needsDraw s = false → x.mode = .ready ∧ x.link.outbound.head? = some (.state (theft s) (shownCause s)) ∧
        (theft s ≠ s.startup.restored → x.psp.notice.getLsbD 0 = true) ∧
        ((s.wipe.ring.get 0).isSome = true → x.psp.notice.getLsbD 1 = true) ∧
        (s.startup.lost ≠ [] → x.psp.notice.getLsbD 3 = true)) ∧
      (needsDraw s = true →
        x.engine = { s.engine with running := none, startup := some .startupDraw } ∧ x.mode = s.mode ∧
        linkUp x = linkUp s ∧ x.link = s.link ∧ x.psp = s.psp ∧ x.w = s.w ∧ x.ks = s.ks ∧ x.twu = s.twu ∧ x.wipe = s.wipe)

/-- STARTUP_DRAW_JOB_COMPLETE. At a first start (R165): the ADMIN slot is BLANK with the secret of 32 zero bytes, every band is
open with its key loaded, and pages 2 to 52 are queued in order with the root page last, which the model does here (entry 15).
Outside one (R167, R180, R18): each lost band secret takes its fresh value, in band order, its page is queued and the band is
brought to its enables, closed in ALARM and WIPING; no other band changes. A value that is missing or fails its test (R91, R92)
makes the ES FAILED: outside a first start nothing of the store or the keys changes, and a first start goes on as a wipe with
cause STORE_LOSS whose REBUILD waits, with every band closed and WIPING the state announced; so does a first start whose health
test fails, before its key job (R165). -/
def Obligations.FirstStartOpensEveryBand : Prop :=
  (∀ (s : State) (xs : List Secret), s.engine.running = some (.startup, .startupDraw) → s.startup.firstStart = false →
    s.entropyFailed = false → xs.length = (bareBands s).length → s.link.outbound = [] →
    ∃ x, exec (.startupDrawJobComplete (xs.map some)) s = .next (settle x) ∧ x.mode = .ready ∧
      x.link.outbound.head? = some (.state (theft s) (shownCause s)) ∧ x.w.root = s.w.root ∧ x.w.creds = s.w.creds ∧
      x.w.bands = s.w.bands ∧
      (∀ b : BandId, hasSecret s b = true → x.w.secrets.get b = s.w.secrets.get b ∧ SameBand b s x) ∧
      ∀ (n : Nat) (b : BandId) (z : Secret), (bareBands s)[n]? = some b → xs[n]? = some z →
        x.w.secrets.get b = some z ∧ Carried (secretPage b) x ∧
        (barred s = true ∨ (record s b).rle = true →
          closed (flags x b) = true ∧ entry x (.band b) = removed (entry s (.band b))) ∧
        (barred s = false → (record s b).rle = false → present s (.band b) = false → ∀ k : MediaKey, openKey x b = some k →
          flags x b = { readLocked := false, writeLocked := (record s b).wle, pendingLoad := false, held := false } ∧
          entry x (.band b) = loaded k (entry s (.band b)))) ∧
  (∀ (s : State) (ds : List Draw), s.engine.running = some (.startup, .startupDraw) → s.link.outbound = [] →
    (s.startup.firstStart = false → s.entropyFailed = true ∨ (none ∈ ds ∧ ds.length = (bareBands s).length) →
      ∃ x, exec (.startupDrawJobComplete ds) s = .next (settle x) ∧ x.mode = .ready ∧ x.entropyFailed = true ∧
        x.link.outbound.head? = some (.state (theft s) (shownCause s)) ∧ x.w = s.w ∧ x.ks = s.ks ∧ x.keys = s.keys ∧
        x.bands = s.bands) ∧
    (s.startup.firstStart = true → s.entropyFailed = true ∨ (none ∈ ds ∧ ds.length = 34) →
      ∃ x, exec (.startupDrawJobComplete ds) s = .next (settle x) ∧ x.mode = .ready ∧ StartsWithoutEntropy x ∧
        x.link.outbound.head? = some (.state .wiping (some .storeLoss)) ∧ x.w.root = s.w.root ∧ x.w.secrets = s.w.secrets ∧
        x.w.creds = s.w.creds ∧ x.w.bands = s.w.bands)) ∧
  (∀ (a : Bool) (s : State) (i : Identity), s.mode = .resetHeld → s.supplySeenOk = true → s.ks.writer = none →
    s.ks.pages.get 0 = .intact (.identity i) → (∀ p : PageId, p ≠ 0 → s.ks.pages.get p = .blank) → ScrubInWiping s →
    ∃ x, exec (.resetnRelease a false) s = .next (settle x) ∧ x.mode = .keyJobs ∧ StartsWithoutEntropy x) ∧
  ∀ (s : State) (i : Identity) (xs : List Secret), s.engine.running = some (.startup, .startupDraw) →
    s.startup.firstStart = true → s.entropyFailed = false → s.w = firstWorking i → xs.length = 34 →
    s.ks.queue = [] → s.ks.room = [] → s.ks.writer = none → (∀ p : PageId, p ≠ 0 → s.ks.pages.get p = .blank) →
    ∃ x, exec (.startupDrawJobComplete (xs.map some)) s = .next (settle x) ∧ x.mode = .ready ∧ theft x = .dormant ∧
      (cred x 0).state = .blank ∧ verifies (cred x 0) 0 = true ∧ x.w.root = xs[0]? ∧
      (∀ b : BandId, (flags x b).readLocked = false ∧ (flags x b).writeLocked = false ∧ present x (.band b) = true ∧
        (record x b).openWrap.isSome = true ∧ ((cred x 0).row.get b).isSome = true) ∧
      (∀ k : SlotId, k ≠ 0 → (cred x k).state = .empty) ∧
      (x.ks.queue ++ x.ks.room).map QEntry.page = dataPages ++ [rootPage]

/-! ## Time and lines -/

/-- TICK (R183, R56, R106, R123, R184) outside SUSPECT with no timer at its end, the tether off and TAMPER as the filter reads
it: every running timer falls by one, the data-wait timer of a lane in AWAITING among them (R56), the check-in counter rises in
ARMED, and the supply monitor takes its sample. BACKOFF_END, the backoff's end that the tick has brought about, changes nothing
more (entry 2). -/
def Obligations.TickCounts : Prop :=
  (∀ x : Lane, laneTick x =
    if x.state = .awaiting then { x with timer := x.timer.map fun n => n - 1 } else x) ∧
  (∀ (sup g : Bool) (s : State), s.mode = .ready → s.twu.meterOn = false → timedOut .a s = false →
    timedOut .b s = false → theft s ≠ .suspect → CheckinIdle s →
    ∃ x, exec (.tick s.twu.tamperOpen sup g) s = .next (settle x) ∧ x.divider = 0 ∧ x.entropyTest = g ∧
      (∀ i : SlotId, backoffOf x i = backoffOf s i - 1) ∧
      x.laneA = laneTick s.laneA ∧ x.laneB = laneTick s.laneB ∧
      x.twu.counter = (if theft s = .armed then min (s.twu.counter + 1) Config.counterTop else s.twu.counter) ∧
      x.supplyOk = (if s.supplyPrev = some sup then sup else s.supplyOk) ∧ x.supplyPrev = some sup ∧
      x.w = s.w ∧ x.ks = s.ks ∧ x.bands = s.bands ∧ x.keys = s.keys ∧ x.dq = s.dq ∧ x.link = s.link ∧ x.psp = s.psp ∧
      x.wipe = s.wipe ∧ x.engine = s.engine) ∧
  ∀ (i : SlotId) (s : State), exec (.backoffEnd i) s = .next s

/-- The tamper filter and the grace at a tick, as functions and through TICK. The filter (R129): an agreeing sample forgets a
single opposite one, the second opposite sample in a row changes the filter, and a change to OPEN sets the latch, which queues
the watch page. So TICK in DORMANT, with no timer at its end and the tether off, changes nothing else but the counts that it
takes (R183, R184); and in ARMED with TAMPER enabled a latch that it sets makes the theft state SUSPECT with that cause and the
whole grace (R130), or, with the grace period 0 or in SUSPECT with another cause, ALARM or by the policy WIPING (R130, R132); in
SUSPECT with TAMPER the cause the state stays (R132). That a tick's counts come before its tamper sample, so that a grace which
the sample starts is whole while the check-in counter rises, is the model's choice (entry 47). The grace (R133): a tick in
SUSPECT lowers it by one, and at a non-zero multiple of 65,536 ticks, and only there, the watch page takes the grace seconds, 64
s fewer than at the checkpoint before; so TICK in SUSPECT, under the same conditions and with TAMPER as the filter reads it,
lowers the grace and raises the check-in counter (R123), with a check-in overdue too where CHECKIN is the cause already (R132).
-/
def Obligations.TickFiltersTamperAndGrace : Prop :=
  (∀ (high sup g : Bool) (s : State), s.mode = .ready → s.twu.meterOn = false → timedOut .a s = false →
    timedOut .b s = false → CheckinIdle s →
    (theft s = .dormant →
      ∃ x, exec (.tick high sup g) s = .next (settle x) ∧ x.divider = 0 ∧ x.entropyTest = g ∧
        (∀ i : SlotId, backoffOf x i = backoffOf s i - 1) ∧ x.laneA = laneTick s.laneA ∧ x.laneB = laneTick s.laneB ∧
        x.twu = { s.twu with
          tamperOpen := if high ≠ s.twu.tamperOpen ∧ s.twu.tamperOpposite = true then high else s.twu.tamperOpen,
          tamperOpposite := decide (high ≠ s.twu.tamperOpen) && !s.twu.tamperOpposite } ∧
        x.w = { s.w with watch := { s.w.watch with
          latch := s.w.watch.latch || (high && !s.twu.tamperOpen && s.twu.tamperOpposite) } } ∧
        (x.w.watch.latch = s.w.watch.latch → x.ks = s.ks) ∧ (x.w.watch.latch ≠ s.w.watch.latch → Carried watchPage x) ∧
        x.supplyOk = (if s.supplyPrev = some sup then sup else s.supplyOk) ∧ x.supplyPrev = some sup ∧ x.mode = s.mode ∧
        x.linkBox = s.linkBox ∧ x.sideBox = s.sideBox ∧ x.coverPermit = s.coverPermit ∧ x.entropyFailed = s.entropyFailed ∧
        x.bands = s.bands ∧ x.keys = s.keys ∧ x.dq = s.dq ∧ x.link = s.link ∧ x.psp = s.psp ∧ x.wipe = s.wipe ∧
        x.engine = s.engine) ∧
    (∀ p : Policy, theft s = .armed → s.w.watch.policy = some p → inSet p.enabled .tamper = true → p.graceSeconds ≠ 0 →
      s.w.watch.latch = false → s.twu.tamperOpen = false → s.twu.tamperOpposite = true →
      ∃ x, exec (.tick true sup g) s = .next (settle x) ∧
        x.w = { s.w with watch := { s.w.watch with theft := .suspect, cause := some .tamper, latch := true,
                                                   graceSeconds := p.graceSeconds } } ∧
        x.twu = { s.twu with grace := p.graceSeconds * 1024, counter := min (s.twu.counter + 1) Config.counterTop,
                             tamperOpen := true, tamperOpposite := false } ∧
        Carried watchPage x ∧ x.bands = s.bands ∧ x.keys = s.keys ∧ x.dq = s.dq ∧ x.psp.notice.getLsbD 0 = true ∧
        OutMsg.state .suspect none ∈ x.link.outbound) ∧
    (∀ p : Policy, s.w.watch.policy = some p → inSet p.enabled .tamper = true → s.w.watch.latch = false →
      s.twu.tamperOpen = false → s.twu.tamperOpposite = true → ScrubInWiping s →
      ((theft s = .armed ∧ p.graceSeconds = 0) ∨ (theft s = .suspect ∧ 0 < s.twu.grace ∧ s.w.watch.cause ≠ some .tamper) →
        ∃ x, exec (.tick true sup g) s = .next (settle x) ∧ x.w.watch.latch = true ∧ EntersAlarm p s x) ∧
      (theft s = .suspect → 0 < s.twu.grace → s.w.watch.cause = some .tamper →
        ∃ x, exec (.tick true sup g) s = .next (settle x) ∧ x.w.watch.latch = true ∧ theft x = .suspect ∧
          x.w.watch.cause = some .tamper ∧ x.twu.grace = s.twu.grace - 1 ∧ x.bands = s.bands ∧ x.keys = s.keys)) ∧
    (theft s = .suspect → 0 < s.twu.grace →
      ∃ x, exec (.tick s.twu.tamperOpen sup g) s = .next (settle x) ∧ x.divider = 0 ∧
        (∀ i : SlotId, backoffOf x i = backoffOf s i - 1) ∧ x.laneA = laneTick s.laneA ∧ x.laneB = laneTick s.laneB ∧
        x.twu = { s.twu with grace := s.twu.grace - 1, counter := min (s.twu.counter + 1) Config.counterTop,
                             tamperOpposite := false } ∧
        (if s.twu.grace - 1 ≠ 0 ∧ (s.twu.grace - 1) % 65536 = 0 then
          x.w = { s.w with watch := { s.w.watch with graceSeconds := 64 * ((s.twu.grace - 1) / 65536) } } ∧
          Carried watchPage x
        else x.w = s.w ∧ x.ks = s.ks) ∧
        x.bands = s.bands ∧ x.keys = s.keys ∧ x.dq = s.dq ∧ x.link = s.link ∧ x.psp = s.psp ∧ x.wipe = s.wipe ∧
        x.engine = s.engine)) ∧
  (∀ (high : Bool) (s : State), theft s = .dormant →
    (sampleTamper high s).twu.tamperOpen =
      (if high ≠ s.twu.tamperOpen ∧ s.twu.tamperOpposite = true then high else s.twu.tamperOpen) ∧
    (sampleTamper high s).twu.tamperOpposite = (decide (high ≠ s.twu.tamperOpen) && !s.twu.tamperOpposite) ∧
    (sampleTamper high s).w.watch.latch =
      (s.w.watch.latch || (high && !s.twu.tamperOpen && s.twu.tamperOpposite)) ∧
    theft (sampleTamper high s) = .dormant) ∧
  ∀ s : State, theft s = .suspect → 0 < s.twu.grace →
    (tickGrace s).twu = { s.twu with grace := s.twu.grace - 1 } ∧
    (tickGrace s).w.watch =
      (if s.twu.grace - 1 ≠ 0 ∧ (s.twu.grace - 1) % 65536 = 0 then
        { s.w.watch with graceSeconds := 64 * ((s.twu.grace - 1) / 65536) }
      else s.w.watch) ∧
    ((s.twu.grace - 1 = 0 ∨ (s.twu.grace - 1) % 65536 ≠ 0) → (tickGrace s).ks = s.ks)

/-- CHECKIN_PERIOD_REACHED (R123, R130): in ARMED with CHECKIN enabled and a grace period, the theft state becomes SUSPECT with
that cause and the whole grace; no band is touched, and the change is announced. A TICK before which that command was not taken
takes it first (entry 2), and then counts: its grace is one tick short of the whole. By either, with the grace period 0 (R130)
or in SUSPECT with another cause (R132), the theft state becomes ALARM or by the policy WIPING; in SUSPECT with CHECKIN the
cause nothing changes (R132), and what a TICK then counts TickFiltersTamperAndGrace says. -/
def Obligations.MissedCheckinSuspects : Prop :=
  (∀ (c : Instr) (s : State) (p : Policy), linkUp s = true → s.w.watch.policy = some p →
    inSet p.enabled .checkin = true → watchPeriod p.periodIndex ≤ s.twu.counter → ScrubInWiping s →
    ((theft s = .armed ∧ p.graceSeconds = 0) ∨ (theft s = .suspect ∧ s.w.watch.cause ≠ some .checkin) →
      (c = .checkinPeriodReached ∨ (s.twu.meterOn = false ∧ timedOut .a s = false ∧ timedOut .b s = false ∧
        ∃ sup g, c = .tick s.twu.tamperOpen sup g)) →
      ∃ x, exec c s = .next (settle x) ∧ EntersAlarm p s x) ∧
    (theft s = .suspect → s.w.watch.cause = some .checkin → exec .checkinPeriodReached s = .next (settle s))) ∧
  ∀ (s : State) (p : Policy), linkUp s = true → theft s = .armed → s.w.watch.policy = some p →
    inSet p.enabled .checkin = true → watchPeriod p.periodIndex ≤ s.twu.counter → p.graceSeconds ≠ 0 →
    (∀ sup g : Bool, s.twu.meterOn = false → timedOut .a s = false → timedOut .b s = false →
      ∃ x, exec (.tick s.twu.tamperOpen sup g) s = .next (settle x) ∧
        x.w = { s.w with watch := { s.w.watch with theft := .suspect, cause := some .checkin,
                                                   graceSeconds := p.graceSeconds } } ∧
        x.twu = { s.twu with grace := p.graceSeconds * 1024 - 1, counter := min (s.twu.counter + 1) Config.counterTop,
                             tamperOpposite := false } ∧
        Carried watchPage x ∧ x.bands = s.bands ∧ x.keys = s.keys ∧ x.dq = s.dq ∧ x.psp.notice.getLsbD 0 = true ∧
        OutMsg.state .suspect none ∈ x.link.outbound) ∧
    ∃ x, exec .checkinPeriodReached s = .next (settle x) ∧
      x.w = { s.w with watch := { s.w.watch with theft := .suspect, cause := some .checkin,
                                                 graceSeconds := p.graceSeconds } } ∧
      x.twu = { s.twu with grace := p.graceSeconds * 1024 } ∧ x.bands = s.bands ∧ x.keys = s.keys ∧
      x.backoff = s.backoff ∧ x.dq = s.dq ∧ x.laneA = s.laneA ∧ x.laneB = s.laneB ∧ x.psp.notice.getLsbD 0 = true ∧
      OutMsg.state .suspect none ∈ x.link.outbound

/-- GRACE_EXPIRED (R132, R133, R14, R135). With the action LOCKDOWN the theft state becomes ALARM, every band is closed and its
entry removed with its epoch rising if it was present; the check-in counter keeps its value. With the action WIPE it becomes
WIPING with cause THEFT and the policy's passes: the plan is set whole, and the Wipe Engine waits for the journal and the watch
page. A TICK before which that command was not taken takes it first (entry 2), lets the backoffs run, and counts no check-in. -/
def Obligations.GraceEndsInAlarmOrWipe : Prop :=
  ∀ (c : Instr) (s : State) (p : Policy), linkUp s = true → theft s = .suspect → s.twu.grace = 0 →
    s.w.watch.policy = some p → ScrubInWiping s →
    (c = .graceExpired ∨ (s.twu.meterOn = false ∧ timedOut .a s = false ∧ timedOut .b s = false ∧
      ∃ sup g, c = .tick s.twu.tamperOpen sup g)) →
    ∃ x, exec c s = .next (settle x) ∧ x.w.watch.cause = none ∧ x.w.watch.policy = some p ∧
      x.w.creds = s.w.creds ∧ x.w.counts = s.w.counts ∧ x.w.root = s.w.root ∧ x.w.secrets = s.w.secrets ∧
      (∀ i : SlotId, backoffOf x i = if c = .graceExpired then backoffOf s i else backoffOf s i - 1) ∧
      x.keys.cover = s.keys.cover ∧ x.keys.fill = s.keys.fill ∧ x.psp.notice.getLsbD 0 = true ∧
      (∀ b : BandId, closed (flags x b) = true ∧ (flags x b).pendingLoad = false ∧
        entry x (.band b) =
          { key := none,
            epoch := if present s (.band b) then (entry s (.band b)).epoch + 1 else (entry s (.band b)).epoch }) ∧
      match p.action with
      | .lockdown => theft x = .alarm ∧ x.twu.counter = s.twu.counter ∧ x.w.plan = s.w.plan ∧ x.wipe = s.wipe
      | .wipe =>
        theft x = .wiping ∧ x.twu.counter = 0 ∧ x.wipe.activity = .rootWait ∧
        x.w.plan = { cause := some .theft, phase := .root, passes := .times p.passes, pass := 0, watermark := 0, stop := false,
                     written := 0, refused := 0 }

/-- TETHER_EDGE and TETHER_OVERFLOW (R127, R128, R6). With the meter on and no overflow before the edge: a starting edge yields
no sample; a later one yields the cycles since the edge before, which agree with the filter, or raise its run, or fill it. The
good sample that fills the run makes the filter PRESENT, and TETHER deasserts: in SUSPECT with TETHER enabled the theft state
becomes ARMED where no enabled indicator stays asserted (R131), and else nothing more changes. The bad sample that fills it, an
edge's or an overflow's, makes the filter LOST, and every band whose relock set names TETHER_LOST is locked (R3: none in ALARM
and WIPING); TETHER asserts: with TETHER enabled ARMED becomes SUSPECT with that cause and the whole grace, and with the grace
period 0 or in SUSPECT with another cause the theft state becomes ALARM or by the policy WIPING (R130, R132); else the watch
stays as it is. In WIPING that is said of lanes that stand as the last change of keys left them, where nothing else changes, or
of no open orders. The relock comes before TETHER asserts, by the model's choice (entry 46); the cycles left of the tick period
stay (entry 13). A TICK with the meter on, in every theft state, with no timer at its end and TAMPER as the filter reads it,
counts the cycles that are left of its period; where that fills the counter it starts again from 0 with the cycles left over,
and the filter takes the overflow's bad sample as above, before the counts of the tick: a grace that it starts falls by one in
that tick (entry 47). -/
def Obligations.TetherMeterSamples : Prop :=
  (∀ (sup g : Bool) (s : State), s.mode = .ready → s.twu.meterOn = true → timedOut .a s = false →
    timedOut .b s = false → CheckinIdle s → (theft s = .suspect → 0 < s.twu.grace) → s.divider ≤ 32 → ScrubInWiping s →
    (theft s = .wiping → noOrders s = true ∨ LanesSettled s) →
    ∃ x, exec (.tick s.twu.tamperOpen sup g) s = .next (settle x) ∧ x.divider = 0 ∧ x.entropyTest = g ∧
      (∀ i : SlotId, backoffOf x i = backoffOf s i - 1) ∧
      (s.twu.meterCount + (32 - s.divider) < 65535 →
        TickCounted s x { s.twu with meterCount := s.twu.meterCount + (32 - s.divider) } ∧
        x.bands = s.bands ∧ x.keys = s.keys ∧ x.dq = s.dq ∧ x.link = s.link ∧ x.laneA = laneTick s.laneA ∧
        x.laneB = laneTick s.laneB) ∧
      ∀ u : WatchUnit, 65535 ≤ s.twu.meterCount + (32 - s.divider) →
        u = { s.twu with meterCount := s.twu.meterCount + (32 - s.divider) - 65535 } →
        (s.twu.tetherLost = true → TickCounted s x { u with tetherRun := 0 } ∧ x.bands = s.bands ∧ x.keys = s.keys) ∧
        (s.twu.tetherLost = false → s.twu.tetherRun + 1 < s.w.config.filterLength →
          TickCounted s x { u with tetherRun := s.twu.tetherRun + 1 } ∧ x.bands = s.bands ∧ x.keys = s.keys) ∧
        (s.twu.tetherLost = false → s.w.config.filterLength ≤ s.twu.tetherRun + 1 →
          x.twu.tetherLost = true ∧ x.twu.tetherRun = 0 ∧ x.twu.meterCount = u.meterCount ∧
          ((theft s ≠ .armed ∧ theft s ≠ .suspect) ∨ enabled s .tether = false ∨
              (theft s = .suspect ∧ s.w.watch.cause = some .tether) →
            TickCounted s x { u with tetherLost := true, tetherRun := 0 } ∧ TetherRelocked s x) ∧
          ∀ p : Policy, s.w.watch.policy = some p → inSet p.enabled .tether = true →
            (theft s = .armed → p.graceSeconds ≠ 0 →
              x.twu = { u with
                tetherLost := true, tetherRun := 0, tamperOpposite := false, grace := p.graceSeconds * 1024 - 1,
                counter := min (s.twu.counter + 1) Config.counterTop } ∧
              x.w = { s.w with watch := { s.w.watch with theft := .suspect, cause := some .tether,
                                                         graceSeconds := p.graceSeconds } } ∧
              Carried watchPage x ∧ Announced (.state .suspect none) s x ∧ TetherRelocked s x) ∧
            ((theft s = .armed ∧ p.graceSeconds = 0) ∨ (theft s = .suspect ∧ s.w.watch.cause ≠ some .tether) →
              EntersAlarm p s x))) ∧
  (∀ (cycle : Nat) (s : State), s.mode = .ready → s.twu.meterOn = true → s.divider ≤ cycle → cycle < 32 →
    s.twu.meterCount + (cycle - s.divider) < 65535 →
    (s.twu.meterFirst = true →
      exec (.tetherEdge cycle) s =
        .next (settle { s with divider := cycle, twu := { s.twu with meterFirst := false, meterCount := 0 } })) ∧
    (s.twu.meterFirst = false →
      goodSample s (s.twu.meterCount + (cycle - s.divider)) ≠ s.twu.tetherLost →
      exec (.tetherEdge cycle) s =
        .next (settle { s with divider := cycle, twu := { s.twu with meterCount := 0, tetherRun := 0 } })) ∧
    (s.twu.meterFirst = false →
      goodSample s (s.twu.meterCount + (cycle - s.divider)) = s.twu.tetherLost →
      s.twu.tetherRun + 1 < s.w.config.filterLength →
      exec (.tetherEdge cycle) s =
        .next (settle { s with divider := cycle,
                               twu := { s.twu with meterCount := 0, tetherRun := s.twu.tetherRun + 1 } }))) ∧
  (∀ (cycle : Nat) (s y : State), s.mode = .ready → s.twu.meterOn = true → s.twu.meterFirst = false → s.divider ≤ cycle →
    cycle < 32 → s.twu.meterCount + (cycle - s.divider) < 65535 → s.twu.tetherLost = true →
    goodSample s (s.twu.meterCount + (cycle - s.divider)) = true → s.w.config.filterLength ≤ s.twu.tetherRun + 1 →
    y = { s with divider := cycle, twu := { s.twu with meterCount := 0, tetherLost := false, tetherRun := 0 } } →
    (theft s ≠ .suspect ∨ enabled s .tether = false ∨ anyAsserted y = true →
      exec (.tetherEdge cycle) s = .next (settle y)) ∧
    (theft s = .suspect → enabled s .tether = true → anyAsserted y = false → ScrubInWiping s →
      ∃ x, exec (.tetherEdge cycle) s = .next (settle x) ∧ ReturnsToArmed s x ∧ x.divider = cycle ∧
        x.twu = { s.twu with meterCount := 0, tetherLost := false, tetherRun := 0, grace := 0 } ∧ x.bands = s.bands ∧
        x.keys = s.keys)) ∧
  ∀ (c : Instr) (d : Nat) (s : State), s.mode = .ready → s.twu.meterOn = true → s.twu.tetherLost = false →
    s.w.config.filterLength ≤ s.twu.tetherRun + 1 → s.twu.meterCount < 65535 → ScrubInWiping s →
    (theft s = .wiping → noOrders s = true ∨ LanesSettled s) →
    ((c = .tetherOverflow ∧ 65535 ≤ s.twu.meterCount + (32 - s.divider) ∧ d = s.divider + (65535 - s.twu.meterCount)) ∨
      (c = .tetherEdge d ∧ s.twu.meterFirst = false ∧ s.divider ≤ d ∧ d < 32 ∧ s.twu.meterCount + (d - s.divider) < 65535 ∧
        goodSample s (s.twu.meterCount + (d - s.divider)) = false)) →
    ∃ x, exec c s = .next (settle x) ∧ x.divider = d ∧ x.twu.tetherLost = true ∧ x.twu.tetherRun = 0 ∧
      x.twu.meterCount = 0 ∧
      ((theft s ≠ .armed ∧ theft s ≠ .suspect) ∨ enabled s .tether = false ∨
          (theft s = .suspect ∧ s.w.watch.cause = some .tether) →
        x.twu = { s.twu with meterCount := 0, tetherLost := true, tetherRun := 0 } ∧ x.w = s.w ∧ x.ks = s.ks ∧
        TetherRelocked s x) ∧
      (theft s = .wiping → LanesSettled s →
        x = { s with divider := d, twu := { s.twu with meterCount := 0, tetherLost := true, tetherRun := 0 } }) ∧
      ∀ p : Policy, s.w.watch.policy = some p → inSet p.enabled .tether = true →
        (theft s = .armed → p.graceSeconds ≠ 0 →
          x.twu = { s.twu with meterCount := 0, tetherLost := true, tetherRun := 0, grace := p.graceSeconds * 1024 } ∧
          x.w = { s.w with watch := { s.w.watch with theft := .suspect, cause := some .tether,
                                                     graceSeconds := p.graceSeconds } } ∧
          Carried watchPage x ∧ x.psp.notice.getLsbD 0 = true ∧ OutMsg.state .suspect none ∈ x.link.outbound ∧
          TetherRelocked s x) ∧
        ((theft s = .armed ∧ p.graceSeconds = 0) ∨ (theft s = .suspect ∧ s.w.watch.cause ≠ some .tether) →
          EntersAlarm p s x)

/-! ## The media link -/

/-- While the link is DOWN every inbound message is discarded (R63, R65), a LINK_RESET too (R76); and at any time
MALFORMED_MESSAGE, bytes that the drive's format reads as no message, is discarded, whatever waits or is held (R65). -/
def Obligations.InboundDiscards : Prop :=
  ∀ s : State,
    (linkUp s = false →
      (∀ (k tag st : Byte) (a : BitVec 48) (n : BitVec 16) (o : Byte), exec (.descriptor k tag st a n o) s = .next s) ∧
      (∀ (tag : Byte) (a : BitVec 48) (data : List Byte), exec (.plainSector tag a data) s = .next s ∧
        exec (.cipherSector tag a data) s = .next s) ∧
      (∀ o : Byte, exec (.scrubRefuse o) s = .next s) ∧ exec .linkReset s = .next s ∧
      (∀ xs : List Byte, exec (.malformedMessage xs) s = .next s) ∧
      ∀ (c : Instr) (e : Envelope), requestOf c = some (.link, e) → exec c s = .next s) ∧
    ∀ xs : List Byte, decodeMessage s.w.identity.largeSectors xs = none → exec (.malformedMessage xs) s = .next s

/-- SEND_MESSAGE (R67, R72): the head of the outbound queue is sent; the sending of an admitted transfer's COMPLETION, and of no
other message, takes the transfer's record from the DQ. The inbound hold (R64, R66; entry 12): a message that arrives while the
outbound queue holds 64 or more is not taken, and waits on the link behind those that wait; while it holds fewer, with none
waiting, it is taken at once; and the sending that brings the queue below 64 takes the first that waits, by the state that the
sending leaves, and then those behind it, while the hold is FLOWING. -/
def Obligations.SendTakesHead : Prop :=
  (∀ (c : Instr) (m : InMsg) (s : State), messageOf c = some m → linkUp s = true →
    (64 ≤ s.link.outbound.length →
      exec c s = .next { s with link := { s.link with inbound := s.link.inbound ++ [m] } }) ∧
    (s.link.outbound.length < 64 → s.link.inbound = [] → ∀ t : State, t = settle (takeMessage m s) →
      exec c s = .next { t with link := { t.link with inbound := [] } })) ∧
  (∀ (m : OutMsg) (ms : List OutMsg) (n : InMsg) (ns : List InMsg) (s u : State), linkUp s = true →
    s.link.outbound = m :: ms → s.link.inbound = n :: ns →
    u = { s with link := { s.link with outbound := ms, lastSent := some m },
                 dq := match m with
                   | .completion c true => release c.tag s.dq
                   | _ => s.dq } →
    (64 ≤ ms.length → exec .sendMessage s = .next u) ∧
    (ms.length < 64 → ∀ t : State, t = settle (takeMessage n u) →
      (ns = [] → exec .sendMessage s = .next { t with link := { t.link with inbound := [] } }) ∧
      (64 ≤ t.link.outbound.length → exec .sendMessage s = .next { t with link := { t.link with inbound := ns } }) ∧
      (t.link.outbound.length < 64 → ∀ n' : InMsg, ns = [n'] → ∀ v : State, v = settle (takeMessage n' t) →
        exec .sendMessage s = .next { v with link := { v.link with inbound := [] } }))) ∧
  ∀ (m : OutMsg) (ms : List OutMsg) (s : State), linkUp s = true → s.link.outbound = m :: ms → s.link.inbound = [] →
    exec .sendMessage s =
      .next { s with link := { s.link with outbound := ms, lastSent := some m },
                     dq := match m with
                       | .completion c true => release c.tag s.dq
                       | _ => s.dq }

/-- LINK_RESET (R76 to R79, R22, R44, R58, R6): the link's work ends as one act, and nothing of the store, the slots, the watch
or the keys changes but by the relocks, the COVER and FILL entries among them. A STATE message comes first, and behind it, in a
running pass, the SCRUB_ORDERs of the orders issued afresh from the watermark, in slot order; without one nothing. -/
def Obligations.LinkResetEndsTheLinksWork : Prop :=
  ∀ s : State, linkUp s = true → ∃ x, exec .linkReset s = .next (settle x) ∧
    x.dq = [] ∧ x.stu = Translation.idle ∧ x.laneA = Lane.idle ∧ x.laneB = Lane.idle ∧ x.link.inbound = [] ∧
    x.coverPermit = false ∧ x.w = s.w ∧ x.ks = s.ks ∧ x.backoff = s.backoff ∧ x.twu = s.twu ∧ x.psp = s.psp ∧
    x.sideBox = s.sideBox ∧ x.mode = .ready ∧
    x.link.outbound = .state (theft s) (shownCause s) ::
      (([0, 1, 2, 3] : List OrderSlot).filterMap fun i => (x.wipe.orders.get i).map fun o =>
        .scrubOrder i o.pass o.first o.count) ∧
    x.keys.cover = s.keys.cover ∧ x.keys.fill = s.keys.fill ∧
    (∀ b : BandId, (flags x b, entry x (.band b)) =
      if (record s b).relock.getLsbD 2 then lockPair s b else (flags s b, entry s (.band b))) ∧
    (match s.linkBox with
     | none => x.linkBox = none ∧ x.link.dropMark = s.link.dropMark ∧ x.engine = s.engine
     | some h =>
       if h.started then x.linkBox = some h ∧ x.link.dropMark = some h.env.id ∧ x.engine = s.engine
       else x.linkBox = none ∧ x.link.dropMark = s.link.dropMark ∧ x.engine = { s.engine with link := none }) ∧
    (s.wipe.running = false → ∀ i : OrderSlot, x.wipe.orders.get i = none) ∧
    (s.wipe.running = true →
      ∀ i : OrderSlot, x.wipe.orders.get i =
        if watermark s + 256 * i.val < scrubEnd s then
          some { pass := s.w.plan.pass, first := watermark s + 256 * i.val,
                 count := min 256 (scrubEnd s - (watermark s + 256 * i.val)), answered := false }
        else none)

/-! ## Sector translation -/

/-- DESCRIPTOR (R25 to R29): a descriptor that a check refuses is answered at once and enters nothing; one that no check refuses
becomes the last record of the DQ, as the table of R28 fills it, and a SCRUB marks its order answered. Where STU has no current
transfer it takes the oldest queued one with untranslated addresses: the new one at once, where there is no other; where it has
one, the new one waits. No other record changes, and nothing else does. -/
def Obligations.DescriptorAdmission : Prop :=
  ∀ (kind tag stream : Byte) (a : BitVec 48) (n : BitVec 16) (slot : Byte) (s : State), LinkTakes s →
    (∀ x, admission kind tag stream a.toNat n.toNat slot s = some x →
      exec (.descriptor kind tag stream a n slot) s =
        .next (settle { s with link := { s.link with outbound := s.link.outbound ++ [.completion
          { tag := tag, status := x, processed := 0, refused := n.toNat,
            firstRefusal := if n = 0 then none else some (a.toNat, x) } false] } })) ∧
    (admission kind tag stream a.toNat n.toNat slot s = none →
      ∃ (x : State) (k : Kind) (r : Transfer), exec (.descriptor kind tag stream a n slot) s = .next (settle x) ∧
        kindOf kind = some k ∧ x.dq.map Transfer.tag = s.dq.map Transfer.tag ++ [tag] ∧ x.dq.getLast? = some r ∧
        r.kind = k ∧ r.first = a.toNat ∧ r.count = n.toNat ∧ r.progress = a.toNat ∧ r.processed = 0 ∧ r.refused = 0 ∧
        r.firstRefusal = none ∧ r.order = (if k = .scrub then some (Fin.ofNat 4 slot.toNat) else none) ∧
        r.tag = tag ∧ r.stream = decide (stream = 1) ∧
        (s.stu.current ≠ none → x.dq = s.dq ++ [r] ∧ r.stage = .queued ∧ x.stu = s.stu) ∧
        (s.stu.current = none → (∀ t ∈ s.dq, t.stage = .queued → transferEnd t ≤ t.progress) →
          x.dq = s.dq ++ [r] ∧ r.stage = .translating ∧ x.stu = { s.stu with current := some tag }) ∧
        (s.stu.current = none → ∀ t : Transfer,
          s.dq.find? (fun y => decide (y.progress < transferEnd y) && decide (y.stage = .queued)) = some t →
          x.dq = editRecord t.tag (fun y => { y with stage := .translating }) s.dq ++ [r] ∧ r.stage = .queued ∧
          x.stu = { s.stu with current := some t.tag }) ∧
        x = { s with
          dq := x.dq, stu := x.stu,
          wipe := if k = .scrub then
              { s.wipe with
                orders := put s.wipe.orders (Fin.ofNat 4 slot.toNat)
                  ((s.wipe.orders.get (Fin.ofNat 4 slot.toNat)).map fun o => { o with answered := true }) }
            else s.wipe })

/-- Which descriptors admission lets through (R25, R26): a READ or WRITE within the user capacity, or a SCRUB that matches an
open, unanswered order, with a free tag and room in the DQ; and the status of the first check that refuses any other, in the
order of the table. A kind is a byte: 0 READ, 1 WRITE, 2 SCRUB (R185). DescriptorAdmission says what the DESCRIPTOR then does.
-/
def Obligations.AdmittedWithinBounds : Prop :=
  ∀ (kind tag stream : Byte) (a n : Nat) (slot : Byte) (s : State),
    (admission kind tag stream a n slot s = none ↔
      n ≠ 0 ∧ stream.toNat ≤ 1 ∧ (∀ t ∈ s.dq, t.tag ≠ tag) ∧ s.dq.length < 32 ∧
        ((kind.toNat ≤ 1 ∧ a + n ≤ capacity s) ∨
          (kind = 2 ∧ slot.toNat ≤ 3 ∧ ∃ o, s.wipe.orders.get (Fin.ofNat 4 slot.toNat) = some o ∧ o.answered = false ∧
            o.first = a ∧ o.count = n))) ∧
    admission kind tag stream a n slot s =
      if n = 0 ∨ 2 < kind.toNat ∨ 1 < stream.toNat then some .badDescriptor
      else if ∃ t ∈ s.dq, t.tag = tag then some .dupTag
      else if 32 ≤ s.dq.length then some .queueFull
      else if kind.toNat ≤ 1 ∧ capacity s < a + n then some .outOfRange
      else if kind = 2 ∧ ¬(slot.toNat ≤ 3 ∧ ((s.wipe.orders.get (Fin.ofNat 4 slot.toNat)).any fun o =>
          decide (o.answered = false ∧ o.first = a ∧ o.count = n)) = true) then some .badOrder
      else none

/-- The cut points of a READ or WRITE are L while the cover is active, the start and the end of every used band 1 to 15, and S
in SPLIT (R30, R21); of a SCRUB, S in SPLIT alone (R31). A piece ends at the least cut point beyond its start, or at the
transfer's end (R30, R31), so that none straddles S in SPLIT or L of an active cover, and every address of a READ or WRITE piece
lies in the piece's band (R30, R32), where the ranges of the used bands keep R2. -/
def Obligations.PiecesAreCut : Prop :=
  (∀ (k : Kind) (s : State) (c : Nat), c ∈ cutPoints k s ↔
    (s.w.config.mode = .split ∧ c = s.w.config.split) ∨
      (k ≠ .scrub ∧
        ((0 < s.w.config.coverLength ∧ (flags s s.w.config.coverBand).readLocked = true ∧ c = s.w.config.coverLength) ∨
          ∃ b : BandId, b ≠ 0 ∧ (record s b).length ≠ 0 ∧
            (c = (record s b).start ∨ c = (record s b).start + (record s b).length)))) ∧
  (∀ (t : Transfer) (s : State),
    (s.w.config.mode = .split → t.progress < s.w.config.split → pieceEnd t s ≤ s.w.config.split) ∧
    (t.kind ≠ .scrub → 0 < s.w.config.coverLength → (flags s s.w.config.coverBand).readLocked = true →
      t.progress < s.w.config.coverLength → pieceEnd t s ≤ s.w.config.coverLength)) ∧
  (∀ (t : Transfer) (s : State), t.progress < transferEnd t →
    t.progress < pieceEnd t s ∧ pieceEnd t s ≤ transferEnd t ∧
    (pieceEnd t s = transferEnd t ∨ pieceEnd t s ∈ cutPoints t.kind s) ∧
    ∀ c ∈ cutPoints t.kind s, t.progress < c → pieceEnd t s ≤ c) ∧
  ∀ (t : Transfer) (s : State) (a : Nat), t.kind ≠ .scrub →
    RangesApart s →
    t.progress ≤ a → a < pieceEnd t s → bandOf s a = bandOf s t.progress

/-- A piece's outcome, the first row of the table that applies (R33, R32), and what an allowed piece relies on (R14, R21): a
band's piece outside ALARM and WIPING with its flag clear and its entry present, never below L while the cover is active; a
cover WRITE under the permit alone. -/
def Obligations.AllowedPieceIsGuarded : Prop :=
  (∀ (t : Transfer) (s : State), decide33 t s =
    if t.kind = .scrub then .allowed .fill
    else if theft s = .wiping then .refused .wiping
    else if theft s = .alarm then .refused .alarm
    else if coverActive s = true ∧ t.progress < s.w.config.coverLength then
      (if t.kind = .write ∧ s.coverPermit = false then .refused .covered else .allowed .cover)
    else if (t.kind = .read ∧ (flags s (bandOf s t.progress)).readLocked = true) ∨
        (t.kind = .write ∧ (flags s (bandOf s t.progress)).writeLocked = true) ∨
        present s (.band (bandOf s t.progress)) = false then .refused .locked
    else .allowed (.band (bandOf s t.progress))) ∧
  ∀ (t : Transfer) (s : State) (k : KeyName), decide33 t s = .allowed k →
    (t.kind = .scrub ↔ k = .fill) ∧
    (t.kind ≠ .scrub → barred s = false) ∧
    (k = .cover → coverActive s = true ∧ t.progress < s.w.config.coverLength ∧
      (t.kind = .write → s.coverPermit = true)) ∧
    ∀ b : BandId, k = .band b →
      b = bandOf s t.progress ∧ present s (.band b) = true ∧ (t.kind = .read → (flags s b).readLocked = false) ∧
      (t.kind = .write → (flags s b).writeLocked = false) ∧
      ¬(coverActive s = true ∧ t.progress < s.w.config.coverLength)

/-- The lane plan of a piece (R37, R38, R39): in every lane mode each address of the piece is one sector of one segment. In
SINGLE, SPLIT and STREAM the piece goes to one lane, in runs of 256 sectors from its first address upward with the last one
shorter; in STRIPE it is cut into chunks of 512, each divided by parity with the larger share to the lane of its first address.
-/
def Obligations.LanePlanCoversOnce : Prop :=
  ∀ (t : Transfer) (s : State) (k : KeyName) (n : Nat),
    (((lanePlan t s k n).flatMap fun x => (List.range x.2.count).map fun i => x.2.drive + i * x.2.stride).Perm
      ((List.range n).map fun i => t.progress + i)) ∧
    (∀ x ∈ lanePlan t s k n, 0 < x.2.count ∧ x.2.count ≤ 256 ∧ x.2.done = 0 ∧ x.2.epoch = (entry s k).epoch ∧
      x.2.key = k ∧ x.2.tag = t.tag ∧ x.2.media = mediaOf t s x.2.drive ∧
      x.2.stride = (if s.w.config.mode = .stripe then 2 else 1)) ∧
    (s.w.config.mode ≠ .stripe →
      (∀ x ∈ lanePlan t s k n, x.1 =
        match s.w.config.mode with
        | .split => if t.progress < s.w.config.split then .a else .b
        | .stream => if t.stream then .b else .a
        | _ => .a) ∧
      (lanePlan t s k n).map (fun x => (x.2.drive, x.2.count)) =
        (List.range ((n + 255) / 256)).map fun j => (t.progress + 256 * j, min 256 (n - 256 * j))) ∧
    (s.w.config.mode = .stripe →
      (lanePlan t s k n).map (fun x => (x.1, x.2.drive, x.2.count)) =
        (List.range ((n + 511) / 512)).flatMap fun j =>
          let c := t.progress + 512 * j
          let m := min 512 (n - 512 * j)
          (parityLane c, c, (m + 1) / 2) :: if m = 1 then [] else [(parityLane (c + 1), c + 1, m / 2)])

/-- TRANSLATE_PIECE on a piece that is refused (R35, R42): no segment is placed, its sectors are counted refused, the first
refusal is the lowest, and the progress becomes the piece's end. The status is WIPING or ALARM in that theft state; outside both
COVERED for a cover WRITE without the permit, and LOCKED for a piece of a band, not of the cover, whose flag for its direction
is set or whose entry is absent (R33, R32). -/
def Obligations.RefusedPieceCounts : Prop :=
  ∀ (s : State) (t : Transfer) (st : TStatus), s.stu.piece = none → s.stu.current = some t.tag → transfer s t.tag = some t →
    decide33 t s = .refused st → t.order = none → t.progress < transferEnd t →
    ∃ (x : State) (r : Transfer), exec .translatePiece s = .next (settle x) ∧ transfer x t.tag = some r ∧
      r.progress = pieceEnd t s ∧ r.refused = t.refused + (pieceEnd t s - t.progress) ∧ r.processed = t.processed ∧
      r.firstRefusal = firstRefusal t.firstRefusal t.progress st ∧ x.laneA = s.laneA ∧ x.laneB = s.laneB ∧
      x.keys = s.keys ∧ x.bands = s.bands ∧ x.w = s.w ∧ x.ks = s.ks ∧ x.stu.piece = none ∧ t.kind ≠ .scrub ∧
      ((st = .wiping ∧ theft s = .wiping) ∨ (st = .alarm ∧ theft s = .alarm) ∨
        (st = .covered ∧ barred s = false ∧ coverActive s = true ∧ t.progress < s.w.config.coverLength ∧ t.kind = .write ∧
          s.coverPermit = false) ∨
        (st = .locked ∧ barred s = false ∧ ¬(coverActive s = true ∧ t.progress < s.w.config.coverLength) ∧
          ((t.kind = .read ∧ (flags s (bandOf s t.progress)).readLocked = true) ∨
            (t.kind = .write ∧ (flags s (bandOf s t.progress)).writeLocked = true) ∨
            present s (.band (bandOf s t.progress)) = false)))

/-- TRANSLATE_PIECE on an allowed piece. Of at most 256 sectors in SINGLE with lane A at rest (R36, R37, R39, R46, R48): one
segment, taken as it is placed, with its FETCH or PULL handed and the timer at 256 ticks, or for SCRUB a FILL segment in
FILLING, with no message and no timer. In every lane mode, with a segment in flight in both lanes (R37, R38, R40; the plan is
that of LanePlanCoversOnce): each lane's queue takes its segments of the plan in the plan's order, and the progress becomes the
piece's end; at the first segment whose queue holds 16 translation pauses, with those before it placed and the piece kept. -/
def Obligations.AllowedPieceIsFetched : Prop :=
  (∀ (s : State) (t : Transfer) (g : Segment), s.stu.piece = none → s.stu.current = some t.tag →
    transfer s t.tag = some t → t.kind = .scrub → t.progress < transferEnd t → pieceEnd t s - t.progress ≤ 256 →
    s.w.config.mode = .single → s.laneA = Lane.idle → present s .fill = true →
    g = { tag := t.tag, direction := .fill, key := .fill, epoch := (entry s .fill).epoch, drive := t.progress,
          media := t.progress, stride := 1, count := pieceEnd t s - t.progress, done := 0 } →
    ∃ (x : State) (r : Transfer), exec .translatePiece s = .next (settle x) ∧
      x.laneA = { queue := [], inFlight := some g, state := .filling, timer := none } ∧ x.laneB = s.laneB ∧ x.link = s.link ∧
      transfer x t.tag = some r ∧ r.progress = pieceEnd t s ∧ x.stu.piece = none ∧ x.keys = s.keys ∧ x.bands = s.bands ∧
      x.w = s.w ∧ x.ks = s.ks) ∧
  (∀ (s : State) (t : Transfer) (k : KeyName) (plan : List (LaneId × Segment)), s.stu.piece = none →
    s.stu.current = some t.tag → transfer s t.tag = some t → decide33 t s = .allowed k → t.progress < transferEnd t →
    (∀ l : LaneId, (lane l s).inFlight ≠ none) → plan = lanePlan t s k (pieceEnd t s - t.progress) →
    ((∀ l : LaneId, (lane l s).queue.length + (plan.filter fun y => y.1 = l).length ≤ 16) →
      ∃ (x : State) (r : Transfer), exec .translatePiece s = .next (settle x) ∧
        (∀ l : LaneId, lane l x =
          { lane l s with queue := (lane l s).queue ++ ((plan.filter fun y => y.1 = l).map fun y => y.2) }) ∧
        transfer x t.tag = some r ∧ r.progress = pieceEnd t s ∧ x.stu.piece = none ∧ x.link = s.link ∧ x.keys = s.keys ∧
        x.bands = s.bands ∧ x.w = s.w ∧ x.ks = s.ks) ∧
    ∀ (pre post : List (LaneId × Segment)) (l : LaneId) (g : Segment), plan = pre ++ (l, g) :: post →
      (∀ j : LaneId, (lane j s).queue.length + (pre.filter fun y => y.1 = j).length ≤ 16) →
      (lane l s).queue.length + (pre.filter fun y => y.1 = l).length = 16 →
      ∃ x : State, exec .translatePiece s = .next (settle x) ∧
        (∀ j : LaneId, lane j x =
          { lane j s with queue := (lane j s).queue ++ ((pre.filter fun y => y.1 = j).map fun y => y.2) }) ∧
        x.stu.current = s.stu.current ∧ x.stu.paused = true ∧
        x.stu.piece = some { first := t.progress, count := pieceEnd t s - t.progress, outcome := .allowed k, key := k,
                             epoch := (entry s k).epoch, plan := plan, next := pre.length } ∧
        x.dq = s.dq ∧ x.link = s.link ∧ x.keys = s.keys ∧ x.bands = s.bands ∧ x.w = s.w ∧ x.ks = s.ks) ∧
  ∀ (s : State) (t : Transfer) (k : KeyName), s.stu.piece = none → s.stu.current = some t.tag → transfer s t.tag = some t →
    decide33 t s = .allowed k → t.kind ≠ .scrub → t.progress < transferEnd t → pieceEnd t s - t.progress ≤ 256 →
    s.w.config.mode = .single → s.laneA = Lane.idle →
    (k = .cover → present s .cover = true) →
    ∃ (x : State) (g : Segment), exec .translatePiece s = .next (settle x) ∧
      g = { tag := t.tag, direction := directionOf t.kind, key := k, epoch := (entry s k).epoch, drive := t.progress,
            media := if k = .cover then capacity s + t.progress else t.progress, stride := 1,
            count := pieceEnd t s - t.progress, done := 0 } ∧
      x.laneA = { queue := [], inFlight := some g, state := .awaiting, timer := some 256 } ∧ x.laneB = s.laneB ∧
      x.link.outbound = s.link.outbound ++
        [if t.kind = .read then .fetch t.tag g.media 1 g.count else .pull t.tag t.progress g.media 1 g.count] ∧
      x.keys = s.keys ∧ x.bands = s.bands ∧ x.w = s.w ∧ x.ks = s.ks

/-- TRANSLATION_RESUME (R40): once the queue that the waiting segment needs has room, the segment joins its tail as it was
planned. -/
def Obligations.PausedSegmentJoinsItsQueue : Prop :=
  ∀ (s : State) (t : Transfer) (x : Piece) (l : LaneId) (g f : Segment), s.stu.piece = some x → s.stu.paused = true →
    s.stu.current = some t.tag → transfer s t.tag = some t → x.plan[x.next]? = some (l, g) →
    (lane l s).inFlight = some f → (lane l s).queue.length < 16 →
    ∃ y, exec .translationResume s = .next (settle y) ∧
      ((lane l s).queue ++ [g]) <+: (lane l y).queue ∧ (lane l y).inFlight = some f

/-! ## Cipher lanes -/

/-- The awaited sector of a lane (R51, R52, R54, R57). CIPHER_SECTOR of a READ is deciphered and handed under its drive address;
PLAIN_SECTOR of a WRITE is enciphered and handed under its media address. The key is the live key and the tweak the media
address; the sector is counted. With more to come the timer starts afresh; with the segment's last sector the lane, with nothing
queued, is IDLE, and where that was the transfer's last the COMPLETION follows the sector. -/
def Obligations.AwaitedSectorIsTransformed : Prop :=
  (∀ (l : LaneId) (s : State) (g : Segment) (k : MediaKey) (a : BitVec 48) (data : List Byte) (t : Transfer), LinkTakes s →
    (lane l s).inFlight = some g → (lane l s).state = .awaiting → g.done + 1 < g.count → 0 < g.stride →
    data.length = sectorSize s → (entry s g.key).key = some k → (entry s g.key).epoch = g.epoch →
    transfer s g.tag = some t → t.processed + 1 + t.refused < t.count →
    (l = .b → matching .a g.direction g.tag a.toNat s = none) →
    (g.direction = .read → a.toNat = g.media + g.done * g.stride →
      exec (.cipherSector g.tag a data) s = .next (settle
        (setLane l { lane l s with inFlight := some { g with done := g.done + 1 }, timer := some 256 } { s with
          link := { s.link with outbound := s.link.outbound ++
            [.plainSector g.tag (g.drive + g.done * g.stride) (decipher k (g.media + g.done * g.stride) data)] },
          dq := editRecord g.tag (fun r => { r with processed := r.processed + 1 }) s.dq }))) ∧
    (g.direction = .write → a.toNat = g.drive + g.done * g.stride →
      exec (.plainSector g.tag a data) s = .next (settle
        (setLane l { lane l s with inFlight := some { g with done := g.done + 1 }, timer := some 256 } { s with
          link := { s.link with outbound := s.link.outbound ++
            [.cipherSector g.tag (g.media + g.done * g.stride) (encipher k (g.media + g.done * g.stride) data)] },
          dq := editRecord g.tag (fun r => { r with processed := r.processed + 1 }) s.dq })))) ∧
  ∀ (l : LaneId) (s : State) (g : Segment) (k : MediaKey) (a : BitVec 48) (data : List Byte) (t : Transfer) (c : Instr)
    (m : OutMsg), LinkTakes s →
    (lane l s).inFlight = some g → (lane l s).state = .awaiting → g.done + 1 = g.count → (lane l s).queue = [] →
    0 < g.stride → data.length = sectorSize s → (entry s g.key).key = some k → (entry s g.key).epoch = g.epoch →
    transfer s g.tag = some t → t.order = none → t.stage ≠ .completing →
    (l = .b → matching .a g.direction g.tag a.toNat s = none) →
    ((g.direction = .read ∧ a.toNat = g.media + g.done * g.stride ∧ c = .cipherSector g.tag a data ∧
        m = .plainSector g.tag (g.drive + g.done * g.stride) (decipher k (g.media + g.done * g.stride) data)) ∨
      (g.direction = .write ∧ a.toNat = g.drive + g.done * g.stride ∧ c = .plainSector g.tag a data ∧
        m = .cipherSector g.tag (g.media + g.done * g.stride) (encipher k (g.media + g.done * g.stride) data))) →
    ∃ (x : State) (r : Transfer), exec c s = .next (settle x) ∧ lane l x = Lane.idle ∧
      (∀ j : LaneId, j ≠ l → lane j x = lane j s) ∧ transfer x g.tag = some r ∧ r.processed = t.processed + 1 ∧
      r.refused = t.refused ∧ x.keys = s.keys ∧ x.bands = s.bands ∧ x.w = s.w ∧ x.ks = s.ks ∧
      (t.processed + 1 + t.refused ≠ t.count → x.link.outbound = s.link.outbound ++ [m]) ∧
      (t.processed + 1 + t.refused = t.count → ∃ d : Completion,
        x.link.outbound = s.link.outbound ++ [m, .completion d true] ∧ d.tag = g.tag ∧ d.processed = t.processed + 1 ∧
        d.refused = t.refused)

/-- FILL_SECTOR (R53, R68): a sector of zero bytes is enciphered under the FILL entry's key and handed, with no timer; with the
segment's last sector the lane, with nothing queued, is IDLE. While the outbound queue holds 64 messages the lane waits. The
sector that is the last of its SCRUB transfer is followed by the COMPLETION, which closes the transfer's order with its counts
(R61, R72, R144): with the other slots taken the next order goes to the slot it freed; with no other order open and the issue
point at E the pass ends, with its result stored and the FILL entry removed (R147, R149). -/
def Obligations.FillSectorIsMade : Prop :=
  (∀ (l : LaneId) (s : State) (g : Segment) (k : MediaKey) (t : Transfer) (i : OrderSlot) (o : Order),
    (lane l s).inFlight = some g → (lane l s).state = .filling → g.direction = .fill → s.link.outbound.length < 64 →
    linkUp s = true → g.done + 1 = g.count → (lane l s).queue = [] → (entry s g.key).key = some k →
    (entry s g.key).epoch = g.epoch → transfer s g.tag = some t → t.processed + 1 + t.refused = t.count →
    t.stage ≠ .completing → t.order = some i → s.wipe.orders.get i = some o → s.wipe.running = true →
    ((s.wipe.issuePoint < scrubEnd s ∧ ∀ j : OrderSlot, j ≠ i → (s.wipe.orders.get j).isSome = true) ∨
      (scrubEnd s ≤ s.wipe.issuePoint ∧ (∀ j : OrderSlot, j ≠ i → s.wipe.orders.get j = none) ∧ ScrubInWiping s)) →
    ∃ (x : State) (r : Transfer) (d : Completion) (n : Nat) (m : OutMsg), exec (.fillSector l) s = .next (settle x) ∧
      lane l x = Lane.idle ∧ (∀ j : LaneId, j ≠ l → lane j x = lane j s) ∧ transfer x g.tag = some r ∧
      r.stage = .completing ∧ r.processed = t.processed + 1 ∧ d.tag = g.tag ∧ d.processed = t.processed + 1 ∧
      d.refused = t.refused ∧ n = min 256 (scrubEnd s - s.wipe.issuePoint) ∧
      m = .cipherSector g.tag (g.media + g.done * g.stride)
        (encipher k (g.media + g.done * g.stride) (List.replicate (sectorSize s) 0)) ∧
      (s.wipe.issuePoint < scrubEnd s → x.wipe.running = true ∧
        x.wipe.written = min (s.wipe.written + (t.processed + 1)) Config.passCountTop ∧
        x.wipe.refused = min (s.wipe.refused + t.refused) Config.passCountTop ∧
        x.wipe.issuePoint = s.wipe.issuePoint + n ∧
        (∀ j : OrderSlot, x.wipe.orders.get j =
          if j = i then some { pass := s.w.plan.pass, first := s.wipe.issuePoint, count := n, answered := false }
          else s.wipe.orders.get j) ∧
        x.link.outbound = s.link.outbound ++
          [m, .completion d true, .scrubOrder i s.w.plan.pass s.wipe.issuePoint n] ∧
        x.keys = s.keys ∧ x.bands = s.bands) ∧
      (scrubEnd s ≤ s.wipe.issuePoint → x.wipe.running = false ∧ (∀ j : OrderSlot, x.wipe.orders.get j = none) ∧
        x.keys.fill = removed s.keys.fill ∧ m ∈ x.link.outbound ∧ .completion d true ∈ x.link.outbound ∧
        StoresResult (if s.w.plan.stop then .stopped else .complete) s.w.plan.pass
          (min (s.wipe.written + (t.processed + 1)) Config.passCountTop)
          (min (s.wipe.refused + t.refused) Config.passCountTop) s x)) ∧
  ∀ (l : LaneId) (s : State) (g : Segment) (k : MediaKey) (t : Transfer),
    (lane l s).inFlight = some g → (lane l s).state = .filling → g.direction = .fill →
    (64 ≤ s.link.outbound.length → exec (.fillSector l) s = .next (settle s)) ∧
    (s.link.outbound.length < 64 → (lane l s).timer = none → g.done + 1 < g.count → (entry s g.key).key = some k →
      (entry s g.key).epoch = g.epoch → transfer s g.tag = some t → t.processed + 1 + t.refused < t.count →
      exec (.fillSector l) s = .next (settle
        (setLane l { lane l s with inFlight := some { g with done := g.done + 1 } } { s with
          link := { s.link with outbound := s.link.outbound ++
            [.cipherSector g.tag (g.media + g.done * g.stride)
              (encipher k (g.media + g.done * g.stride) (List.replicate (sectorSize s) 0))] },
          dq := editRecord g.tag (fun r => { r with processed := r.processed + 1 }) s.dq }))) ∧
    (s.link.outbound.length < 64 → g.done + 1 = g.count → (lane l s).queue = [] → (entry s g.key).key = some k →
      (entry s g.key).epoch = g.epoch → transfer s g.tag = some t → t.processed + 1 + t.refused < t.count →
      exec (.fillSector l) s = .next (settle
        (setLane l Lane.idle { s with
          link := { s.link with outbound := s.link.outbound ++
            [.cipherSector g.tag (g.media + g.done * g.stride)
              (encipher k (g.media + g.done * g.stride) (List.replicate (sectorSize s) 0))] },
          dq := editRecord g.tag (fun r => { r with processed := r.processed + 1 }) s.dq })))

/-- A sector that is not the one awaited. One that matches no segment in flight, by its kind, its tag or its address, changes no
state (R54). One that matches out of order ends its segment, with the remaining sectors refused SEQUENCE_ERROR from the one
awaited, and the lane, with nothing queued, is IDLE (R55, R50). -/
def Obligations.UnmatchedSectorDiscarded : Prop :=
  (∀ (s : State) (tag : Byte) (a : BitVec 48) (data : List Byte), LinkTakes s →
    ((∀ l g, (lane l s).inFlight = some g → (lane l s).state = .awaiting → g.direction = .read → g.tag = tag →
        ∀ i, i < g.count → a.toNat ≠ g.media + i * g.stride) →
      (∀ l g, (lane l s).inFlight = some g → 0 < g.stride) →
      exec (.cipherSector tag a data) s = .next (settle s)) ∧
    ((∀ l g, (lane l s).inFlight = some g → (lane l s).state = .awaiting → g.direction = .write → g.tag = tag →
        ∀ i, i < g.count → a.toNat ≠ g.drive + i * g.stride) →
      (∀ l g, (lane l s).inFlight = some g → 0 < g.stride) →
      exec (.plainSector tag a data) s = .next (settle s))) ∧
  ∀ (l : LaneId) (s : State) (g : Segment) (t : Transfer) (i : Nat) (a : BitVec 48) (data : List Byte) (c : Instr),
    LinkTakes s → (lane l s).inFlight = some g → (lane l s).state = .awaiting → (lane l s).queue = [] → 0 < g.stride →
    data.length = sectorSize s → transfer s g.tag = some t → t.order = none →
    (l = .b → matching .a g.direction g.tag a.toNat s = none) → i < g.count → i ≠ g.done →
    ((g.direction = .read ∧ a.toNat = g.media + i * g.stride ∧ c = .cipherSector g.tag a data) ∨
      (g.direction = .write ∧ a.toNat = g.drive + i * g.stride ∧ c = .plainSector g.tag a data)) →
    ∃ (x : State) (r : Transfer), exec c s = .next (settle x) ∧ lane l x = Lane.idle ∧
      (∀ j : LaneId, j ≠ l → lane j x = lane j s) ∧
      transfer x g.tag = some r ∧ r.refused = t.refused + (g.count - g.done) ∧ r.processed = t.processed ∧
      r.firstRefusal = firstRefusal t.firstRefusal (g.drive + g.done * g.stride) .sequenceError ∧
      x.keys = s.keys ∧ x.bands = s.bands ∧ x.w = s.w ∧ x.ks = s.ks

/-- DATA_TIMEOUT (R56, R50): the segment ends with its remaining sectors refused DATA_TIMEOUT from the one awaited, and the
lane, with nothing queued, is IDLE; a lane whose timer has not run out is left as it is. A TICK before which that command was
not taken, with no other timer at its end, does the same first (entry 2), and then counts. The key check (R47) passes for a
present entry at the epoch recorded; it gives RECONFIGURED at another epoch, and for an absent entry ALARM, WIPING or LOCKED by
the theft state. A queued segment that the lane takes and whose check fails is refused whole by that status (R46, R48). A change
of live keys under a segment in flight ends it in the same way, by the status of its check (R49): SUSPEND, which closes its
band, with LOCKED, and the end of the grace with ALARM, or under the action WIPE with WIPING. -/
def Obligations.DataTimeoutEndsSegment : Prop :=
  (∀ (l : LaneId) (s : State) (g : Segment) (t : Transfer), (lane l s).inFlight = some g → (lane l s).state = .awaiting →
    ((lane l s).timer ≠ some 0 → exec (.dataTimeout l) s = .next (settle s)) ∧
    ((lane l s).timer = some 0 → (lane l s).queue = [] → transfer s g.tag = some t → t.order = none →
      ∃ (x : State) (r : Transfer), exec (.dataTimeout l) s = .next (settle x) ∧ lane l x = Lane.idle ∧
        (∀ k : LaneId, k ≠ l → lane k x = lane k s) ∧
        transfer x g.tag = some r ∧ r.refused = t.refused + (g.count - g.done) ∧ r.processed = t.processed ∧
        r.firstRefusal = firstRefusal t.firstRefusal (g.drive + g.done * g.stride) .dataTimeout ∧
        x.keys = s.keys ∧ x.bands = s.bands ∧ x.w = s.w ∧ x.ks = s.ks) ∧
    ((lane l s).timer = some 0 → (lane l s).queue = [] → transfer s g.tag = some t → t.order = none → s.mode = .ready →
      s.twu.meterOn = false → (∀ k : LaneId, k ≠ l → timedOut k s = false) → theft s ≠ .suspect →
      checkinAsserted s = false → ∀ sup e : Bool, ∃ (x : State) (r : Transfer),
        exec (.tick s.twu.tamperOpen sup e) s = .next (settle x) ∧ lane l x = Lane.idle ∧
        (∀ k : LaneId, k ≠ l → lane k x = laneTick (lane k s)) ∧ (∀ i : SlotId, backoffOf x i = backoffOf s i - 1) ∧
        transfer x g.tag = some r ∧ r.refused = t.refused + (g.count - g.done) ∧ r.processed = t.processed ∧
        r.firstRefusal = firstRefusal t.firstRefusal (g.drive + g.done * g.stride) .dataTimeout ∧
        x.keys = s.keys ∧ x.bands = s.bands ∧ x.w = s.w ∧ x.ks = s.ks)) ∧
  (∀ (s : State) (k : KeyName) (e : BitVec 32), keyCheck s k e =
    if present s k = true then (if (entry s k).epoch = e then none else some .reconfigured)
    else if theft s = .alarm then some .alarm
    else if theft s = .wiping then some .wiping
    else some .locked) ∧
  (∀ (l : LaneId) (s : State) (g q : Segment) (t u : Transfer) (st : TStatus), (lane l s).inFlight = some g →
    (lane l s).state = .awaiting → (lane l s).timer = some 0 → (lane l s).queue = [q] → transfer s g.tag = some t →
    t.order = none → transfer s q.tag = some u → u.order = none → q.tag ≠ g.tag → keyCheck s q.key q.epoch = some st →
    ∃ (x : State) (r v : Transfer), exec (.dataTimeout l) s = .next (settle x) ∧ lane l x = Lane.idle ∧
      transfer x g.tag = some r ∧ r.refused = t.refused + (g.count - g.done) ∧ r.processed = t.processed ∧
      r.firstRefusal = firstRefusal t.firstRefusal (g.drive + g.done * g.stride) .dataTimeout ∧
      transfer x q.tag = some v ∧ v.refused = u.refused + q.count ∧ v.processed = u.processed ∧
      v.firstRefusal = firstRefusal u.firstRefusal q.drive st ∧
      x.keys = s.keys ∧ x.bands = s.bands ∧ x.w = s.w ∧ x.ks = s.ks) ∧
  (∀ (l : LaneId) (s : State) (g : Segment) (t : Transfer) (b : BandId) (p : Policy), linkUp s = true →
    theft s = .suspect → s.twu.grace = 0 → s.w.watch.policy = some p → (lane l s).inFlight = some g → (lane l s).queue = [] →
    (∀ j : LaneId, j ≠ l → (lane j s).inFlight = none ∧ (lane j s).queue = []) → g.key = .band b →
    transfer s g.tag = some t → t.order = none → ScrubInWiping s →
    ∃ (x : State) (r : Transfer), exec .graceExpired s = .next (settle x) ∧ present x (.band b) = false ∧
      lane l x = Lane.idle ∧ transfer x g.tag = some r ∧ r.refused = t.refused + (g.count - g.done) ∧
      r.processed = t.processed ∧
      (p.action = .lockdown → theft x = .alarm ∧
        r.firstRefusal = firstRefusal t.firstRefusal (g.drive + g.done * g.stride) .alarm) ∧
      (p.action = .wipe → theft x = .wiping ∧
        r.firstRefusal = firstRefusal t.firstRefusal (g.drive + g.done * g.stride) .wiping)) ∧
  ∀ (l : LaneId) (s : State) (g : Segment) (t : Transfer) (b : BandId), linkUp s = true → (lane l s).inFlight = some g →
    (lane l s).queue = [] → (∀ j : LaneId, j ≠ l → (lane j s).inFlight = none ∧ (lane j s).queue = []) →
    g.key = .band b → lockActs s b = true → (record s b).relock.getLsbD 0 = true → (record s b).rle = true →
    closed (flags s b) = false → transfer s g.tag = some t → t.order = none →
    ∃ (x : State) (r : Transfer), exec .suspend s = .next x ∧ present x (.band b) = false ∧ lane l x = Lane.idle ∧
      transfer x g.tag = some r ∧ r.refused = t.refused + (g.count - g.done) ∧ r.processed = t.processed ∧
      r.firstRefusal = firstRefusal t.firstRefusal (g.drive + g.done * g.stride) .locked ∧ x.w = s.w ∧ x.ks = s.ks

/-- A transfer's COMPLETION (R43, R72): when the sectors counted make up its count, it is handed, with those counts, the lowest
refusal, and its status, OK where none was refused, and the record enters COMPLETING; until then nothing is handed. -/
def Obligations.CompletionAccountsForEverySector : Prop :=
  ∀ (s : State) (tag : Byte) (n a : Nat) (x : Option TStatus) (t : Transfer), transfer s tag = some t → t.order = none →
    t.stage ≠ .completing →
    (t.processed + t.refused + n = t.count →
      ∃ (c : Completion) (r : Transfer), (report tag n a x s).link.outbound = s.link.outbound ++ [.completion c true] ∧
        transfer (report tag n a x s) tag = some r ∧ r.stage = .completing ∧ c.tag = tag ∧
        c.processed = t.processed + (if x = none then n else 0) ∧ c.refused = t.refused + (if x = none then 0 else n) ∧
        c.processed + c.refused = t.count ∧
        c.firstRefusal =
          (match x with
           | some y => firstRefusal t.firstRefusal a y
           | none => t.firstRefusal) ∧
        (c.refused = 0 → c.status = .ok) ∧ ∀ b y, c.refused ≠ 0 → c.firstRefusal = some (b, y) → c.status = y) ∧
    (t.processed + t.refused + n ≠ t.count →
      (report tag n a x s).link.outbound = s.link.outbound ∧
      ∃ r, transfer (report tag n a x s) tag = some r ∧ r.stage = t.stage ∧
        r.processed = t.processed + (if x = none then n else 0) ∧ r.refused = t.refused + if x = none then 0 else n)

/-! ## Scrub orders -/

/-- SCRUB_REFUSE (R75, R144, R143): it closes an open, unanswered order with its whole count refused, and with the other slots
taken the next order goes to the slot it freed; a slot that holds no order, an order answered already, or no slot at all, and
the message is discarded. A closing that takes the watermark over a multiple of 65,536 is a checkpoint: the plan takes the
watermark and the counts, and the journal is queued (R146). The closing that leaves no order open with the issue point at E ends
the pass (R147): the FILL entry is removed, a result is stored (R149), and the wipe reaches DONE (R148) or names its next pass.
-/
def Obligations.ScrubRefusalClosesItsOrder : Prop :=
  ∀ (o : Byte) (s : State), LinkTakes s →
    ((∀ i : OrderSlot, o.toNat = i.val → ∀ x, s.wipe.orders.get i = some x → x.answered = true) →
      exec (.scrubRefuse o) s = .next (settle s)) ∧
    (∀ (i : OrderSlot) (x : Order), o.toNat = i.val → s.wipe.orders.get i = some x → x.answered = false →
      s.wipe.running = true → s.wipe.issuePoint < scrubEnd s →
      (∀ j : OrderSlot, j ≠ i → (s.wipe.orders.get j).isSome = true) →
      ∃ y, exec (.scrubRefuse o) s = .next (settle y) ∧
        y.wipe.refused = min (s.wipe.refused + x.count) Config.passCountTop ∧
        y.wipe.written = min s.wipe.written Config.passCountTop ∧
        y.wipe.issuePoint = s.wipe.issuePoint + min 256 (scrubEnd s - s.wipe.issuePoint) ∧
        (∀ j : OrderSlot, y.wipe.orders.get j =
          if j = i then
            some { pass := s.w.plan.pass, first := s.wipe.issuePoint,
                   count := min 256 (scrubEnd s - s.wipe.issuePoint), answered := false }
          else s.wipe.orders.get j) ∧
        y.link.outbound = s.link.outbound ++
          [.scrubOrder i s.w.plan.pass s.wipe.issuePoint (min 256 (scrubEnd s - s.wipe.issuePoint))] ∧
        y.w = { s.w with plan := y.w.plan } ∧ y.keys = s.keys ∧ y.bands = s.bands ∧ y.dq = s.dq ∧ y.laneA = s.laneA ∧
        y.laneB = s.laneB ∧
        (watermark s / 65536 = watermark y / 65536 → y.w.plan = s.w.plan ∧ y.ks = s.ks) ∧
        (watermark s / 65536 < watermark y / 65536 → Carried journalPage y ∧ y.w.plan =
          { s.w.plan with watermark := watermark y, written := y.wipe.written, refused := y.wipe.refused })) ∧
    ∀ (i : OrderSlot) (x : Order) (ended : Ended) (written refused : Nat), o.toNat = i.val → s.wipe.orders.get i = some x →
      x.answered = false → s.wipe.running = true → scrubEnd s ≤ s.wipe.issuePoint →
      (∀ j : OrderSlot, j ≠ i → s.wipe.orders.get j = none) → ScrubInWiping s →
      ended = (if s.w.plan.stop then .stopped else .complete) → written = min s.wipe.written Config.passCountTop →
      refused = min (s.wipe.refused + x.count) Config.passCountTop →
      ∃ y, exec (.scrubRefuse o) s = .next (settle y) ∧ StoresResult ended s.w.plan.pass written refused s y ∧
        y.wipe.running = false ∧ (∀ j : OrderSlot, y.wipe.orders.get j = none) ∧ y.keys.fill = removed s.keys.fill ∧
        y.keys.cover = s.keys.cover ∧
        (s.w.plan.stop = true ∨ (∃ n : Fin 4, s.w.plan.passes = .times n ∧ s.w.plan.pass = n.val) → ReachesDone s y) ∧
        (s.w.plan.stop = false → (∀ n : Fin 4, s.w.plan.passes = .times n → s.w.plan.pass ≠ n.val) →
          theft y = .wiping ∧ y.wipe.activity = .passWait ∧ Carried journalPage y ∧ y.bands = s.bands ∧
          y.w.plan = { s.w.plan with
            phase := .scrub, pass := if s.w.plan.pass = 65535 then 1 else s.w.plan.pass + 1, watermark := 0, written := 0,
            refused := 0 })

/-! ## Requests -/

/-- UNLOCK, TOKEN_UNLOCK, SET_CRED, GRANT, REVOKE, BAND_SET, BAND_ERASE, DRIVE_SET, COVER_OPEN, WATCH_ARM, WATCH_DISARM,
WATCH_RECOVER, REMOTE_WIPE, WIPE_NOW and SCRUB_STOP: a request that presents a secret, once it passes every check and refusal,
is charged before it is verified (R80 to R82, R97 to R99, R81): the slot's count rises by one, a user or platform slot that
reaches its limit is DISABLED, and the mailbox holds the request, started, until its attempt page is written and the other pages
of its charge have room (R158; entry 48). BUDGET is re-evaluated in the act of the charge: with BUDGET enabled, a failure sum
that reaches the limit enters SUSPECT with cause BUDGET from ARMED, and ALARM, or by the policy WIPING, where the grace period
is 0 and from SUSPECT of another cause; a charge that disables a slot can return SUSPECT to ARMED (R114, R124, R130 to R132). In
DORMANT nothing else of the part changes. A count that stands at its hard limit stays, no page is queued, and the verify job is
handed at once, the request started (entry 34). The refusals of the flow stand in their order: the theft state, EMPTY, DISABLED,
the backoff, the supply. A request over the sideband leaves the pointer behind the submit byte (entry 10). -/
def Obligations.ChargeBeforeVerify : Prop :=
  (∀ (c : Instr) (p : Port) (e : Envelope) (i : SlotId) (s : State), requestOf c = some (p, e) →
    slotPresented e.body = some i → PortTakes p s → box p s = none → mailboxCheck p e.body s = none →
    ownerCheck e.body s = none → flowRefusal e.body i s = none → count s i = (cred s i).hard →
    exec c s = .next (settle (handMailbox p .verify
      (setBox p (some { env := e, started := true, stage := .verifying, room := [] }) (submitted p s))))) ∧
  (∀ (body : Body) (i : SlotId) (s : State), slotPresented body = some i →
    ((theft s = .alarm ∧ (∀ y, body ≠ .watchRecover y) ∧ ∀ y, body ≠ .remoteWipe y) ∨
        (theft s = .wiping ∧ ∀ y, body ≠ .scrubStop y) ∨ (theft s = .wiped ∧ ((cred s 0).state ≠ .blank ∨ i ≠ 0)) →
      flowRefusal body i s = some .denied) ∧
    (¬((theft s = .alarm ∧ (∀ y, body ≠ .watchRecover y) ∧ ∀ y, body ≠ .remoteWipe y) ∨
        (theft s = .wiping ∧ ∀ y, body ≠ .scrubStop y) ∨ (theft s = .wiped ∧ ((cred s 0).state ≠ .blank ∨ i ≠ 0))) →
      flowRefusal body i s =
        if (cred s i).state = .empty then some .slotEmpty
        else if (cred s i).state = .disabled then some .slotDisabled
        else if 0 < backoffOf s i then some .wait
        else if s.supplyOk = false then some .lowPower
        else none)) ∧
  ∀ (c : Instr) (p : Port) (e : Envelope) (i : SlotId) (s : State), requestOf c = some (p, e) →
    slotPresented e.body = some i → PortTakes p s → box p s = none → mailboxCheck p e.body s = none →
    ownerCheck e.body s = none → flowRefusal e.body i s = none → count s i < (cred s i).hard → ScrubInWiping s →
    ∃ x, exec c s = .next (settle x) ∧
      (∃ room, box p x = some { env := e, started := true, stage := .charged, room := room } ∧
        ∀ q : PageId, q ∈ room ↔ onList x.ks.room q = true ∧ pageOf s q ≠ pageOf x q) ∧
      box (otherPort p) x = box (otherPort p) s ∧
      (∀ j : SlotId, count x j = if j = i then count s i + 1 else count s j) ∧
      (∀ j : SlotId, cred x j =
        if j = i ∧ i ≠ 0 ∧ count s i + 1 = (cred s i).hard then { cred s i with state := .disabled } else cred s j) ∧
      x.backoff = s.backoff ∧ x.engine = s.engine ∧ x.w.root = s.w.root ∧ x.w.secrets = s.w.secrets ∧
      x.w.bands = s.w.bands ∧ x.w.config = s.w.config ∧ x.coverPermit = s.coverPermit ∧
      Carried (attemptPage i) x ∧
      (reference s (attemptPage i) ≠ some (.attempt (count s i + 1)) → waits (.request p) x = true) ∧
      BudgetFollows s x ∧
      (theft s = .dormant →
        x.w.watch = s.w.watch ∧ x.w.plan = s.w.plan ∧ x.wipe = s.wipe ∧ x.twu = s.twu ∧ x.keys = s.keys ∧
        x.bands = s.bands ∧ x.link = s.link ∧ x.dq = s.dq ∧ x.laneA = s.laneA ∧ x.laneB = s.laneB ∧
        x.psp = (submitted p s).psp)

/-- A request turned away costs nothing (R81, R82, R97, R98): while its mailbox holds another it is answered BUSY; else the
first check of the mailbox, of the owner or of the flow that fails gives the status, WAIT with the seconds left. The answer is
all that changes, but that a request over the sideband leaves the pointer behind the submit byte (entry 10). The mailbox's
checks are those of R82: the port, the parts, the theft state. The owners' are those of R15 (an undefined enable bit: entry 25),
R19, R20, R59, R104, R108, R111, R112, R118 to R121, R134, R151 and R152. Which status is given where several checks of R15,
R20, R108 or R111 fail is the model's choice (entry 30: the first of the table or list), and so is the order of DRIVE_SET's
groups (entry 17). -/
def Obligations.RefusalCostsNothing : Prop :=
  (∀ (s : State) (body : Body),
    ((∀ y a, body ≠ .tokenUnlock y a) → (∀ y, body ≠ .remoteWipe y) → body ≠ .statusQuery →
      mailboxCheck .side body s = some .badArgument) ∧
    ((∃ y a, body = .tokenUnlock y a) ∨ (∃ y, body = .remoteWipe y) ∨ (∃ k, body = .undefined k) →
      mailboxCheck .link body s = some .badArgument) ∧
    ∀ p : Port, (complete body = false → mailboxCheck p body s = some .badArgument) ∧
      (complete body = true → (p = .link ↔ (∀ y a, body ≠ .tokenUnlock y a) ∧ ∀ y, body ≠ .remoteWipe y) ∨
          body = .statusQuery →
        (theft s = .wiping → (∀ y, body ≠ .scrubStop y) → body ≠ .statusQuery → mailboxCheck p body s = some .denied) ∧
        (theft s ≠ .wiping ∨ (∃ y, body = .scrubStop y) ∨ body = .statusQuery → mailboxCheck p body s = none))) ∧
  ((∀ n y a, complete (.unlock n y a) = true ↔ (∃ m, n = some m ∧ m.toNat ≤ 7) ∧ y ≠ none ∧ a ≠ none) ∧
    (∀ y a, complete (.tokenUnlock y a) = true ↔ y ≠ none ∧ a ≠ none) ∧ (∀ v, complete (.lock v) = true ↔ v ≠ none) ∧
    (∀ y, complete (.own y) = true ↔ y ≠ none) ∧
    (∀ y a n, complete (.setCred y a n) = true ↔ y ≠ none ∧ a ≠ none) ∧
    (∀ y a n, complete (.grant y a n) = true ↔ y ≠ none ∧ a ≠ none ∧ n ≠ none) ∧
    (∀ y a, complete (.revoke y a) = true ↔ y ≠ none ∧ a ≠ none) ∧
    (∀ y a, complete (.bandSet y a) = true ↔ y ≠ none ∧ a ≠ none) ∧
    (∀ y n, complete (.bandErase y n) = true ↔ y ≠ none ∧ n ≠ none) ∧
    (∀ y l c t, complete (.driveSet y l c t) = true ↔ y ≠ none) ∧ (∀ y, complete (.coverOpen y) = true ↔ y ≠ none) ∧
    (∀ y a, complete (.watchArm y a) = true ↔ y ≠ none ∧ a ≠ none) ∧
    (∀ y, complete (.watchDisarm y) = true ↔ y ≠ none) ∧ (∀ y, complete (.watchRecover y) = true ↔ y ≠ none) ∧
    (∀ y, complete (.remoteWipe y) = true ↔ y ≠ none) ∧ (∀ y n, complete (.wipeNow y n) = true ↔ y ≠ none ∧ n ≠ none) ∧
    (∀ y, complete (.scrubStop y) = true ↔ y ≠ none) ∧ ∀ y, complete (.revert y) = true ↔ y ≠ none) ∧
  (∀ (s : State) (y : Option Secret),
    (∀ (n : Option Byte) (a : UnlockArgs), ownerCheck (.unlock n y (some a)) s = ownerCheck (.tokenUnlock y (some a)) s ∧
      ownerCheck (.unlock n y (some a)) s =
        if a.bands = 0 ∨ 65536 ≤ a.bands.toNat ∨ a.directions = 0 ∨ 4 ≤ a.directions.toNat then some .badArgument
        else none) ∧
    (∀ (a : LimitArgs) (n : Option Secret), ownerCheck (.setCred y (some a) n) s =
      if 7 < a.target.toNat ∨ 64 < a.hard.toNat ∨ a.hard.toNat < (if a.target = 0 then 8 else 3) ∨ 15 < a.free.toNat ∨
          a.hard.toNat ≤ a.free.toNat ∨ a.base = 0 ∨ 60 < a.base.toNat ∨ a.cap.toNat < 60 ∨ 86400 < a.cap.toNat ∨
          (n = none ∧ a.target = 0) ∨ n = some 0 then some .badArgument
      else if a.target = 0 ∧ (cred s 0).state = .blank then some .denied
      else if a.target = 7 ∧ n = none ∧ (theft s = .armed ∨ theft s = .suspect) ∧ enabled s .checkin = true then
        some .denied
      else none) ∧
    (∀ (a : RowArgs) (n : Option Secret),
      ownerCheck (.revoke y (some a)) s =
        (if a.target = 0 ∨ 7 < a.target.toNat ∨ a.bands = 0 ∨ 65536 ≤ a.bands.toNat then some .badArgument else none) ∧
      ownerCheck (.grant y (some a) n) s =
        if a.target = 0 ∨ 7 < a.target.toNat ∨ a.bands = 0 ∨ 65536 ≤ a.bands.toNat then some .badArgument
        else if (cred s (slotOf a.target.toNat)).state = .empty then some .slotEmpty
        else if (cred s (slotOf a.target.toNat)).state = .disabled then some .slotDisabled
        else none) ∧
    (∀ a : BandArgs,
      (15 < a.band.toNat ∨ 15 < a.relock.toNat ∨ 3 < a.enables.toNat →
        ownerCheck (.bandSet y (some a)) s = some .badArgument) ∧
      (a.band.toNat ≤ 15 → a.relock.toNat ≤ 15 → a.enables.toNat ≤ 3 →
        (a.band = 0 ∨ a.length = 0 → ownerCheck (.bandSet y (some a)) s = none) ∧
        (a.band ≠ 0 → a.length ≠ 0 →
          (a.start.toNat % granule s ≠ 0 ∨ a.length.toNat % granule s ≠ 0 ∨ capacity s < a.start.toNat + a.length.toNat ∨
              (∃ c : BandId, c ≠ 0 ∧ c.val ≠ a.band.toNat ∧ (record s c).length ≠ 0 ∧
                overlap a.start.toNat a.length.toNat (record s c).start (record s c).length = true) →
            ownerCheck (.bandSet y (some a)) s = some .badRange) ∧
          (a.start.toNat % granule s = 0 → a.length.toNat % granule s = 0 →
            a.start.toNat + a.length.toNat ≤ capacity s →
            (∀ c : BandId, c ≠ 0 → c.val ≠ a.band.toNat → (record s c).length ≠ 0 →
              overlap a.start.toNat a.length.toNat (record s c).start (record s c).length = false) →
            ownerCheck (.bandSet y (some a)) s = none)))) ∧
    (∀ n : Byte, ownerCheck (.bandErase y (some n)) s = if 15 < n.toNat then some .badArgument else none) ∧
    (∀ (l : Option LaneArgs) (c : Option CoverArgs) (t : Option TetherArgs),
      ownerCheck (.driveSet y none none none) s = none ∧
      ownerCheck (.driveSet y l c t) s = ((ownerCheck (.driveSet y l none none) s).or
        (ownerCheck (.driveSet y none c none) s)).or (ownerCheck (.driveSet y none none t) s)) ∧
    (∀ a : LaneArgs, ownerCheck (.driveSet y (some a) none none) s =
      if 3 < a.mode.toNat then some .badArgument
      else if a.mode = 2 ∧ (a.split.toNat % granule s ≠ 0 ∨ a.split.toNat = 0 ∨ capacity s ≤ a.split.toNat) then
        some .badRange
      else none) ∧
    (∀ a : CoverArgs, ownerCheck (.driveSet y none (some a) none) s =
      if a.length.toNat ≠ 0 ∧ (a.length.toNat < 8 ∨ 131072 < a.length.toNat) then some .badArgument
      else if a.length.toNat % granule s ≠ 0 then some .badRange
      else if 15 < a.band.toNat then some .badArgument
      else none) ∧
    (∀ a : TetherArgs, ownerCheck (.driveSet y none none (some a)) s =
      if a.period = 0 ∨ (64 ≤ a.period.toNat ∧ a.period.toNat ≤ 32768 ∧ a.tolerance.toNat ≤ a.period.toNat / 2 ∧
          (a.filter = 2 ∨ a.filter = 4 ∨ a.filter = 8 ∨ a.filter = 16)) then none
      else some .badArgument) ∧
    (∀ a : WatchArgs, ownerCheck (.watchArm y (some a)) s =
      if a.indicators = 0 ∨ 15 < a.indicators.toNat ∨ 3 < a.period.toNat ∨ 1 < a.action.toNat ∨ 3 < a.passes.toNat ∨
          a.budget.toNat < 4 ∨ (a.indicators.getLsbD 0 = true ∧ (cred s 7).state ≠ .set) then some .badArgument
      else if theft s = .suspect ∨ theft s = .wiped then some .denied
      else none) ∧
    ownerCheck (.watchDisarm y) s = (if theft s = .wiped then some .denied else none) ∧
    ownerCheck (.watchRecover y) s = (if theft s = .alarm then none else some .denied) ∧
    ownerCheck (.remoteWipe y) s = (if theft s = .dormant ∨ theft s = .wiped then some .notArmed else none) ∧
    (∀ n : Byte, ownerCheck (.wipeNow y (some n)) s =
      if n.toNat ≤ 3 ∨ n = 255 then none else some .badArgument) ∧
    ownerCheck (.scrubStop y) s =
      (if theft s ≠ .wiping ∨ s.w.plan.cause = some .theft ∨ s.w.plan.cause = some .remote ∨
          s.w.plan.cause = some .storeLoss ∨ s.w.plan.phase ≠ .scrub then some .denied
       else none) ∧
    ownerCheck (.coverOpen y) s = none) ∧
  ∀ (c : Instr) (p : Port) (e : Envelope) (s : State), requestOf c = some (p, e) → PortTakes p s →
    (box p s ≠ none → exec c s = .next (settle (respond p
      { id := e.id, status := .busy, wait := 0, granted := 0, report := [] } (submitted p s)))) ∧
    (box p s = none →
      (∀ x : RStatus, mailboxCheck p e.body s = some x ∨ (mailboxCheck p e.body s = none ∧ ownerCheck e.body s = some x) →
        exec c s = .next (settle (respond p
          { id := e.id, status := x, wait := 0, granted := 0, report := [] } (submitted p s)))) ∧
      ∀ (i : SlotId) (x : RStatus), mailboxCheck p e.body s = none → ownerCheck e.body s = none →
        slotPresented e.body = some i → flowRefusal e.body i s = some x →
        exec c s = .next (settle (respond p
          { id := e.id, status := x,
            wait := if x = .wait then min ((backoffOf s i + 1023) / 1024) 65535 else 0, granted := 0, report := [] }
          (submitted p s))))

/-- The requests that present no secret and act at once (R22, R86, R87, R82, R186, R107): COVER_CLOSE clears the permit,
STATUS_QUERY is answered with the query report of 448 bytes, whose fields hold what the part's state is (R87, R190),
REQUEST_BAD_KIND, the command of an envelope whose kind is undefined or may not come by the port, is answered BAD_ARGUMENT
whatever byte it carries, and OWN of a BLANK part is held for its job. Of the refusals of OWN the first in the order of R107's
table gives the status: DENIED in ALARM, NOT_BLANK, BAD_ARGUMENT, LOW_POWER, NO_ENTROPY. A request over the sideband leaves the
pointer behind the submit byte (entry 10). -/
def Obligations.PlainRequestsAct : Prop :=
  (∀ s : State,
    (∀ o n v : Nat, (o, n, v) ∈
      [(0, 1, theftCode (theft s)), (1, 1, if theft s = .wiping then causeCode s.w.plan.cause else 0),
        (2, 1, if theft s = .wiping then phaseCode s.w.plan.phase else 0),
        (4, 2, if theft s = .wiping then s.w.plan.pass else 0),
        (6, 6, if theft s = .wiping then watermark s else 0),
        (12, 1, (s.w.watch.policy.map fun p => p.enabled.toNat).getD 0), (13, 1, (indicatorSet s).toNat),
        (14, 2, if theft s = .suspect then (s.twu.grace + 1023) / 1024 else 0), (16, 1, modeCode s.w.config.mode),
        (17, 1, s.w.config.coverBand.val), (19, 1, s.w.config.filterLength), (20, 6, s.w.config.split),
        (26, 4, s.w.config.coverLength), (30, 2, s.w.config.period), (32, 2, s.w.config.tolerance), (34, 1, s.dq.length),
        (35, 1, s.ks.queue.length), (50, 1, (s.w.watch.policy.map fun p => p.periodIndex.val).getD 0),
        (51, 1, (s.w.watch.policy.map fun p => actionCode p.action).getD 0),
        (52, 2, (s.w.watch.policy.map fun p => p.graceSeconds).getD 0),
        (54, 1, (s.w.watch.policy.map fun p => p.passes.val).getD 0),
        (55, 1, (s.w.watch.policy.map fun p => p.budget).getD 0)] →
      field (queryReport s) o n = v % 256 ^ n) ∧
    ((byteAt (queryReport s) 18).getLsbD 0 = coverActive s ∧ (byteAt (queryReport s) 18).getLsbD 1 = s.coverPermit ∧
      (byteAt (queryReport s) 18).getLsbD 2 = s.twu.tetherLost ∧ (byteAt (queryReport s) 18).getLsbD 3 = s.entropyFailed ∧
      (byteAt (queryReport s) 18).getLsbD 4 = !s.supplyOk ∧
      (byteAt (queryReport s) 18).getLsbD 5 = (decide (theft s = .wiping) && s.w.plan.stop)) ∧
    (∀ p : PageId, (field (queryReport s) 36 7).testBit p.val = decide (p ∈ s.startup.lost) ∧
      (field (queryReport s) 43 7).testBit p.val = decide (p ∈ s.startup.torn)) ∧
    (∀ b : BandId,
      field (queryReport s) (64 + 16 * b.val) 6 = (if b = 0 then 0 else (record s b).start % 2 ^ 48) ∧
      field (queryReport s) (70 + 16 * b.val) 6 = (if b = 0 then 0 else (record s b).length % 2 ^ 48) ∧
      (∀ (n : Nat) (x : Bool), (n, x) ∈
        [(0, (record s b).rle), (1, (record s b).wle), (2, (flags s b).readLocked), (3, (flags s b).writeLocked),
          (4, present s (.band b)), (5, (flags s b).pendingLoad), (6, decide (b = 0 ∨ (record s b).length ≠ 0))] →
        (byteAt (queryReport s) (76 + 16 * b.val)).getLsbD n = x)) ∧
    ∀ i : SlotId,
      (∀ o n v : Nat, (o, n, v) ∈
        [(0, 1, slotStateCode (cred s i).state), (1, 1, count s i), (2, 1, (cred s i).hard), (3, 1, (cred s i).free),
          (4, 2, min ((backoffOf s i + 1023) / 1024) 65535)] →
        field (queryReport s) (320 + 16 * i.val + o) n = v % 256 ^ n) ∧
      ∀ b : BandId, (field (queryReport s) (326 + 16 * i.val) 2).testBit b.val = ((cred s i).row.get b).isSome) ∧
  ∀ (id : BitVec 16) (s : State),
    (LinkTakes s → s.linkBox = none → theft s ≠ .wiping →
      exec (.coverClose id) s = .next (settle { s with
        coverPermit := false,
        link := { s.link with outbound := s.link.outbound ++
          [.response { id := id, status := .ok, wait := 0, granted := 0, report := [] }] } })) ∧
    (∀ p : Port, PortTakes p s → box p s = none →
      exec (.statusQuery p id) s = .next (settle (respond p
        { id := id, status := .ok, wait := 0, granted := 0, report := queryReport s } (submitted p s))) ∧
      (queryReport s).length = 448 ∧
      ∀ kind : Byte, exec (.requestBadKind p id kind) s = .next (settle (respond p
        { id := id, status := .badArgument, wait := 0, granted := 0, report := [] } (submitted p s)))) ∧
    (∀ (new : Secret) (y : RStatus), LinkTakes s → s.linkBox = none → theft s ≠ .wiping →
      (if theft s = .alarm then some .denied
        else if (cred s 0).state ≠ .blank then some .notBlank
        else if new = 0 then some .badArgument
        else if s.supplyOk = false then some .lowPower
        else if s.entropyFailed = true then some .noEntropy
        else none) = some y →
      exec (.own id (some new)) s = .next (settle { s with
        link := { s.link with outbound := s.link.outbound ++
          [.response { id := id, status := y, wait := 0, granted := 0, report := [] }] } })) ∧
    (∀ new : Secret, LinkTakes s → s.linkBox = none → theft s ≠ .wiping → theft s ≠ .alarm → (cred s 0).state = .blank →
      new ≠ 0 → s.supplyOk = true → s.entropyFailed = false →
      exec (.own id (some new)) s = .next (settle { s with
        linkBox := some { env := { id := id, body := .own (some new) }, started := false, stage := .handing .own,
                          room := [] } }))

/-- REVERT (R113, R135, R14): with the code on the part's label the theft state becomes WIPING with cause REVERT and one pass,
from any state but WIPING, and every band is closed, with the answer OK at once, whatever pages wait for room (R135; entry 38);
with any other code the answer is BAD_ARGUMENT and nothing changes. While the supply reads WARN the answer is LOW_POWER whatever
the code, and nothing changes. -/
def Obligations.RevertWipesUnderItsCode : Prop :=
  (∀ (id : BitVec 16) (code : Secret) (s : State), LinkTakes s → s.linkBox = none → theft s ≠ .wiping →
    s.supplyOk = false →
    exec (.revert id (some code)) s = .next (settle { s with
      link := { s.link with outbound := s.link.outbound ++
        [.response { id := id, status := .lowPower, wait := 0, granted := 0, report := [] }] } })) ∧
  ∀ (id : BitVec 16) (code : Secret) (s : State), LinkTakes s → s.linkBox = none → theft s ≠ .wiping → s.supplyOk = true →
    (code ≠ s.w.identity.revertCode →
      exec (.revert id (some code)) s = .next (settle { s with
        link := { s.link with outbound := s.link.outbound ++
          [.response { id := id, status := .badArgument, wait := 0, granted := 0, report := [] }] } })) ∧
    (code = s.w.identity.revertCode → ScrubInWiping s →
      ∃ x, exec (.revert id (some code)) s = .next (settle x) ∧ theft x = .wiping ∧ x.wipe.activity = .rootWait ∧
        x.w.plan = { cause := some .revert, phase := .root, passes := .times 1, pass := 0, watermark := 0, stop := false,
                     written := 0, refused := 0 } ∧
        AnswersAtOnce .link { env := { id := id, body := .revert (some code) }, started := true, stage := .answering .ok 0,
                              room := [] } .ok x ∧
        x.w.root = s.w.root ∧ x.w.secrets = s.w.secrets ∧ x.w.creds = s.w.creds ∧ x.w.counts = s.w.counts ∧
        x.backoff = s.backoff ∧
        ∀ b : BandId, closed (flags x b) = true ∧ present x (.band b) = false)

/-! ## Verification -/

/-- The backoff delay after a failure that leaves a slot's count at `f` (R105), in ticks; and the same delay, for the count as
loaded, where power-on restarts a backoff: of a slot whose count exceeds its free attempts, but for a DISABLED user or platform
slot (R96). -/
def Obligations.BackoffDelayFormula : Prop :=
  (∀ (i : SlotId) (c : Credential) (f : Nat),
    (f ≤ c.free → backoffDelay i c f = 0) ∧
    (c.free < f → i = 0 → c.hard ≤ f → backoffDelay i c f = c.cap * 1024) ∧
    (c.free < f → (i ≠ 0 ∨ f < c.hard) →
      (17 ≤ f - c.free - 1 → backoffDelay i c f = c.cap * 1024) ∧
      (f - c.free - 1 < 17 → backoffDelay i c f = min (c.base * 2 ^ (f - c.free - 1)) c.cap * 1024))) ∧
  ∀ (i : SlotId) (s : State), s.held = none → backoffOf (backoffStep s) i =
    if i ≠ 0 ∧ (cred s i).state = .disabled then 0 else backoffDelay i (cred s i) (count s i)

/-- VERIFY_JOB_COMPLETE on a mismatch (R102): no count rises, the backoff starts afresh at the delay for the count, a user or
platform slot at its limit is DISABLED with no backoff, the request ends AUTH_FAILED, and nothing of its kind happens: no
secret, wrap, band record or setting changes, and in DORMANT no key and no lock flag. -/
def Obligations.MismatchHasNoEffectOfItsKind : Prop :=
  ∀ (p : Port) (h : Held) (i : SlotId) (s : State), Running p .verify h s → slotPresented h.env.body = some i →
    (cred s i).state ≠ .empty → verifies (cred s i) (secretPresented h.env.body) = false → ScrubInWiping s →
    ∃ x, exec .verifyJobComplete s = .next (settle x) ∧ x.engine = { s.engine with running := none } ∧
      Answers p h .authFailed 0 x ∧ box (otherPort p) x = box (otherPort p) s ∧ x.w.counts = s.w.counts ∧
      (∀ j : SlotId, backoffOf x j =
        if j ≠ i then backoffOf s j
        else if i ≠ 0 ∧ count s i = (cred s i).hard then 0
        else if count s i ≤ (cred s i).free then backoffOf s i
        else backoffDelay i (cred s i) (count s i)) ∧
      (∀ j : SlotId, cred x j =
        if j = i ∧ i ≠ 0 ∧ count s i = (cred s i).hard then { cred s i with state := .disabled } else cred s j) ∧
      x.w.root = s.w.root ∧ x.w.secrets = s.w.secrets ∧ x.w.bands = s.w.bands ∧ x.w.config = s.w.config ∧
      x.coverPermit = s.coverPermit ∧
      (theft s = .dormant →
        x.w.watch = s.w.watch ∧ x.w.plan = s.w.plan ∧ x.wipe = s.wipe ∧ x.keys = s.keys ∧ x.bands = s.bands ∧
        x.link = s.link ∧ x.twu = s.twu)

/-- VERIFY_JOB_COMPLETE on a match (R101): the count and the backoff end, a DISABLED user or platform slot is SET again, the
ADMIN slot clears the tamper latch; and the request's kind acts, by its chapter: UNLOCK and TOKEN_UNLOCK hand a job for the
requested bands that the row holds (R104), COVER_OPEN sets the permit (R22), REVOKE drops wraps (R112), SET_CRED without a
secret clears its slot (R109), GRANT, BAND_SET and BAND_ERASE hand their jobs (R111, R16, R17, R19). While the ES is FAILED a
SET_CRED with a secret (R108), a BAND_SET with a range change (R17) and a BAND_ERASE (R19) end NO_ENTROPY instead, with the
match's own effects standing and nothing of the kind done; a BAND_SET without one hands its job all the same (R16). -/
def Obligations.MatchActsByKind : Prop :=
  ∀ (p : Port) (h : Held) (i : SlotId) (s : State), Running p .verify h s → slotPresented h.env.body = some i →
    (cred s i).state ≠ .empty → verifies (cred s i) (secretPresented h.env.body) = true → ScrubInWiping s →
    ∃ x, exec .verifyJobComplete s = .next (settle x) ∧ count x i = 0 ∧ backoffOf x i = 0 ∧
      (i ≠ 0 → (cred x i).state = if (cred s i).state = .disabled then .set else (cred s i).state) ∧
      (i = 0 → x.w.watch.latch = false) ∧ x.w.root = s.w.root ∧ x.w.secrets = s.w.secrets ∧ x.w.bands = s.w.bands ∧
      (∀ a : UnlockArgs, (∃ n y, h.env.body = .unlock n y (some a)) ∨ (∃ y, h.env.body = .tokenUnlock y (some a)) →
        ∃ (ws : List (BandId × Wrap)) (room : List PageId),
          (∀ b w, (b, w) ∈ ws ↔ (names a.bands b = true ∧ hasSecret s b = true ∧ (cred s i).row.get b = some w)) ∧
          box p x = some { h with stage := if ws = [] then .answering .ok 0 else .handing (.unlock (saltOf (cred s i)) ws),
                                  room := room }) ∧
      (∀ y, h.env.body = .coverOpen y → x.coverPermit = true ∧ Answers p h .ok 0 x) ∧
      (∀ y a, h.env.body = .revoke y (some a) → Answers p h .ok 0 x ∧
        ∀ b : BandId, (cred x (slotOf a.target.toNat)).row.get b =
          if names a.bands b then none else (cred s (slotOf a.target.toNat)).row.get b) ∧
      (∀ y a, h.env.body = .setCred y (some a) none → Answers p h .ok 0 x ∧
        (cred x (slotOf a.target.toNat)).state = .empty ∧ (cred x (slotOf a.target.toNat)).verifier = none ∧
        count x (slotOf a.target.toNat) = 0 ∧ ∀ b : BandId, (cred x (slotOf a.target.toNat)).row.get b = none) ∧
      (∀ y a n, h.env.body = .setCred y (some a) (some n) → s.entropyFailed = false →
        ∃ room, box p x = some { h with
          stage := .handing (if slotOf a.target.toNat = 0 then .setCredAdmin else .setCred), room := room }) ∧
      (s.entropyFailed = true →
        (∃ y a n, h.env.body = .setCred y (some a) (some n)) ∨
          (∃ y a, h.env.body = .bandSet y (some a) ∧ rangeChange a s = true) ∨ (∃ y n, h.env.body = .bandErase y (some n)) →
        Answers p h .noEntropy 0 x ∧ x.keys.fill = s.keys.fill ∧ x.keys.cover = s.keys.cover ∧
        ∀ j : SlotId, (j ≠ i ∨ i = 0) → cred x j = cred s j) ∧
      (∀ y a, h.env.body = .bandSet y (some a) → rangeChange a s = false →
        ∃ room, box p x = some { h with stage := .handing .bandSet, room := room }) ∧
      (∀ y a n, h.env.body = .grant y (some a) n → ∃ room, box p x = some { h with stage := .handing .grant, room := room }) ∧
      (∀ y a, h.env.body = .bandSet y (some a) → s.entropyFailed = false →
        ∃ room, box p x = some { h with
          stage := .handing (if rangeChange a s then .bandSetRange else .bandSet), room := room }) ∧
      (∀ y n, h.env.body = .bandErase y n → s.entropyFailed = false →
        ∃ room, box p x = some { h with stage := .handing .bandErase, room := room })

/-- DRIVE_SET on a match (R20, R22, R59, R121): each group given is stored, each group absent keeps what was set; a change of
the cover settings clears the load permit, and a change of the tether settings starts the meter afresh or turns the tether off,
which makes the filter PRESENT. In DORMANT and ARMED the theft state stays. In SUSPECT the match, which clears the tamper latch,
and a TETHER that so deasserts each bring the check (R131): with no enabled indicator asserted any more the theft state becomes
ARMED, and else it stays with its cause and grace. -/
def Obligations.DriveSetStoresItsGroups : Prop :=
  ∀ (p : Port) (h : Held) (s : State) (y : Option Secret) (l : Option LaneArgs) (c : Option CoverArgs)
    (t : Option TetherArgs), Running p .verify h s → h.env.body = .driveSet y l c t → (cred s 0).state ≠ .empty →
    verifies (cred s 0) (secretPresented h.env.body) = true →
    theft s = .dormant ∨ theft s = .armed ∨ (theft s = .suspect ∧ ScrubInWiping s) →
    ∃ (x : State) (u : WatchUnit), exec .verifyJobComplete s = .next (settle x) ∧ Answers p h .ok 0 x ∧ Carried configPage x ∧
      x.bands = s.bands ∧ x.keys = s.keys ∧
      (x.w.config.mode, x.w.config.split) =
        (match l with
         | some a => (modeOf a.mode.toNat, if a.mode = 2 then a.split.toNat else 0)
         | none => (s.w.config.mode, s.w.config.split)) ∧
      (x.w.config.coverLength, x.w.config.coverBand) =
        (match c with
         | some a => (a.length.toNat, bandNo a.band.toNat)
         | none => (s.w.config.coverLength, s.w.config.coverBand)) ∧
      (x.w.config.period, x.w.config.tolerance, x.w.config.filterLength) =
        (match t with
         | some a => if a.period = 0 then (0, 0, 2) else (a.period.toNat, a.tolerance.toNat, a.filter.toNat)
         | none => (s.w.config.period, s.w.config.tolerance, s.w.config.filterLength)) ∧
      x.coverPermit =
        (s.coverPermit && decide ((x.w.config.coverLength, x.w.config.coverBand) =
          (s.w.config.coverLength, s.w.config.coverBand))) ∧
      u =
        (if (x.w.config.period, x.w.config.tolerance, x.w.config.filterLength) =
            (s.w.config.period, s.w.config.tolerance, s.w.config.filterLength) then s.twu
         else if x.w.config.period = 0 then
          { s.twu with meterOn := false, meterFirst := false, meterCount := 0, tetherLost := false, tetherRun := 0 }
         else { s.twu with meterOn := true, meterFirst := true, meterCount := 0, tetherRun := 0 }) ∧
      (theft s ≠ .suspect ∨ anyAsserted x = true → x.twu = u ∧ x.w.watch = { s.w.watch with latch := false }) ∧
      (theft s = .suspect → anyAsserted x = false → x.twu = { u with grace := 0 } ∧ Carried watchPage x ∧
        x.w.watch = { s.w.watch with theft := .armed, cause := none, graceSeconds := 0, latch := false } ∧
        Announced (.state .armed none) s x)

/-- The watch's and the wipe's requests on a match (R118, R119, R134, R151, R152, R135): WATCH_ARM in DORMANT and ARMED, and in
a SUSPECT that the match itself ends (R131), makes the theft state ARMED under the policy given, with no change of state and
nothing announced where it was ARMED; it ends DENIED in every other theft state and where an indicator named is asserted, the
budget judged by the new limit, and BAD_ARGUMENT where CHECKIN is named without a PLATFORM slot SET, with DENIED of the theft
state first by the model's choice (entry 51). WATCH_DISARM in ARMED and SUSPECT makes it DORMANT with the policy kept, in
DORMANT changes nothing and in ALARM and WIPING ends DENIED. REMOTE_WIPE in ARMED, SUSPECT and ALARM and WIPE_NOW in DORMANT,
ARMED, SUSPECT and WIPED make it WIPING with every band closed and a fresh plan, answered at once, whatever pages wait for room
(R135; entry 38); REMOTE_WIPE ends NOT_ARMED in DORMANT and WIPED and DENIED in WIPING, WIPE_NOW DENIED in ALARM and WIPING.
SCRUB_STOP in a running pass sets the stop mark, and with none running ends the wipe, with a result STOPPED (its corners: entry
18); with the mark set already, running or not, and in WIPED it changes nothing. -/
def Obligations.MatchedWatchRequests : Prop :=
  ∀ (p : Port) (h : Held) (i : SlotId) (s : State), Running p .verify h s → slotPresented h.env.body = some i →
    (cred s i).state ≠ .empty → verifies (cred s i) (secretPresented h.env.body) = true → ScrubInWiping s →
    ∃ x, exec .verifyJobComplete s = .next (settle x) ∧ x.w.root = s.w.root ∧ x.w.secrets = s.w.secrets ∧
      (∀ y a, h.env.body = .watchArm y (some a) →
        (∀ j : SlotId, count x j = if j = 0 then 0 else count s j) ∧ x.w.creds = s.w.creds ∧ x.w.watch.latch = false ∧
        (theft s = .dormant ∨ theft s = .armed ∨ (theft s = .suspect ∧ ¬MatchKeepsSuspect s (failureSum x)) →
          ((a.indicators.getLsbD 0 = true → (cred s 7).state = .set) →
            (a.indicators.getLsbD 1 = true → s.twu.tetherLost = false) →
            (a.indicators.getLsbD 3 = true → failureSum x < a.budget.toNat) →
            Answers p h .ok 0 x ∧ theft x = .armed ∧ x.w.watch.policy = some (policyOf a) ∧ x.twu.counter = 0 ∧
            x.bands = s.bands ∧ x.keys = s.keys ∧ Carried watchPage x ∧
            (theft s = .armed → x.link = s.link ∧ x.psp = s.psp)) ∧
          (a.indicators.getLsbD 0 = true → (cred s 7).state ≠ .set →
            Answers p h .badArgument 0 x ∧ x.w.watch.policy = s.w.watch.policy ∧ x.twu.counter = s.twu.counter) ∧
          ((a.indicators.getLsbD 0 = true → (cred s 7).state = .set) →
            (a.indicators.getLsbD 1 = true ∧ s.twu.tetherLost = true) ∨
              (a.indicators.getLsbD 3 = true ∧ a.budget.toNat ≤ failureSum x) →
            Answers p h .denied 0 x ∧ x.w.watch.policy = s.w.watch.policy ∧ x.twu.counter = s.twu.counter)) ∧
        (theft s = .alarm ∨ theft s = .wiping ∨ theft s = .wiped ∨ (theft s = .suspect ∧ MatchKeepsSuspect s (failureSum x)) →
          Answers p h .denied 0 x ∧ theft x = theft s ∧ x.w.watch = { s.w.watch with latch := false } ∧ x.twu = s.twu)) ∧
      (∀ y, h.env.body = .watchDisarm y →
        (theft s = .armed ∨ theft s = .suspect →
          Answers p h .ok 0 x ∧ x.twu = { s.twu with counter := 0, grace := 0 } ∧ Carried watchPage x ∧
          x.w.watch = { s.w.watch with theft := .dormant, cause := none, graceSeconds := 0, latch := false } ∧
          x.bands = s.bands ∧ x.keys = s.keys) ∧
        (theft s = .dormant → Answers p h .ok 0 x ∧ x.twu = s.twu ∧ x.bands = s.bands ∧ x.keys = s.keys ∧
          x.w = { s.w with watch := { s.w.watch with latch := false }, counts := put s.w.counts 0 0 }) ∧
        (theft s = .alarm ∨ theft s = .wiping →
          Answers p h .denied 0 x ∧ x.w.watch = { s.w.watch with latch := false } ∧ x.twu = s.twu)) ∧
      (∀ y, h.env.body = .remoteWipe y →
        (theft s = .dormant ∨ theft s = .wiped → Answers p h .notArmed 0 x ∧ x.w.watch = s.w.watch ∧ x.w.plan = s.w.plan) ∧
        (theft s = .wiping → Answers p h .denied 0 x ∧ x.w.watch = s.w.watch ∧ x.w.plan = s.w.plan)) ∧
      (∀ y n, h.env.body = .wipeNow y (some n) → theft s = .alarm ∨ theft s = .wiping →
        Answers p h .denied 0 x ∧ x.w.watch = { s.w.watch with latch := false } ∧ x.w.plan = s.w.plan) ∧
      (∀ y, h.env.body = .scrubStop y →
        theft s = .wiped ∨ (theft s = .wiping ∧ s.w.plan.phase = .scrub ∧ s.w.plan.stop = true) →
        Answers p h .ok 0 x ∧ x.w.plan = s.w.plan ∧ theft x = theft s ∧ x.wipe = s.wipe) ∧
      (∀ y, h.env.body = .remoteWipe y → theft s = .armed ∨ theft s = .suspect ∨ theft s = .alarm →
        AnswersAtOnce p h .ok x ∧ theft x = .wiping ∧ x.wipe.activity = .rootWait ∧
        x.w.plan = { cause := some .remote, phase := .root, passes := theftPasses s, pass := 0, watermark := 0, stop := false,
                     written := 0, refused := 0 } ∧
        ∀ b : BandId, closed (flags x b) = true ∧ present x (.band b) = false) ∧
      (∀ y n ps, h.env.body = .wipeNow y (some n) → passesOf n = some ps →
        theft s = .dormant ∨ theft s = .armed ∨ theft s = .suspect ∨ theft s = .wiped →
        AnswersAtOnce p h .ok x ∧ theft x = .wiping ∧ x.wipe.activity = .rootWait ∧
        x.w.plan = { cause := some .owner, phase := .root, passes := ps, pass := 0, watermark := 0, stop := false,
                     written := 0, refused := 0 } ∧
        ∀ b : BandId, closed (flags x b) = true ∧ present x (.band b) = false) ∧
      (∀ y, h.env.body = .scrubStop y → theft s = .wiping → s.w.plan.phase = .scrub → s.wipe.running = true →
        Answers p h .ok 0 x ∧ x.w.plan = { s.w.plan with stop := true } ∧ theft x = .wiping ∧ x.wipe = s.wipe) ∧
      (∀ y, h.env.body = .scrubStop y → theft s = .wiping → s.w.plan.phase = .scrub → s.wipe.running = false →
        s.w.plan.stop = false →
        Answers p h .ok 0 x ∧ x.w.plan = { s.w.plan with stop := true } ∧ Carried journalPage x ∧
        StoresResult .stopped s.w.plan.pass s.w.plan.written s.w.plan.refused s x ∧ ReachesDone s x)

/-- WATCH_RECOVER on a match in ALARM (R120, R5, R14): the latch, the check-in counter, the tether filter, the counts and the
backoffs are cleared, a DISABLED slot keeping its own; the theft state is ARMED, or DORMANT with no policy; a band that its
enables leave open is held for its open load, and its job is to be handed; every other band is closed. -/
def Obligations.RecoverLeavesAlarm : Prop :=
  ∀ (p : Port) (h : Held) (s : State) (y : Option Secret), Running p .verify h s → h.env.body = .watchRecover y →
    (cred s 0).state ≠ .empty → verifies (cred s 0) (secretPresented h.env.body) = true → theft s = .alarm →
    ScrubInWiping s → linkUp s = true →
    ∃ x, exec .verifyJobComplete s = .next (settle x) ∧
      theft x = (if s.w.watch.policy.isSome then .armed else .dormant) ∧ x.w.watch.latch = false ∧
      x.w.watch.policy = s.w.watch.policy ∧ x.twu.counter = 0 ∧ x.twu.tetherLost = false ∧ x.twu.tetherRun = 0 ∧
      x.w.creds = s.w.creds ∧
      (∀ j : SlotId, j ≠ 0 → count x j = (if (cred s j).state = .disabled then count s j else 0) ∧
        backoffOf x j = (if (cred s j).state = .disabled then backoffOf s j else 0)) ∧
      count x 0 = 0 ∧ backoffOf x 0 = 0 ∧
      (∀ b : BandId, (flags s b).held = false → hasSecret s b = true →
        (flags x b).readLocked = true ∧ (flags x b).writeLocked = true ∧
        (flags x b).pendingLoad = !(record s b).rle ∧ present x (.band b) = false) ∧
      (∃ room, box p x = some { h with
        stage := if anyPending x then .handing .recover else .answering .ok 0, room := room }) ∧
      x.psp.notice.getLsbD 0 = true

/-! ## Effect jobs -/

/-- UNLOCK_JOB_COMPLETE (R104, R4). In ALARM and WIPING every unlock is discarded and the request ends DENIED. Else each band of
the job that is not held and has its band secret is unlocked for the requested directions, with the key its wrap gives, and is
in the granted set; every other band is left as it was. -/
def Obligations.UnlockOpensGrantedBands : Prop :=
  ∀ (p : Port) (h : Held) (salt : Secret) (ws : List (BandId × Wrap)) (s : State), Running p (.unlock salt ws) h s →
    noOrders s = true → (ws.map Prod.fst).Nodup →
    ∃ x, exec .unlockJobComplete s = .next (settle x) ∧ x.w = s.w ∧ x.ks = s.ks ∧ x.backoff = s.backoff ∧
      x.engine = { s.engine with running := none } ∧
      (barred s = true → Answers p h .denied 0 x ∧ ∀ b : BandId, SameBand b s x) ∧
      (barred s = false →
        (∃ g : BandSet, Answers p h .ok g x ∧
          ∀ b : BandId, g.getLsbD b.val = true ↔
            ((∃ w, (b, w) ∈ ws) ∧ (flags s b).held = false ∧ hasSecret s b = true)) ∧
        (∀ b : BandId, ((∀ w, (b, w) ∉ ws) ∨ (flags s b).held = true ∨ hasSecret s b = false) → SameBand b s x) ∧
        ∀ (b : BandId) (w : Wrap) (z : Secret) (r wr : Bool), (b, w) ∈ ws → (flags s b).held = false →
          s.w.secrets.get b = some z → r = (unlockArgs h.env.body).directions.getLsbD 0 →
          wr = (unlockArgs h.env.body).directions.getLsbD 1 → (r || wr) = true →
          entry x (.band b) =
            loaded (.media (rootOf s) (unwrap w (.credential (secretPresented h.env.body) salt)) z)
              (entry s (.band b)) ∧
          (flags x b).pendingLoad = false ∧
          (flags x b).readLocked =
            (!r && (if (flags s b).pendingLoad then (record s b).rle else (flags s b).readLocked)) ∧
          (flags x b).writeLocked =
            (!wr && (if (flags s b).pendingLoad then (record s b).wle || (record s b).rle else (flags s b).writeLocked)))

/-- OWN_JOB_COMPLETE (R107, R92): the ADMIN slot becomes SET with the new secret, and its row, which the secret of 32 zero bytes
held, is held under the new one; its count and its backoff (entry 19) are cleared; WIPED becomes DORMANT. A value that is
missing or fails its test, or comes with the ES FAILED already (R91, R92), changes none of it: the ES is FAILED and the request
ends NO_ENTROPY. -/
def Obligations.OwnSetsTheAdminSlot : Prop :=
  ∀ (p : Port) (h : Held) (new z : Secret) (s : State), Running p .own h s → h.env.body = .own (some new) →
    ScrubInWiping s →
    (s.entropyFailed = false → ∃ x, exec (.ownJobComplete (some z)) s = .next (settle x) ∧ Answers p h .ok 0 x ∧
      cred x 0 = { cred s 0 with
        state := .set, salt := some z, verifier := some { secret := new, salt := z },
        row := tab16 fun b => some { key := rowKey (cred s 0) b (.credential 0 (saltOf (cred s 0))),
                                     under := .credential new z } } ∧
      verifies (cred x 0) new = true ∧ count x 0 = 0 ∧ backoffOf x 0 = 0 ∧
      (∀ j : SlotId, j ≠ 0 → cred x j = cred s j ∧ count x j = count s j ∧ backoffOf x j = backoffOf s j) ∧
      x.w.root = s.w.root ∧ x.w.secrets = s.w.secrets ∧ x.w.bands = s.w.bands ∧ Carried (credPage 0) x ∧
      (theft s = .dormant ∨ theft s = .wiped → theft x = .dormant ∧ x.keys = s.keys ∧ x.bands = s.bands)) ∧
    ∀ d : Draw, d = none ∨ s.entropyFailed = true →
      ∃ x, exec (.ownJobComplete d) s = .next (settle x) ∧ Answers p h .noEntropy 0 x ∧ x.entropyFailed = true ∧
        x.w = s.w ∧ x.ks = s.ks ∧ x.keys = s.keys ∧ x.bands = s.bands

/-- SET_CRED_JOB_COMPLETE, SET_CRED_ADMIN_JOB_COMPLETE and GRANT_JOB_COMPLETE (R109, R110, R111): the target takes the new
secret, salt and limits with its count and backoff cleared (slot 0: entry 19), a user or platform slot keeping wraps for the
bands it had and slot 0 holding all sixteen, and a value that is missing or fails its test, or comes with the ES FAILED already
(R91, R92), changes none of it: the ES is FAILED and the request ends NO_ENTROPY; GRANT adds wraps under the target's own
secret, and with a wrong one ends BAD_ARGUMENT (entry 16). -/
def Obligations.CredentialJobsReplaceRows : Prop :=
  ∀ (p : Port) (h : Held) (s : State) (y : Option Secret), ScrubInWiping s →
    (∀ (c : Instr) (d : Draw), d = none ∨ s.entropyFailed = true →
      (Running p .setCred h s ∧ c = .setCredJobComplete d) ∨ (Running p .setCredAdmin h s ∧ c = .setCredAdminJobComplete d) →
      ∃ x, exec c s = .next (settle x) ∧ Answers p h .noEntropy 0 x ∧ x.entropyFailed = true ∧ x.w = s.w ∧ x.ks = s.ks ∧
        x.keys = s.keys ∧ x.bands = s.bands ∧ x.backoff = s.backoff) ∧
    (∀ (a : LimitArgs) (new z : Secret) (i : SlotId), h.env.body = .setCred y (some a) (some new) →
      i = slotOf a.target.toNat → s.entropyFailed = false →
      (Running p .setCred h s → ∃ x, exec (.setCredJobComplete (some z)) s = .next (settle x) ∧ Answers p h .ok 0 x ∧
        cred x i = { (cred s i) with
          state := .set, salt := some z, verifier := some { secret := new, salt := z }, hard := a.hard.toNat,
          free := a.free.toNat, base := a.base.toNat, cap := a.cap.toNat,
          row := tab16 fun b => ((cred s i).row.get b).map fun _ =>
            { key := rowKey (cred s 0) b (.credential (secretPresented h.env.body) (saltOf (cred s 0))),
              under := .credential new z } } ∧
        count x i = 0 ∧ backoffOf x i = 0 ∧ Carried (credPage i) x ∧
        ∀ j : SlotId, j ≠ i → cred x j = cred s j ∧ count x j = count s j ∧ backoffOf x j = backoffOf s j) ∧
      (Running p .setCredAdmin h s → ∃ x, exec (.setCredAdminJobComplete (some z)) s = .next (settle x) ∧
        Answers p h .ok 0 x ∧
        cred x 0 = { (cred s 0) with
          state := .set, salt := some z, verifier := some { secret := new, salt := z }, hard := a.hard.toNat,
          free := a.free.toNat, base := a.base.toNat, cap := a.cap.toNat,
          row := tab16 fun b => some
            { key := rowKey (cred s 0) b (.credential (secretPresented h.env.body) (saltOf (cred s 0))),
              under := .credential new z } } ∧
        count x 0 = 0 ∧ backoffOf x 0 = 0 ∧ Carried (credPage 0) x ∧
        ∀ j : SlotId, j ≠ 0 → cred x j = cred s j ∧ count x j = count s j ∧ backoffOf x j = backoffOf s j)) ∧
    ∀ (a : RowArgs) (target : Secret) (i : SlotId), h.env.body = .grant y (some a) (some target) →
      i = slotOf a.target.toNat → Running p .grant h s → (cred s i).state ≠ .empty →
      (verifies (cred s i) target = false → ∃ x, exec .grantJobComplete s = .next (settle x) ∧
        Answers p h .badArgument 0 x ∧ x.w = s.w ∧ x.ks = s.ks) ∧
      (verifies (cred s i) target = true → (cred s i).state ≠ .disabled →
        ∃ x, exec .grantJobComplete s = .next (settle x) ∧ Answers p h .ok 0 x ∧ Carried (credPage i) x ∧
          cred x i = { (cred s i) with
            row := tab16 fun b =>
              if names a.bands b then
                some { key := rowKey (cred s 0) b (.credential (secretPresented h.env.body) (saltOf (cred s 0))),
                       under := .credential target (saltOf (cred s i)) }
              else (cred s i).row.get b } ∧
          x.w.counts = s.w.counts ∧ ∀ j : SlotId, j ≠ i → cred x j = cred s j)

/-- BAND_SET_JOB_COMPLETE (R16, R10, R14): the band takes its enables and relock set, with an open wrap exactly where RLE is
clear; where the enables changed the band is brought to them, else its flags and key stay; no other band changes. -/
def Obligations.BandSetTakesItsSettings : Prop :=
  ∀ (p : Port) (h : Held) (s : State) (y : Option Secret) (a : BandArgs) (b : BandId) (kb : Secret) (rle wle : Bool),
    Running p .bandSet h s → h.env.body = .bandSet y (some a) → noOrders s = true → b = bandNo a.band.toNat →
    kb = rowKey (cred s 0) b (.credential (secretPresented h.env.body) (saltOf (cred s 0))) →
    rle = a.enables.getLsbD 0 → wle = a.enables.getLsbD 1 →
    ∃ x, exec .bandSetJobComplete s = .next (settle x) ∧ Answers p h .ok 0 x ∧
      record x b = { record s b with
        rle := rle, wle := wle, relock := a.relock.setWidth 4,
        openWrap := if rle then none
          else some ((record s b).openWrap.getD { key := kb, under := .root (rootOf s) }) } ∧
      Carried (bandPage b) x ∧ x.w.secrets = s.w.secrets ∧ x.w.creds = s.w.creds ∧
      (∀ c : BandId, c ≠ b → record x c = record s c ∧ SameBand c s x) ∧
      ((record s b).rle = rle → (record s b).wle = wle → SameBand b s x) ∧
      (((record s b).rle ≠ rle ∨ (record s b).wle ≠ wle) → barred s = false → ∀ z, s.w.secrets.get b = some z →
        (rle = true → closed (flags x b) = true ∧ entry x (.band b) = removed (entry s (.band b))) ∧
        (rle = false → flags x b = { readLocked := false, writeLocked := wle, pendingLoad := false, held := false } ∧
          entry x (.band b) =
            if present s (.band b) then entry s (.band b) else loaded (.media (rootOf s) kb z) (entry s (.band b))))

/-- BAND_SET_RANGE_JOB_COMPLETE and BAND_ERASE_JOB_COMPLETE (R17, R19): the band secret is replaced, which the band awaits held
closed with its key removed, its page queued; the range is as it was. Once the page is written, a range change takes effect
(R17, steps 5 and 6): range, settings and open wrap, the record page queued, the epochs of the band and of band 0 raised (R12),
and the band brought to its enables, closed in ALARM and WIPING; a range that the check of R15 lets through keeps the ranges
apart (R2). An erased band is brought to its enables, with nothing else changed (R19, step 5). It is PAGE_WRITE_COMPLETE of that
page, with nothing else queued, that brings this about, and the request is answered OK (R17, step 6; R160). A job that gets no
value (R91, R92) changes none of it: the ES is FAILED and the request ends NO_ENTROPY (R17, R19, step 1). -/
def Obligations.ReplacedSecretHoldsTheBand : Prop :=
  (∀ (p : Port) (h : Held) (key : MediaKey) (wrap : Option Wrap) (w : Writing) (s u x : State), box p s = some h →
    h.stage = .secretWrite key wrap → s.ks.writer = some w → s.ks.queue = [] → s.ks.room = [] → s.mode ≠ .writerWait →
    noOrders s = true → s.wipe.activity = .idle → s.wipe.toHand = none → engineQuiet s = true →
    u = { s with ks := { s.ks with
      pages := put s.ks.pages w.page (match w.content with
        | some c => .intact c
        | none => .blank),
      writer := none } } →
    boxQuiet (otherPort p) u = true → x = secretWritten h.env.body key wrap u →
    ∃ t, exec .pageWriteComplete s = .next t ∧ box p t = none ∧ t.w = x.w ∧ t.keys = x.keys ∧ t.bands = x.bands ∧
      (p = .link → s.link.dropMark = none →
        OutMsg.response { id := h.env.id, status := .ok, wait := 0, granted := 0, report := [] } ∈ t.link.outbound) ∧
      (p = .side → t.psp.response.id = h.env.id ∧ t.psp.response.status = rstatusCode .ok)) ∧
  (∀ (p : Port) (h : Held) (s : State) (c : Instr) (d : Draw), d = none ∨ s.entropyFailed = true →
    (Running p .bandSetRange h s ∧ c = .bandSetRangeJobComplete d) ∨ (Running p .bandErase h s ∧ c = .bandEraseJobComplete d) →
    ∃ x, exec c s = .next (settle x) ∧ Answers p h .noEntropy 0 x ∧ x.entropyFailed = true ∧ x.w = s.w ∧ x.ks = s.ks ∧
      x.keys = s.keys ∧ x.bands = s.bands ∧ x.backoff = s.backoff) ∧
  (∀ (p : Port) (h : Held) (s : State) (y : Option Secret) (a : BandArgs) (z : Secret) (b : BandId) (kb : Secret),
    Running p .bandSetRange h s → h.env.body = .bandSet y (some a) → b = bandNo a.band.toNat → noOrders s = true →
    s.entropyFailed = false → kb = rowKey (cred s 0) b (.credential (secretPresented h.env.body) (saltOf (cred s 0))) →
    ∃ x, exec (.bandSetRangeJobComplete (some z)) s = .next (settle x) ∧
      (∃ room, box p x = some { h with
        stage := .secretWrite (.media (rootOf s) kb z)
          (if a.enables.getLsbD 0 then none else some { key := kb, under := .root (rootOf s) }),
        room := room }) ∧
      flags x b = { readLocked := true, writeLocked := true, pendingLoad := false, held := true } ∧
      entry x (.band b) = removed (entry s (.band b)) ∧ x.w.secrets = put s.w.secrets b (some z) ∧
      x.w.bands = s.w.bands ∧ x.w.creds = s.w.creds ∧ Carried (secretPage b) x ∧
      ∀ d : BandId, d ≠ b → SameBand d s x) ∧
  (∀ (p : Port) (h : Held) (s : State) (y : Option Secret) (n : Byte) (z : Secret) (b : BandId) (kb : Secret),
    Running p .bandErase h s → h.env.body = .bandErase y (some n) → b = bandNo n.toNat → noOrders s = true →
    s.entropyFailed = false → kb = rowKey (cred s 0) b (.credential (secretPresented h.env.body) (saltOf (cred s 0))) →
    ∃ x, exec (.bandEraseJobComplete (some z)) s = .next (settle x) ∧
      (∃ room, box p x = some { h with stage := .secretWrite (.media (rootOf s) kb z) none, room := room }) ∧
      flags x b = { readLocked := true, writeLocked := true, pendingLoad := false, held := true } ∧
      entry x (.band b) = removed (entry s (.band b)) ∧ x.w.secrets = put s.w.secrets b (some z) ∧
      x.w.bands = s.w.bands ∧ x.w.creds = s.w.creds ∧ Carried (secretPage b) x ∧
      ∀ d : BandId, d ≠ b → SameBand d s x) ∧
  (∀ (y : Option Secret) (a : BandArgs) (key : MediaKey) (wrap : Option Wrap) (s x : State) (b : BandId),
    noOrders s = true → b = bandNo a.band.toNat → x = secretWritten (.bandSet y (some a)) key wrap s →
    record x b = { record s b with
      start := (if a.band = 0 ∨ a.length = 0 then 0 else a.start.toNat),
      length := (if a.band = 0 ∨ a.length = 0 then 0 else a.length.toNat),
      rle := a.enables.getLsbD 0, wle := a.enables.getLsbD 1, relock := a.relock.setWidth 4, openWrap := wrap } ∧
    Carried (bandPage b) x ∧ x.w.secrets = s.w.secrets ∧
    (b ≠ 0 → entry x (.band 0) = { (entry s (.band 0)) with epoch := (entry s (.band 0)).epoch + 1 }) ∧
    (∀ d : BandId, d ≠ b → d ≠ 0 → SameBand d s x ∧ record x d = record s d) ∧
    ((a.enables.getLsbD 0 = true ∨ barred s = true ∨ hasSecret s b = false) →
      flags x b = { readLocked := true, writeLocked := true, pendingLoad := false, held := false } ∧
      (present s (.band b) = false → entry x (.band b) = { key := none, epoch := (entry s (.band b)).epoch + 1 })) ∧
    (a.enables.getLsbD 0 = false → barred s = false → hasSecret s b = true →
      flags x b = { readLocked := false, writeLocked := a.enables.getLsbD 1, pendingLoad := false, held := false } ∧
      (present s (.band b) = false → entry x (.band b) = { key := some key, epoch := (entry s (.band b)).epoch + 2 })) ∧
    (bandSetCheck a s = none → RangesApart s → RangesApart x)) ∧
  ∀ (y : Option Secret) (n : Byte) (key : MediaKey) (wrap : Option Wrap) (s x : State) (b : BandId),
    noOrders s = true → b = bandNo n.toNat → x = secretWritten (.bandErase y (some n)) key wrap s →
    x.w = s.w ∧ x.ks = s.ks ∧ (∀ d : BandId, d ≠ b → SameBand d s x) ∧
    (((record s b).rle = true ∨ barred s = true ∨ hasSecret s b = false) →
      flags x b = { readLocked := true, writeLocked := true, pendingLoad := false, held := false } ∧
      entry x (.band b) = removed (entry s (.band b))) ∧
    ((record s b).rle = false → barred s = false → hasSecret s b = true →
      flags x b = { readLocked := false, writeLocked := (record s b).wle, pendingLoad := false, held := false } ∧
      (present s (.band b) = false → entry x (.band b) = { key := some key, epoch := (entry s (.band b)).epoch + 1 }))

/-- WATCH_RECOVER_JOB_COMPLETE and OPEN_LOAD_JOB_COMPLETE (R5, R120, R148): each band held for its open load is brought to its
enables with its key loaded, and no other band changes; a WATCH_RECOVER is then answered OK (R120). In ALARM and WIPING the job
loads nothing and no band changes (R5, R14). -/
def Obligations.OpenLoadsAreApplied : Prop :=
  ∀ (c : Instr) (s : State), ScrubInWiping s → barred s = false ∨ noOrders s = true →
    ((c = .watchRecoverJobComplete ∧ ∃ p h, Running p .recover h s) ∨
      (c = .openLoadJobComplete ∧ s.engine.running = some (.wipe, .openLoad))) →
    ∃ x, exec c s = .next (settle x) ∧ x.w = s.w ∧ x.ks = s.ks ∧ x.engine = { s.engine with running := none } ∧
      (∀ p h, c = .watchRecoverJobComplete → Running p .recover h s → Answers p h .ok 0 x) ∧
      ∀ b : BandId,
        (barred s = true ∨ (flags s b).pendingLoad = false → SameBand b s x) ∧
        ∀ k : MediaKey, barred s = false → (flags s b).pendingLoad = true → openKey s b = some k → (record s b).rle = false →
          present s (.band b) = false →
          flags x b = { readLocked := false, writeLocked := (record s b).wle, pendingLoad := false, held := false } ∧
          entry x (.band b) = loaded k (entry s (.band b))

/-! ## The check-in -/

/-- CHECKIN_STROBE and CHECKIN_COMPARE_COMPLETE (R125, R126, R175, R99, R102). A strobe zeroes the token field. While a compare
is pending it does nothing else; outside ARMED and SUSPECT and during start-up (R175), with the PLATFORM slot EMPTY or DISABLED,
in its backoff, or with the supply WARN, it sets the check-in status that says so, the first of these in that order; else it
hands the field's copy to the compare. In ARMED and SUSPECT a match sets the check-in counter to 0 and clears the PLATFORM
slot's count and backoff; ARMED stays, and SUSPECT becomes ARMED where no enabled indicator stays asserted, and else stays with
its grace and cause (R131). A mismatch is charged, with a backoff or, at the limit, the slot DISABLED; BUDGET is re-evaluated in
its act, and with BUDGET enabled a failure sum that reaches the limit enters SUSPECT, ALARM or WIPING, while a mismatch that
disables the slot can return SUSPECT to ARMED (R114, R124, R130 to R132). In any other theft state the result is discarded, and
so it is where the slot is not SET; with both, by the model's choice, the status names the theft state (entry 42). The pointer
of a strobe then stands behind it (entry 10). -/
def Obligations.CheckinComparesTheToken : Prop :=
  (∀ s : State, linkUp s = true → s.twu.status = .pending →
    exec .checkinStrobe s = .next (settle { s with
      psp := { s.psp with pointer := 9, token := Vector.replicate 32 0 } })) ∧
  (∀ (s : State) (x : CheckinStatus), linkUp s = true → s.twu.status ≠ .pending →
    ((x = .ignoredState ∧ theft s ≠ .armed ∧ theft s ≠ .suspect) ∨
      ((theft s = .armed ∨ theft s = .suspect) ∧
        ((x = .ignoredSlot ∧ ((cred s 7).state = .empty ∨ (cred s 7).state = .disabled)) ∨
          ((cred s 7).state ≠ .empty ∧ (cred s 7).state ≠ .disabled ∧
            ((x = .ignoredBackoff ∧ 0 < backoffOf s 7) ∨
              (x = .ignoredPower ∧ backoffOf s 7 = 0 ∧ s.supplyOk = false)))))) →
    exec .checkinStrobe s = .next (settle { s with
      psp := { s.psp with pointer := 9, token := Vector.replicate 32 0 }, twu := { s.twu with status := x } })) ∧
  (∀ s : State, linkUp s = false → sidebandOn s = true → exec .checkinStrobe s = .next { s with
    psp := { s.psp with pointer := 9, token := Vector.replicate 32 0 }, twu := { s.twu with status := .ignoredState } }) ∧
  (∀ s : State, linkUp s = true → s.twu.status ≠ .pending → theft s = .armed ∨ theft s = .suspect →
    (cred s 7).state = .set ∨ (cred s 7).state = .blank → backoffOf s 7 = 0 → s.supplyOk = true →
    exec .checkinStrobe s = .next (settle { s with
      psp := { s.psp with pointer := 9, token := Vector.replicate 32 0 }, twu := { s.twu with status := .pending },
      engine := { s.engine with compare := some (.compare (tokenValue s)) } })) ∧
  (∀ (token : Secret) (s : State), s.engine.running = some (.compare, .compare token) →
    (theft s ≠ .armed → theft s ≠ .suspect → exec .checkinCompareComplete s = .next (settle { s with
      engine := { s.engine with running := none }, twu := { s.twu with status := .ignoredState } })) ∧
    (theft s = .armed ∨ theft s = .suspect → (cred s 7).state ≠ .set →
      exec .checkinCompareComplete s = .next (settle { s with
        engine := { s.engine with running := none }, twu := { s.twu with status := .ignoredSlot } }))) ∧
  ∀ (token : Secret) (s : State), s.engine.running = some (.compare, .compare token) →
    theft s = .armed ∨ theft s = .suspect → (cred s 7).state = .set → ScrubInWiping s →
    ∃ x, exec .checkinCompareComplete s = .next (settle x) ∧ x.engine = { s.engine with running := none } ∧
      x.w.root = s.w.root ∧ x.w.secrets = s.w.secrets ∧ x.w.bands = s.w.bands ∧ x.linkBox = s.linkBox ∧
      x.sideBox = s.sideBox ∧
      (verifies (cred s 7) token = true → x.w.creds = s.w.creds ∧ x.bands = s.bands ∧ x.keys = s.keys ∧
        (∀ j : SlotId, count x j = (if j = 7 then 0 else count s j) ∧
          backoffOf x j = if j = 7 then 0 else backoffOf s j) ∧
        (theft s = .armed → theft x = .armed ∧ x.twu = { s.twu with counter := 0, status := .good }) ∧
        (theft s = .suspect →
          (StaysSuspect s (failureSum x) → x.w.watch = s.w.watch ∧ x.twu = { s.twu with counter := 0, status := .good }) ∧
          (¬StaysSuspect s (failureSum x) →
            ReturnsToArmed s x ∧ x.twu = { s.twu with counter := 0, status := .good, grace := 0 }))) ∧
      (verifies (cred s 7) token = false → BudgetFollows s x) ∧
      (verifies (cred s 7) token = false → count s 7 < (cred s 7).hard →
        x.twu.status = .bad ∧ (∀ j : SlotId, count x j = if j = 7 then count s 7 + 1 else count s j) ∧
        (cred x 7).state = (if count s 7 + 1 = (cred s 7).hard then .disabled else .set) ∧
        backoffOf x 7 =
          (if count s 7 + 1 = (cred s 7).hard then 0
           else if count s 7 + 1 ≤ (cred s 7).free then backoffOf s 7
           else backoffDelay 7 (cred s 7) (count s 7 + 1)))

/-! ## The Wipe Engine's jobs -/

/-- ROOT_JOB_COMPLETE, COVER_ZERO_JOB_COMPLETE and REBUILD_ROOT_JOB_COMPLETE (R138, R140, R141, R92): a value drawn becomes the
root secret, whose page the Wipe Engine waits for before the COVER entry follows; without one, ROOT erases the root secret and
derives the cover key from 32 zero bytes, and REBUILD waits for a reset. ROOT hands the job of the zero bytes in that act where
the erasure has a place in the queue, and else once it has one (R158; entry 45). What follows page writes: the journal and the
watch page hand ROOT's job (R137); ROOT's root page loads the COVER entry and names REBUILD (R138, R13); REBUILD begins with its
root job where the root needs a secret, else with its admin job (R139, R140); and its root page loads the COVER entry before
that. -/
def Obligations.RootSecretIsReplaced : Prop :=
  (∀ (c : Draw → Instr) (s : State) (r : Secret) (act : MediaKey → WipeActivity), s.entropyFailed = false →
    ((c = .rootJobComplete ∧ s.engine.running = some (.wipe, .root) ∧ s.wipe.activity = .rootJob ∧ act = .rootWrite) ∨
      (c = .rebuildRootJobComplete ∧ s.engine.running = some (.wipe, .rebuildRoot) ∧ s.wipe.activity = .rebuildRootJob ∧
        act = .rebuildRootWrite)) →
    (∃ x, exec (c (some r)) s = .next (settle x) ∧ x.w = { s.w with root := some r } ∧
      x.wipe.activity = act (.cover r) ∧ Carried rootPage x ∧
      (reference s rootPage ≠ some (.root r) → waits .wipe x = true) ∧ x.keys = s.keys ∧ x.bands = s.bands ∧
      x.entropyFailed = false) ∧
    (∃ x, exec (c none) s = .next (settle x) ∧ x.entropyFailed = true ∧ x.keys = s.keys ∧ x.bands = s.bands ∧
      (s.wipe.activity = .rootJob →
        x.w = { s.w with root := none } ∧ x.wipe.activity = .coverZeroWait ∧ x.wipe.rootNeeds = true ∧
        Carried rootPage x ∧ (reference s rootPage ≠ none → waits .wipe x = true)) ∧
      (s.wipe.activity = .rebuildRootJob → x.w = s.w ∧ x.ks = s.ks ∧ x.wipe = { s.wipe with activity := .noEntropy }))) ∧
  (∀ s : State, s.engine.running = some (.wipe, .coverZero) → s.wipe.activity = .coverZeroJob →
    exec .coverZeroJobComplete s = .next (settle { s with
      engine := { s.engine with running := none }, wipe := { s.wipe with activity := .rootWrite (.cover 0) } })) ∧
  (∀ s : State, WipeMoves s → s.wipe.activity = .coverZeroWait →
    (listsWaiter s.ks.room .wipe = true → Follows s s) ∧
    (listsWaiter s.ks.room .wipe = false → wipeBusy s = false → Follows s { s with
      wipe := { s.wipe with activity := .coverZeroJob }, engine := { s.engine with wipe := some .coverZero } })) ∧
  ∀ s : State, WipeMoves s → ScrubInWiping s → waits .wipe s = false →
    (s.wipe.activity = .rootWait → wipeBusy s = false → Follows s { s with
      wipe := { s.wipe with activity := .rootJob }, engine := { s.engine with wipe := some .root } }) ∧
    (∀ k : MediaKey, s.wipe.activity = .rootWrite k → ∃ x, Follows s x ∧ x.keys.cover = loaded k s.keys.cover ∧
      x.w = { s.w with plan := { s.w.plan with phase := .rebuild } } ∧ x.wipe = { s.wipe with activity := .rebuildWait } ∧
      Carried journalPage x ∧ x.keys.bands = s.keys.bands ∧ x.keys.fill = s.keys.fill ∧ x.bands = s.bands) ∧
    (s.wipe.activity = .rebuildWait → wipeBusy s = false →
      (s.entropyFailed = true ∨ startedIn .link s = true ∨ startedIn .side s = true → Follows s s) ∧
      (s.entropyFailed = false → startedIn .link s = false → startedIn .side s = false →
        (s.wipe.rootNeeds = true → Follows s { s with
          wipe := { s.wipe with activity := .rebuildRootJob }, engine := { s.engine with wipe := some .rebuildRoot } }) ∧
        (s.wipe.rootNeeds = false → Follows s { s with
          wipe := { s.wipe with activity := .rebuildAdminJob }, engine := { s.engine with wipe := some .rebuildAdmin } }))) ∧
    ∀ k : MediaKey, s.wipe.activity = .rebuildRootWrite k → wipeBusy s = false → ∃ x, Follows s x ∧
      x.keys.cover = loaded k s.keys.cover ∧ x.w = s.w ∧ x.ks = s.ks ∧ x.keys.bands = s.keys.bands ∧ x.bands = s.bands ∧
      x.wipe = { s.wipe with activity := .rebuildAdminJob, rootNeeds := false } ∧ x.engine.wipe = some .rebuildAdmin

/-- REBUILD_ADMIN_JOB_COMPLETE and REBUILD_BAND_JOB_COMPLETE (R140): the ADMIN slot is BLANK under the secret of 32 zero bytes
and every other slot EMPTY, all with the default limits, no counts and no backoffs; then each band in turn has a fresh secret, a
blank record and a wrap in the ADMIN row. A value that is missing or fails its test (R91, R92) makes the ES FAILED, and REBUILD
stops where it stands until a reset (R139, R141): the job changes nothing else, and no job follows it. That no epoch rises where
a band's start and length become 0 is the model's choice (entry 40). The next band's job, and after band 15 the reset of the
drive configuration to its default, wait until the pages of the band before have room (R158). When every page REBUILD queued is
written the first pass is named, or the wipe reaches DONE, with passes 0 or, with a result ABANDONED, where start-up abandons
the scrub (R141, R153). -/
def Obligations.RebuildBlanksSlotsAndBands : Prop :=
  (∀ (s : State) (salt : Secret), s.engine.running = some (.wipe, .rebuildAdmin) → s.wipe.activity = .rebuildAdminJob →
    s.entropyFailed = false → theft s = .wiping →
    ∃ x, exec (.rebuildAdminJobComplete (some salt)) s = .next (settle x) ∧ x.wipe.activity = .rebuildNext 0 ∧
      (cred x 0).state = .blank ∧ verifies (cred x 0) 0 = true ∧ (cred x 0).row = (cred s 0).row ∧ (cred x 0).hard = 32 ∧
      (∀ k : SlotId, count x k = 0 ∧ backoffOf x k = 0 ∧ (cred x k).free = 4 ∧ (cred x k).base = 1 ∧ (cred x k).cap = 3600 ∧
        Carried (attemptPage k) x ∧ Carried (credPage k) x ∧
        (k ≠ 0 → (cred x k).state = .empty ∧ (cred x k).verifier = none ∧ (cred x k).hard = 16 ∧
          ∀ b : BandId, (cred x k).row.get b = none)) ∧
      x.w.bands = s.w.bands ∧ x.w.secrets = s.w.secrets ∧ x.w.root = s.w.root ∧ x.keys = s.keys ∧ theft x = .wiping) ∧
  (∀ (s : State) (b : BandId) (c : Instr) (d e : Draw),
    (s.engine.running = some (.wipe, .rebuildAdmin) ∧ s.wipe.activity = .rebuildAdminJob ∧ c = .rebuildAdminJobComplete d ∧
      (d = none ∨ s.entropyFailed = true)) ∨
    (s.engine.running = some (.wipe, .rebuildBand b) ∧ s.wipe.activity = .rebuildBandJob b ∧ c = .rebuildBandJobComplete d e ∧
      (d = none ∨ e = none ∨ s.entropyFailed = true)) →
    exec c s = .next (settle { s with
      engine := { s.engine with running := none }, entropyFailed := true,
      wipe := { s.wipe with activity := .noEntropy } })) ∧
  (∀ (s : State) (b : BandId) (z kb : Secret), s.engine.running = some (.wipe, .rebuildBand b) →
    s.wipe.activity = .rebuildBandJob b → s.entropyFailed = false →
    ∃ x, exec (.rebuildBandJobComplete (some z) (some kb)) s = .next (settle x) ∧
      x.w.secrets = put s.w.secrets b (some z) ∧
      record x b = { start := 0, length := 0, rle := false, wle := false, relock := 0,
                     openWrap := some { key := kb, under := .root (rootOf s) } } ∧
      (cred x 0).row.get b = some { key := kb, under := .credential 0 (saltOf (cred s 0)) } ∧
      Carried (secretPage b) x ∧ Carried (bandPage b) x ∧ Carried (credPage 0) x ∧
      (∀ c : BandId, c ≠ b → record x c = record s c ∧ (cred x 0).row.get c = (cred s 0).row.get c) ∧
      x.wipe.activity = (if b = 15 then .rebuildConfigWait else .rebuildNext (b + 1)) ∧ x.w.config = s.w.config ∧
      x.keys = s.keys ∧ x.bands = s.bands) ∧
  ∀ s : State, WipeMoves s → ScrubInWiping s →
    (listsWaiter s.ks.room .wipe = true → (∃ b, s.wipe.activity = .rebuildNext b) ∨ s.wipe.activity = .rebuildConfigWait →
      Follows s s) ∧
    (listsWaiter s.ks.room .wipe = false →
      (∀ b : BandId, s.wipe.activity = .rebuildNext b → wipeBusy s = false → Follows s { s with
        wipe := { s.wipe with activity := .rebuildBandJob b }, engine := { s.engine with wipe := some (.rebuildBand b) } }) ∧
      (s.wipe.activity = .rebuildConfigWait → ∃ x, Follows s x ∧ x.w.config = DriveConfig.default ∧ x.coverPermit = false ∧
        x.twu.meterOn = false ∧ x.twu.tetherLost = false ∧ Carried configPage x ∧ x.w.root = s.w.root ∧
        x.w.secrets = s.w.secrets ∧ x.w.bands = s.w.bands ∧ x.w.creds = s.w.creds ∧
        (waits .wipe s = true → x.wipe.activity = .rebuildEnd ∧ x.w.plan = s.w.plan ∧ x.keys = s.keys ∧ x.bands = s.bands))) ∧
    (s.wipe.activity = .rebuildEnd → waits .wipe s = false → ∃ x, Follows s x ∧ x.keys.cover = s.keys.cover ∧
      x.keys.fill = s.keys.fill ∧
      (s.w.plan.passes = .times 0 → ReachesDone s x ∧ x.w.plan = s.w.plan ∧ x.wipe.ring = s.wipe.ring) ∧
      (s.w.plan.passes ≠ .times 0 → s.wipe.abandon = true → ReachesDone s x ∧
        StoresResult .abandoned (if s.w.plan.pass = 0 then 1 else s.w.plan.pass) s.w.plan.written s.w.plan.refused s x) ∧
      (s.w.plan.passes ≠ .times 0 → s.wipe.abandon = false → theft x = theft s ∧ x.wipe.activity = .passWait ∧
        x.w.plan = { s.w.plan with phase := .scrub, pass := 1, watermark := 0, written := 0, refused := 0 } ∧
        Carried journalPage x ∧ x.bands = s.bands))

/-- FILL_KEY_JOB_COMPLETE (R142, R143, R13): the FILL entry takes the drawn key, the pass runs from the plan's watermark, and up
to four orders of at most 256 sectors are issued, while the link is UP; without a value the pass does not begin. A pass resumed
at the scrub end ends at once (R147, R148; entry 35). The job is handed when the journal naming the pass is written (R142); and
when the watch page carrying WIPED is written the journal names DONE, whatever else is still to be written (R148, R160). -/
def Obligations.FillKeyBeginsThePass : Prop :=
  (∀ s : State, WipeMoves s →
    (s.wipe.activity = .passWait → waits .wipe s = false → wipeBusy s = false → Follows s { s with
      wipe := { s.wipe with activity := .fillJob }, engine := { s.engine with wipe := some .fillKey } }) ∧
    (s.wipe.activity = .doneWait → waitsFor .wipe watchPage s = false → ∃ x, Follows s x ∧
      x.w = { s.w with plan := { s.w.plan with phase := .done } } ∧ x.wipe = { s.wipe with activity := .idle } ∧
      Carried journalPage x ∧ x.keys = s.keys ∧ x.bands = s.bands ∧ x.engine = s.engine)) ∧
  (∀ (s : State) (k : Secret), s.engine.running = some (.wipe, .fillKey) → s.wipe.activity = .fillJob →
    s.entropyFailed = false → ScrubInWiping s → scrubEnd s ≤ s.w.plan.watermark →
    ∃ x, exec (.fillKeyJobComplete (some k)) s = .next (settle x) ∧ x.wipe.running = false ∧ present x .fill = false ∧
      StoresResult (if s.w.plan.stop then .stopped else .complete) s.w.plan.pass s.w.plan.written s.w.plan.refused s x ∧
      (s.w.plan.stop = true ∨ (∃ n : Fin 4, s.w.plan.passes = .times n ∧ s.w.plan.pass = n.val) →
        theft x = .wiped ∧ x.wipe.activity = .doneWait ∧ Carried watchPage x)) ∧
  ∀ (s : State) (k : Secret), s.engine.running = some (.wipe, .fillKey) → s.wipe.activity = .fillJob →
    s.entropyFailed = false →
    (s.w.plan.watermark < scrubEnd s → ∃ x, exec (.fillKeyJobComplete (some k)) s = .next (settle x) ∧
      x.keys.fill = loaded (.fill k) s.keys.fill ∧
      x.wipe.activity = .scanning ∧ x.wipe.running = true ∧ x.wipe.written = s.w.plan.written ∧
      x.wipe.refused = s.w.plan.refused ∧ x.w = s.w ∧ x.keys.bands = s.keys.bands ∧ x.keys.cover = s.keys.cover ∧
      (linkUp s = false → x.wipe.orders = s.wipe.orders ∧ x.link = s.link ∧ x.wipe.issuePoint = s.w.plan.watermark) ∧
      (linkUp s = true → noOrders s = true → ∀ i : OrderSlot, x.wipe.orders.get i =
        if s.w.plan.watermark + 256 * i.val < scrubEnd s then
          some { pass := s.w.plan.pass, first := s.w.plan.watermark + 256 * i.val,
                 count := min 256 (scrubEnd s - (s.w.plan.watermark + 256 * i.val)), answered := false }
        else none)) ∧
    exec (.fillKeyJobComplete none) s = .next (settle { s with
      engine := { s.engine with running := none }, entropyFailed := true,
      wipe := { s.wipe with activity := .noEntropy } })

/-! ## The Key Store -/

/-- PAGE_WRITE_COMPLETE (R159, R161): the page holds the copy that was written, or is BLANK after an erasure, every other page
is as it was, and the writer is IDLE; a start-up that waited for the writer then begins. What follows at once (R158, R159, R160;
entry 20), with nothing else to follow: the IDLE writer, the supply being OK, cancels each entry whose page stands in the store
as it is and takes the first that does not, with a copy of the page's content and its waiters; what stays keeps its order, the
first 16 in the queue and the rest on the room wait list. -/
def Obligations.WriteCompletes : Prop :=
  (∀ s : State, s.linkBox = none → s.sideBox = none → s.wipe.activity = .idle → engineQuiet s = true →
    s.wipe.toHand = none ∨ wipeBusy s = true →
    ∃ q : List QEntry, ∃ w : Option Writing,
      settle s = { s with ks := { pages := s.ks.pages, queue := q.take 16, room := q.drop 16, writer := w } } ∧
      (s.ks.writer ≠ none ∨ s.supplyOk = false → w = s.ks.writer ∧ q = s.ks.queue ++ s.ks.room) ∧
      (s.ks.writer = none → s.supplyOk = true →
        ((∀ d ∈ s.ks.queue ++ s.ks.room, pageOf s d.page = committed s d.page) → w = none ∧ q = []) ∧
        ∀ (pre : List QEntry) (e : QEntry) (es : List QEntry), s.ks.queue ++ s.ks.room = pre ++ e :: es →
          (∀ d ∈ pre, pageOf s d.page = committed s d.page) → pageOf s e.page ≠ committed s e.page →
          w = some { page := e.page, content := pageOf s e.page, waiters := e.waiters } ∧ q = es)) ∧
  ∀ (s : State) (x : Writing), s.ks.writer = some x →
    (s.mode ≠ .writerWait →
      exec .pageWriteComplete s = .next (settle { s with ks := { s.ks with
        pages := put s.ks.pages x.page (match x.content with
          | some c => .intact c
          | none => .blank),
        writer := none } })) ∧
    (s.mode = .writerWait → ∀ i : Identity, x.page ≠ 0 → s.ks.pages.get 0 = .intact (.identity i) →
      ∃ t, exec .pageWriteComplete s = .next t ∧ t.mode = .keyJobs ∧
        ∀ q : PageId, t.ks.pages.get q =
          if q = x.page then (match x.content with
            | some c => .intact c
            | none => .blank)
          else s.ks.pages.get q)

/-! ## Locks and the sideband -/

/-- LOCK over the link, and SUSPEND, LID_CLOSED and LOCK_ALL over the sideband (R3, R6, R7, R174): LOCK locks the bands it names
and is answered OK, or names an index above 15 and is answered BAD_ARGUMENT with no band locked, or in WIPING is DENIED; an
event locks the bands whose relock set names it, LOCK_ALL those with RLE or WLE. During start-up an event changes nothing but
the pointer (R178), which then stands behind the event byte (entry 10). -/
def Obligations.LocksLockTheirBands : Prop :=
  ∀ s : State,
    (∀ (id : BitVec 16) (v : BitVec 32), LinkTakes s → s.linkBox = none → theft s ≠ .wiping →
      (65536 ≤ v.toNat → exec (.lock id (some v)) s = .next (settle { s with
        link := { s.link with outbound := s.link.outbound ++
          [.response { id := id, status := .badArgument, wait := 0, granted := 0, report := [] }] } })) ∧
      (v.toNat < 65536 → ScrubInWiping s → ∃ x, exec (.lock id (some v)) s = .next (settle x) ∧
        LockedBands (names v) s x ∧
        x.link.outbound.getLast? =
          some (.response { id := id, status := .ok, wait := 0, granted := 0, report := [] }))) ∧
    (∀ (id : BitVec 16) (v : BitVec 32), LinkTakes s → s.linkBox = none → theft s = .wiping →
      exec (.lock id (some v)) s = .next (settle { s with
        link := { s.link with outbound := s.link.outbound ++
          [.response { id := id, status := .denied, wait := 0, granted := 0, report := [] }] } })) ∧
    (linkUp s = true → noOrders s = true →
      (∃ x, exec .suspend s = .next x ∧ LockedBands (fun b => (record s b).relock.getLsbD 0) s x ∧ x.psp.pointer = 8) ∧
      (∃ x, exec .lidClosed s = .next x ∧ LockedBands (fun b => (record s b).relock.getLsbD 1) s x ∧ x.psp.pointer = 8) ∧
      (∃ x, exec .lockAll s = .next x ∧ LockedBands (fun b => (record s b).rle || (record s b).wle) s x ∧
        x.psp.pointer = 8)) ∧
    (linkUp s = false → sidebandOn s = true →
      ∀ c : Instr, c = .suspend ∨ c = .lidClosed ∨ c = .lockAll →
        exec c s = .next { s with psp := { s.psp with pointer := 8 } })

/-- POINTER_SET, REGISTER_WRITE and REPORT_PAGE_SELECT (R169 to R171, R175 to R177): the pointer is set; a byte written lands in
the token field, the request buffer or the report page, and at a location that only reads it is ignored, and the pointer
advances, from 0xFF to 0x00; the command for the page stands for the pointer too (entry 10). A byte written to the event byte,
the strobe or the report page does what their own commands do, and a value that the byte does not define is ignored (R174, R175,
R177). 0x01 written to the submit byte submits the request buffer, whose 64 bytes are then zero, with the pointer behind the
submit byte (R176, R170): during start-up it is refused BUSY (R84); else it is BUSY while the mailbox holds a request, refused
as the mailbox's checks give, and does what the command of the envelope does. A part whose sideband is off acknowledges none of
them. -/
def Obligations.WindowWrites : Prop :=
  ∀ (v : Byte) (s : State),
    (sidebandOn s = false → exec (.pointerSet v) s = .next s ∧ exec (.registerWrite v) s = .next s ∧
      exec (.reportPageSelect v) s = .next s) ∧
    (sidebandOn s = true →
      exec (.pointerSet v) s = .next { s with psp := { s.psp with pointer := v } } ∧
      exec (.reportPageSelect v) s = .next { s with
        psp := { s.psp with pointer := 0x72, page := if v.toNat < 8 then v.toNat else s.psp.page } } ∧
      (∀ i : Fin 32, s.psp.pointer.toNat = 0x10 + i.val → exec (.registerWrite v) s = .next { s with
        psp := { s.psp with pointer := s.psp.pointer + 1, token := put s.psp.token i v } }) ∧
      (∀ i : Fin 64, s.psp.pointer.toNat = 0x80 + i.val → exec (.registerWrite v) s = .next { s with
        psp := { s.psp with pointer := s.psp.pointer + 1, buffer := put s.psp.buffer i v } }) ∧
      (s.psp.pointer = 7 →
        (v = 1 → exec (.registerWrite v) s = exec .suspend s) ∧ (v = 2 → exec (.registerWrite v) s = exec .lidClosed s) ∧
        (v = 3 → exec (.registerWrite v) s = exec .lockAll s) ∧
        (v = 0 ∨ 3 < v.toNat → exec (.registerWrite v) s = .next { s with psp := { s.psp with pointer := 8 } })) ∧
      (s.psp.pointer = 8 →
        (v = 1 → exec (.registerWrite v) s = exec .checkinStrobe s) ∧
        (v ≠ 1 → exec (.registerWrite v) s = .next { s with psp := { s.psp with pointer := 9 } })) ∧
      (s.psp.pointer = 0x71 → exec (.registerWrite v) s = exec (.reportPageSelect v) s) ∧
      (s.psp.pointer = 0x70 →
        submitted .side s = { s with psp := { s.psp with pointer := 0x71, buffer := Vector.replicate 64 0 } } ∧
        (v ≠ 1 → exec (.registerWrite v) s = .next { s with psp := { s.psp with pointer := 0x71 } }) ∧
        (v = 1 → ∀ e : Envelope, e = bufferEnvelope s →
          (linkUp s = false → exec (.registerWrite v) s = .next (respond .side
            { id := e.id, status := .busy, wait := 0, granted := 0, report := [] } (submitted .side s))) ∧
          (linkUp s = true →
            (∀ c : Instr, requestOf c = some (.side, e) → exec (.registerWrite v) s = exec c s) ∧
            (box .side s ≠ none → exec (.registerWrite v) s = .next (settle (respond .side
              { id := e.id, status := .busy, wait := 0, granted := 0, report := [] } (submitted .side s)))) ∧
            (box .side s = none → ∀ x : RStatus, mailboxCheck .side e.body s = some x →
              exec (.registerWrite v) s = .next (settle (respond .side
                { id := e.id, status := x, wait := 0, granted := 0, report := [] } (submitted .side s))))))) ∧
      (s.psp.pointer.toNat < 7 ∨ (9 ≤ s.psp.pointer.toNat ∧ s.psp.pointer.toNat < 0x10) ∨
          (0x30 ≤ s.psp.pointer.toNat ∧ s.psp.pointer.toNat < 0x70) ∨
          (0x72 ≤ s.psp.pointer.toNat ∧ s.psp.pointer.toNat < 0x80) ∨ 0xC0 ≤ s.psp.pointer.toNat →
        exec (.registerWrite v) s = .next { s with psp := { s.psp with pointer := s.psp.pointer + 1 } }))

/-- NOTICE_BYTE_READ, RESULT_RECORD_READ and LATCHED_READ over the whole window (R150, R170 to R173, R178, R191). The notice
byte is read and cleared, so ALERT goes. The first byte of a latched item latches the whole item, and that of a result record
clears its unread flag, but that during start-up a record reads as empty and stays as it is; a later byte comes from the latch,
whatever the item now holds, and where the latch holds another item or none from the item itself. The items stand where R191
places them and spell, least significant byte first (R185): the failure sum over the slots not DISABLED (R114), the grace
rounded up to seconds in SUSPECT (R133), the check-in counter in whole seconds up to 65,535 (R123), the result records and the
response header (R177); the first three read 0 during start-up. LATCHED_READ at a plain location serves the identification, the
theft state (STARTING during start-up), the indicator set (R122; 0 during start-up), the check-in status, the submit byte (0x01
during start-up), the report page and the report view, and 0x00 where a location is written only or undefined; at the notice
byte and at a record's first byte it does what their own commands do (entry 11). Those commands stand for the pointer too (entry
10); `served` is the model's own record of the byte begun (entry 21). A part whose sideband is off answers none of them (R169).
-/
def Obligations.WindowReads : Prop :=
  (∀ (r : OrderSlot) (n a : Nat),
    (n < 2 → itemAt (0x0A + n) = some (.failureSum, n) ∧ itemAt (0x0C + n) = some (.grace, n) ∧
      itemAt (0x0E + n) = some (.checkin, n)) ∧
    (n < 16 → itemAt (0x30 + 16 * r.val + n) = some (.record r, n)) ∧
    (n < 8 → itemAt (0x78 + n) = some (.header, n)) ∧
    (a < 0x0A ∨ (0x10 ≤ a ∧ a < 0x30) ∨ (0x70 ≤ a ∧ a < 0x78) ∨ 0x80 ≤ a → itemAt a = none)) ∧
  (∀ s : State,
    failureSum s = ((List.finRange 8).map fun i => if (cred s i).state = .disabled then 0 else count s i).sum ∧
    (itemBytes s .failureSum).length = 2 ∧ (itemBytes s .grace).length = 2 ∧ (itemBytes s .checkin).length = 2 ∧
    (itemBytes s .header).length = 8 ∧
    field (itemBytes s .failureSum) 0 2 = (if linkUp s = true then failureSum s else 0) % 65536 ∧
    field (itemBytes s .grace) 0 2 =
      (if linkUp s = true ∧ theft s = .suspect then (s.twu.grace + 1023) / 1024 else 0) % 65536 ∧
    field (itemBytes s .checkin) 0 2 = (if linkUp s = true then min (s.twu.counter / 1024) 65535 else 0) ∧
    field (itemBytes s .header) 0 1 = s.psp.response.sequence.toNat ∧
    field (itemBytes s .header) 1 2 = s.psp.response.id.toNat ∧
    field (itemBytes s .header) 3 1 = (s.psp.response.status + 16 * ((s.psp.response.report.length + 63) / 64)) % 256 ∧
    field (itemBytes s .header) 4 2 = s.psp.response.wait % 65536 ∧
    field (itemBytes s .header) 6 2 = s.psp.response.granted.toNat ∧
    ∀ r : OrderSlot,
      (itemBytes s (.record r)).length = 16 ∧ (linkUp s = false → itemBytes s (.record r) = List.replicate 16 0) ∧
      (linkUp s = true → itemBytes s (.record r) = recordBytes (s.wipe.ring.get r)) ∧
      (s.wipe.ring.get r = none → recordBytes (s.wipe.ring.get r) = List.replicate 16 0) ∧
      ∀ x : Machine.Result, s.wipe.ring.get r = some x →
        field (recordBytes (some x)) 0 1 = (if x.unread = true then 1 else 0) + (if x.overrun = true then 2 else 0) ∧
        field (recordBytes (some x)) 1 1 =
          (match x.ended with
           | .complete => 1
           | .stopped => 2
           | .abandoned => 3) +
          16 * (match x.cause with
            | none => 0
            | some .theft => 1
            | some .remote => 2
            | some .owner => 3
            | some .revert => 4
            | some .storeLoss => 5) ∧
        field (recordBytes (some x)) 2 2 = x.pass % 2 ^ 16 ∧ field (recordBytes (some x)) 4 6 = x.written % 2 ^ 48 ∧
        field (recordBytes (some x)) 10 6 = x.refused % 2 ^ 48) ∧
  (∀ s : State, sidebandOn s = false →
    exec .noticeByteRead s = .next s ∧ exec .latchedRead s = .next s ∧
      ∀ r : OrderSlot, exec (.resultRecordRead r) s = .next s) ∧
  ∀ s : State, sidebandOn s = true →
    (∃ t, exec .noticeByteRead s = .next t ∧ alert t = false ∧
      t = { s with psp := { s.psp with notice := 0, pointer := 5, served := s.psp.notice.setWidth 8 } }) ∧
    (∀ r : OrderSlot, ∃ t, exec (.resultRecordRead r) s = .next t ∧
      (linkUp s = true →
        t.psp = { s.psp with pointer := BitVec.ofNat 8 (0x31 + 16 * r.val),
                             served := byteAt (recordBytes (s.wipe.ring.get r)) 0,
                             latch := some (.record r, recordBytes (s.wipe.ring.get r)) } ∧
        ∀ q : OrderSlot, t.wipe.ring.get q =
          if q = r then (s.wipe.ring.get r).map fun x => { x with unread := false } else s.wipe.ring.get q) ∧
      (linkUp s = false →
        t.psp = { s.psp with pointer := BitVec.ofNat 8 (0x31 + 16 * r.val), served := 0,
                             latch := some (.record r, List.replicate 16 0) } ∧
        t.wipe = s.wipe) ∧
      t.w = s.w ∧ t.ks = s.ks ∧ t.keys = s.keys ∧ t.bands = s.bands) ∧
    (∀ (i : Item) (n : Nat) (xs : List Byte), itemAt s.psp.pointer.toNat = some (i, n) → 0 < n →
      s.psp.latch = some (i, xs) → Serves (byteAt xs n) s) ∧
    (∀ (i : Item) (n : Nat), itemAt s.psp.pointer.toNat = some (i, n) → 0 < n → (∀ xs, s.psp.latch ≠ some (i, xs)) →
      Serves (byteAt (itemBytes s i) n) s) ∧
    (∀ i : Item, itemAt s.psp.pointer.toNat = some (i, 0) → (∀ r, i ≠ .record r) →
      exec .latchedRead s = .next { s with
        psp := { s.psp with pointer := s.psp.pointer + 1, served := byteAt (itemBytes s i) 0,
                            latch := some (i, itemBytes s i) } }) ∧
    (∀ r : OrderSlot, s.psp.pointer.toNat = 0x30 + 16 * r.val → exec .latchedRead s = exec (.resultRecordRead r) s) ∧
    (s.psp.pointer = 0 → Serves 0x9C s) ∧ (s.psp.pointer = 1 → Serves 0x40 s) ∧
    (s.psp.pointer = 2 ∨ s.psp.pointer = 3 → Serves 1 s) ∧
    (s.psp.pointer = 4 → exec .latchedRead s = exec .noticeByteRead s) ∧
    (s.psp.pointer = 5 → Serves (if linkUp s = false then 15 else
      match theft s with
      | .dormant => 0
      | .armed => 1
      | .suspect => 2
      | .alarm => 3
      | .wiping => 4
      | .wiped => 5) s) ∧
    (s.psp.pointer = 6 → linkUp s = false → Serves 0 s) ∧
    (s.psp.pointer = 6 → linkUp s = true → ∃ v : Byte, Serves v s ∧ v.toNat < 16 ∧
      (v.getLsbD 0 = true ↔ ∃ p, s.w.watch.policy = some p ∧ watchPeriod p.periodIndex ≤ s.twu.counter) ∧
      v.getLsbD 1 = s.twu.tetherLost ∧ v.getLsbD 2 = s.w.watch.latch ∧
      (v.getLsbD 3 = true ↔ ∃ p, s.w.watch.policy = some p ∧ p.budget ≤ failureSum s)) ∧
    (s.psp.pointer = 9 → Serves (match s.twu.status with
      | .none => 0
      | .pending => 1
      | .good => 2
      | .bad => 3
      | .ignoredState => 4
      | .ignoredSlot => 5
      | .ignoredBackoff => 6
      | .ignoredPower => 7) s) ∧
    (s.psp.pointer = 0x70 → Serves (if linkUp s = true ∧ s.sideBox = none then 0 else 1) s) ∧
    (s.psp.pointer = 0x71 → Serves (BitVec.ofNat 8 s.psp.page) s) ∧
    (s.psp.pointer = 7 ∨ s.psp.pointer = 8 ∨ (0x10 ≤ s.psp.pointer.toNat ∧ s.psp.pointer.toNat < 0x30) ∨
        (0x72 ≤ s.psp.pointer.toNat ∧ s.psp.pointer.toNat < 0x78) ∨
        (0x80 ≤ s.psp.pointer.toNat ∧ s.psp.pointer.toNat < 0xC0) → Serves 0 s) ∧
    (0xC0 ≤ s.psp.pointer.toNat →
      Serves (byteAt s.psp.response.report (s.psp.page * 64 + (s.psp.pointer.toNat - 0xC0))) s)
end

