-- ==== Sys2Proof/Laws/State.lean ====
section
/-! SUPPORT. What each update of the state leaves as it was, field by field, and what it writes. -/

namespace Sys2Proof.Machine

variable (s : State)

/-! ### hand -/

@[simp] theorem hand_mode (m : OutMsg) : (hand m s).mode = s.mode := rfl
@[simp] theorem hand_supplyOk (m : OutMsg) : (hand m s).supplyOk = s.supplyOk := rfl
@[simp] theorem hand_supplyPrev (m : OutMsg) : (hand m s).supplyPrev = s.supplyPrev := rfl
@[simp] theorem hand_supplySeenOk (m : OutMsg) : (hand m s).supplySeenOk = s.supplySeenOk := rfl
@[simp] theorem hand_divider (m : OutMsg) : (hand m s).divider = s.divider := rfl
@[simp] theorem hand_addrSel (m : OutMsg) : (hand m s).addrSel = s.addrSel := rfl
@[simp] theorem hand_entropyFailed (m : OutMsg) : (hand m s).entropyFailed = s.entropyFailed := rfl
@[simp] theorem hand_entropyTest (m : OutMsg) : (hand m s).entropyTest = s.entropyTest := rfl
@[simp] theorem hand_startup (m : OutMsg) : (hand m s).startup = s.startup := rfl
@[simp] theorem hand_held (m : OutMsg) : (hand m s).held = s.held := rfl
@[simp] theorem hand_ks (m : OutMsg) : (hand m s).ks = s.ks := rfl
@[simp] theorem hand_w (m : OutMsg) : (hand m s).w = s.w := rfl
@[simp] theorem hand_bands (m : OutMsg) : (hand m s).bands = s.bands := rfl
@[simp] theorem hand_coverPermit (m : OutMsg) : (hand m s).coverPermit = s.coverPermit := rfl
@[simp] theorem hand_keys (m : OutMsg) : (hand m s).keys = s.keys := rfl
@[simp] theorem hand_backoff (m : OutMsg) : (hand m s).backoff = s.backoff := rfl
@[simp] theorem hand_twu (m : OutMsg) : (hand m s).twu = s.twu := rfl
@[simp] theorem hand_wipe (m : OutMsg) : (hand m s).wipe = s.wipe := rfl
@[simp] theorem hand_engine (m : OutMsg) : (hand m s).engine = s.engine := rfl
@[simp] theorem hand_linkBox (m : OutMsg) : (hand m s).linkBox = s.linkBox := rfl
@[simp] theorem hand_sideBox (m : OutMsg) : (hand m s).sideBox = s.sideBox := rfl
@[simp] theorem hand_dq (m : OutMsg) : (hand m s).dq = s.dq := rfl
@[simp] theorem hand_stu (m : OutMsg) : (hand m s).stu = s.stu := rfl
@[simp] theorem hand_laneA (m : OutMsg) : (hand m s).laneA = s.laneA := rfl
@[simp] theorem hand_laneB (m : OutMsg) : (hand m s).laneB = s.laneB := rfl
@[simp] theorem hand_psp (m : OutMsg) : (hand m s).psp = s.psp := rfl
@[simp] theorem hand_pending (m : OutMsg) : (hand m s).pending = s.pending := rfl

/-! ### handState -/

@[simp] theorem handState_mode : (handState s).mode = s.mode := rfl
@[simp] theorem handState_supplyOk : (handState s).supplyOk = s.supplyOk := rfl
@[simp] theorem handState_supplyPrev : (handState s).supplyPrev = s.supplyPrev := rfl
@[simp] theorem handState_supplySeenOk : (handState s).supplySeenOk = s.supplySeenOk := rfl
@[simp] theorem handState_divider : (handState s).divider = s.divider := rfl
@[simp] theorem handState_addrSel : (handState s).addrSel = s.addrSel := rfl
@[simp] theorem handState_entropyFailed : (handState s).entropyFailed = s.entropyFailed := rfl
@[simp] theorem handState_entropyTest : (handState s).entropyTest = s.entropyTest := rfl
@[simp] theorem handState_startup : (handState s).startup = s.startup := rfl
@[simp] theorem handState_held : (handState s).held = s.held := rfl
@[simp] theorem handState_ks : (handState s).ks = s.ks := rfl
@[simp] theorem handState_w : (handState s).w = s.w := rfl
@[simp] theorem handState_bands : (handState s).bands = s.bands := rfl
@[simp] theorem handState_coverPermit : (handState s).coverPermit = s.coverPermit := rfl
@[simp] theorem handState_keys : (handState s).keys = s.keys := rfl
@[simp] theorem handState_backoff : (handState s).backoff = s.backoff := rfl
@[simp] theorem handState_twu : (handState s).twu = s.twu := rfl
@[simp] theorem handState_wipe : (handState s).wipe = s.wipe := rfl
@[simp] theorem handState_engine : (handState s).engine = s.engine := rfl
@[simp] theorem handState_linkBox : (handState s).linkBox = s.linkBox := rfl
@[simp] theorem handState_sideBox : (handState s).sideBox = s.sideBox := rfl
@[simp] theorem handState_dq : (handState s).dq = s.dq := rfl
@[simp] theorem handState_stu : (handState s).stu = s.stu := rfl
@[simp] theorem handState_laneA : (handState s).laneA = s.laneA := rfl
@[simp] theorem handState_laneB : (handState s).laneB = s.laneB := rfl
@[simp] theorem handState_psp : (handState s).psp = s.psp := rfl
@[simp] theorem handState_pending : (handState s).pending = s.pending := rfl

/-! ### raise -/

@[simp] theorem raise_mode (x : BitVec 4) : (raise x s).mode = s.mode := rfl
@[simp] theorem raise_supplyOk (x : BitVec 4) : (raise x s).supplyOk = s.supplyOk := rfl
@[simp] theorem raise_supplyPrev (x : BitVec 4) : (raise x s).supplyPrev = s.supplyPrev := rfl
@[simp] theorem raise_supplySeenOk (x : BitVec 4) : (raise x s).supplySeenOk = s.supplySeenOk := rfl
@[simp] theorem raise_divider (x : BitVec 4) : (raise x s).divider = s.divider := rfl
@[simp] theorem raise_addrSel (x : BitVec 4) : (raise x s).addrSel = s.addrSel := rfl
@[simp] theorem raise_entropyFailed (x : BitVec 4) : (raise x s).entropyFailed = s.entropyFailed := rfl
@[simp] theorem raise_entropyTest (x : BitVec 4) : (raise x s).entropyTest = s.entropyTest := rfl
@[simp] theorem raise_startup (x : BitVec 4) : (raise x s).startup = s.startup := rfl
@[simp] theorem raise_held (x : BitVec 4) : (raise x s).held = s.held := rfl
@[simp] theorem raise_ks (x : BitVec 4) : (raise x s).ks = s.ks := rfl
@[simp] theorem raise_w (x : BitVec 4) : (raise x s).w = s.w := rfl
@[simp] theorem raise_bands (x : BitVec 4) : (raise x s).bands = s.bands := rfl
@[simp] theorem raise_coverPermit (x : BitVec 4) : (raise x s).coverPermit = s.coverPermit := rfl
@[simp] theorem raise_keys (x : BitVec 4) : (raise x s).keys = s.keys := rfl
@[simp] theorem raise_backoff (x : BitVec 4) : (raise x s).backoff = s.backoff := rfl
@[simp] theorem raise_twu (x : BitVec 4) : (raise x s).twu = s.twu := rfl
@[simp] theorem raise_wipe (x : BitVec 4) : (raise x s).wipe = s.wipe := rfl
@[simp] theorem raise_engine (x : BitVec 4) : (raise x s).engine = s.engine := rfl
@[simp] theorem raise_linkBox (x : BitVec 4) : (raise x s).linkBox = s.linkBox := rfl
@[simp] theorem raise_sideBox (x : BitVec 4) : (raise x s).sideBox = s.sideBox := rfl
@[simp] theorem raise_link (x : BitVec 4) : (raise x s).link = s.link := rfl
@[simp] theorem raise_dq (x : BitVec 4) : (raise x s).dq = s.dq := rfl
@[simp] theorem raise_stu (x : BitVec 4) : (raise x s).stu = s.stu := rfl
@[simp] theorem raise_laneA (x : BitVec 4) : (raise x s).laneA = s.laneA := rfl
@[simp] theorem raise_laneB (x : BitVec 4) : (raise x s).laneB = s.laneB := rfl
@[simp] theorem raise_pending (x : BitVec 4) : (raise x s).pending = s.pending := rfl

/-! ### setRecord -/

@[simp] theorem setRecord_mode (b : BandId) (r : BandRecord) : (setRecord b r s).mode = s.mode := rfl
@[simp] theorem setRecord_supplyOk (b : BandId) (r : BandRecord) : (setRecord b r s).supplyOk = s.supplyOk := rfl
@[simp] theorem setRecord_supplyPrev (b : BandId) (r : BandRecord) : (setRecord b r s).supplyPrev = s.supplyPrev := rfl
@[simp] theorem setRecord_supplySeenOk (b : BandId) (r : BandRecord) : (setRecord b r s).supplySeenOk = s.supplySeenOk := rfl
@[simp] theorem setRecord_divider (b : BandId) (r : BandRecord) : (setRecord b r s).divider = s.divider := rfl
@[simp] theorem setRecord_addrSel (b : BandId) (r : BandRecord) : (setRecord b r s).addrSel = s.addrSel := rfl
@[simp] theorem setRecord_entropyFailed (b : BandId) (r : BandRecord) : (setRecord b r s).entropyFailed = s.entropyFailed := rfl
@[simp] theorem setRecord_entropyTest (b : BandId) (r : BandRecord) : (setRecord b r s).entropyTest = s.entropyTest := rfl
@[simp] theorem setRecord_startup (b : BandId) (r : BandRecord) : (setRecord b r s).startup = s.startup := rfl
@[simp] theorem setRecord_held (b : BandId) (r : BandRecord) : (setRecord b r s).held = s.held := rfl
@[simp] theorem setRecord_ks (b : BandId) (r : BandRecord) : (setRecord b r s).ks = s.ks := rfl
@[simp] theorem setRecord_bands (b : BandId) (r : BandRecord) : (setRecord b r s).bands = s.bands := rfl
@[simp] theorem setRecord_coverPermit (b : BandId) (r : BandRecord) : (setRecord b r s).coverPermit = s.coverPermit := rfl
@[simp] theorem setRecord_keys (b : BandId) (r : BandRecord) : (setRecord b r s).keys = s.keys := rfl
@[simp] theorem setRecord_backoff (b : BandId) (r : BandRecord) : (setRecord b r s).backoff = s.backoff := rfl
@[simp] theorem setRecord_twu (b : BandId) (r : BandRecord) : (setRecord b r s).twu = s.twu := rfl
@[simp] theorem setRecord_wipe (b : BandId) (r : BandRecord) : (setRecord b r s).wipe = s.wipe := rfl
@[simp] theorem setRecord_engine (b : BandId) (r : BandRecord) : (setRecord b r s).engine = s.engine := rfl
@[simp] theorem setRecord_linkBox (b : BandId) (r : BandRecord) : (setRecord b r s).linkBox = s.linkBox := rfl
@[simp] theorem setRecord_sideBox (b : BandId) (r : BandRecord) : (setRecord b r s).sideBox = s.sideBox := rfl
@[simp] theorem setRecord_link (b : BandId) (r : BandRecord) : (setRecord b r s).link = s.link := rfl
@[simp] theorem setRecord_dq (b : BandId) (r : BandRecord) : (setRecord b r s).dq = s.dq := rfl
@[simp] theorem setRecord_stu (b : BandId) (r : BandRecord) : (setRecord b r s).stu = s.stu := rfl
@[simp] theorem setRecord_laneA (b : BandId) (r : BandRecord) : (setRecord b r s).laneA = s.laneA := rfl
@[simp] theorem setRecord_laneB (b : BandId) (r : BandRecord) : (setRecord b r s).laneB = s.laneB := rfl
@[simp] theorem setRecord_psp (b : BandId) (r : BandRecord) : (setRecord b r s).psp = s.psp := rfl
@[simp] theorem setRecord_pending (b : BandId) (r : BandRecord) : (setRecord b r s).pending = s.pending := rfl

/-! ### setSecret -/

@[simp] theorem setSecret_mode (b : BandId) (x : Option Secret) : (setSecret b x s).mode = s.mode := rfl
@[simp] theorem setSecret_supplyOk (b : BandId) (x : Option Secret) : (setSecret b x s).supplyOk = s.supplyOk := rfl
@[simp] theorem setSecret_supplyPrev (b : BandId) (x : Option Secret) : (setSecret b x s).supplyPrev = s.supplyPrev := rfl
@[simp] theorem setSecret_supplySeenOk (b : BandId) (x : Option Secret) : (setSecret b x s).supplySeenOk = s.supplySeenOk := rfl
@[simp] theorem setSecret_divider (b : BandId) (x : Option Secret) : (setSecret b x s).divider = s.divider := rfl
@[simp] theorem setSecret_addrSel (b : BandId) (x : Option Secret) : (setSecret b x s).addrSel = s.addrSel := rfl
@[simp] theorem setSecret_entropyFailed (b : BandId) (x : Option Secret) : (setSecret b x s).entropyFailed = s.entropyFailed := rfl
@[simp] theorem setSecret_entropyTest (b : BandId) (x : Option Secret) : (setSecret b x s).entropyTest = s.entropyTest := rfl
@[simp] theorem setSecret_startup (b : BandId) (x : Option Secret) : (setSecret b x s).startup = s.startup := rfl
@[simp] theorem setSecret_held (b : BandId) (x : Option Secret) : (setSecret b x s).held = s.held := rfl
@[simp] theorem setSecret_ks (b : BandId) (x : Option Secret) : (setSecret b x s).ks = s.ks := rfl
@[simp] theorem setSecret_bands (b : BandId) (x : Option Secret) : (setSecret b x s).bands = s.bands := rfl
@[simp] theorem setSecret_coverPermit (b : BandId) (x : Option Secret) : (setSecret b x s).coverPermit = s.coverPermit := rfl
@[simp] theorem setSecret_keys (b : BandId) (x : Option Secret) : (setSecret b x s).keys = s.keys := rfl
@[simp] theorem setSecret_backoff (b : BandId) (x : Option Secret) : (setSecret b x s).backoff = s.backoff := rfl
@[simp] theorem setSecret_twu (b : BandId) (x : Option Secret) : (setSecret b x s).twu = s.twu := rfl
@[simp] theorem setSecret_wipe (b : BandId) (x : Option Secret) : (setSecret b x s).wipe = s.wipe := rfl
@[simp] theorem setSecret_engine (b : BandId) (x : Option Secret) : (setSecret b x s).engine = s.engine := rfl
@[simp] theorem setSecret_linkBox (b : BandId) (x : Option Secret) : (setSecret b x s).linkBox = s.linkBox := rfl
@[simp] theorem setSecret_sideBox (b : BandId) (x : Option Secret) : (setSecret b x s).sideBox = s.sideBox := rfl
@[simp] theorem setSecret_link (b : BandId) (x : Option Secret) : (setSecret b x s).link = s.link := rfl
@[simp] theorem setSecret_dq (b : BandId) (x : Option Secret) : (setSecret b x s).dq = s.dq := rfl
@[simp] theorem setSecret_stu (b : BandId) (x : Option Secret) : (setSecret b x s).stu = s.stu := rfl
@[simp] theorem setSecret_laneA (b : BandId) (x : Option Secret) : (setSecret b x s).laneA = s.laneA := rfl
@[simp] theorem setSecret_laneB (b : BandId) (x : Option Secret) : (setSecret b x s).laneB = s.laneB := rfl
@[simp] theorem setSecret_psp (b : BandId) (x : Option Secret) : (setSecret b x s).psp = s.psp := rfl
@[simp] theorem setSecret_pending (b : BandId) (x : Option Secret) : (setSecret b x s).pending = s.pending := rfl

/-! ### setFlags -/

@[simp] theorem setFlags_mode (b : BandId) (f : BandFlags) : (setFlags b f s).mode = s.mode := rfl
@[simp] theorem setFlags_supplyOk (b : BandId) (f : BandFlags) : (setFlags b f s).supplyOk = s.supplyOk := rfl
@[simp] theorem setFlags_supplyPrev (b : BandId) (f : BandFlags) : (setFlags b f s).supplyPrev = s.supplyPrev := rfl
@[simp] theorem setFlags_supplySeenOk (b : BandId) (f : BandFlags) : (setFlags b f s).supplySeenOk = s.supplySeenOk := rfl
@[simp] theorem setFlags_divider (b : BandId) (f : BandFlags) : (setFlags b f s).divider = s.divider := rfl
@[simp] theorem setFlags_addrSel (b : BandId) (f : BandFlags) : (setFlags b f s).addrSel = s.addrSel := rfl
@[simp] theorem setFlags_entropyFailed (b : BandId) (f : BandFlags) : (setFlags b f s).entropyFailed = s.entropyFailed := rfl
@[simp] theorem setFlags_entropyTest (b : BandId) (f : BandFlags) : (setFlags b f s).entropyTest = s.entropyTest := rfl
@[simp] theorem setFlags_startup (b : BandId) (f : BandFlags) : (setFlags b f s).startup = s.startup := rfl
@[simp] theorem setFlags_held (b : BandId) (f : BandFlags) : (setFlags b f s).held = s.held := rfl
@[simp] theorem setFlags_ks (b : BandId) (f : BandFlags) : (setFlags b f s).ks = s.ks := rfl
@[simp] theorem setFlags_w (b : BandId) (f : BandFlags) : (setFlags b f s).w = s.w := rfl
@[simp] theorem setFlags_coverPermit (b : BandId) (f : BandFlags) : (setFlags b f s).coverPermit = s.coverPermit := rfl
@[simp] theorem setFlags_keys (b : BandId) (f : BandFlags) : (setFlags b f s).keys = s.keys := rfl
@[simp] theorem setFlags_backoff (b : BandId) (f : BandFlags) : (setFlags b f s).backoff = s.backoff := rfl
@[simp] theorem setFlags_twu (b : BandId) (f : BandFlags) : (setFlags b f s).twu = s.twu := rfl
@[simp] theorem setFlags_wipe (b : BandId) (f : BandFlags) : (setFlags b f s).wipe = s.wipe := rfl
@[simp] theorem setFlags_engine (b : BandId) (f : BandFlags) : (setFlags b f s).engine = s.engine := rfl
@[simp] theorem setFlags_linkBox (b : BandId) (f : BandFlags) : (setFlags b f s).linkBox = s.linkBox := rfl
@[simp] theorem setFlags_sideBox (b : BandId) (f : BandFlags) : (setFlags b f s).sideBox = s.sideBox := rfl
@[simp] theorem setFlags_link (b : BandId) (f : BandFlags) : (setFlags b f s).link = s.link := rfl
@[simp] theorem setFlags_dq (b : BandId) (f : BandFlags) : (setFlags b f s).dq = s.dq := rfl
@[simp] theorem setFlags_stu (b : BandId) (f : BandFlags) : (setFlags b f s).stu = s.stu := rfl
@[simp] theorem setFlags_laneA (b : BandId) (f : BandFlags) : (setFlags b f s).laneA = s.laneA := rfl
@[simp] theorem setFlags_laneB (b : BandId) (f : BandFlags) : (setFlags b f s).laneB = s.laneB := rfl
@[simp] theorem setFlags_psp (b : BandId) (f : BandFlags) : (setFlags b f s).psp = s.psp := rfl
@[simp] theorem setFlags_pending (b : BandId) (f : BandFlags) : (setFlags b f s).pending = s.pending := rfl

/-! ### setCred -/

@[simp] theorem setCred_mode (i : SlotId) (c : Credential) : (setCred i c s).mode = s.mode := rfl
@[simp] theorem setCred_supplyOk (i : SlotId) (c : Credential) : (setCred i c s).supplyOk = s.supplyOk := rfl
@[simp] theorem setCred_supplyPrev (i : SlotId) (c : Credential) : (setCred i c s).supplyPrev = s.supplyPrev := rfl
@[simp] theorem setCred_supplySeenOk (i : SlotId) (c : Credential) : (setCred i c s).supplySeenOk = s.supplySeenOk := rfl
@[simp] theorem setCred_divider (i : SlotId) (c : Credential) : (setCred i c s).divider = s.divider := rfl
@[simp] theorem setCred_addrSel (i : SlotId) (c : Credential) : (setCred i c s).addrSel = s.addrSel := rfl
@[simp] theorem setCred_entropyFailed (i : SlotId) (c : Credential) : (setCred i c s).entropyFailed = s.entropyFailed := rfl
@[simp] theorem setCred_entropyTest (i : SlotId) (c : Credential) : (setCred i c s).entropyTest = s.entropyTest := rfl
@[simp] theorem setCred_startup (i : SlotId) (c : Credential) : (setCred i c s).startup = s.startup := rfl
@[simp] theorem setCred_held (i : SlotId) (c : Credential) : (setCred i c s).held = s.held := rfl
@[simp] theorem setCred_ks (i : SlotId) (c : Credential) : (setCred i c s).ks = s.ks := rfl
@[simp] theorem setCred_bands (i : SlotId) (c : Credential) : (setCred i c s).bands = s.bands := rfl
@[simp] theorem setCred_coverPermit (i : SlotId) (c : Credential) : (setCred i c s).coverPermit = s.coverPermit := rfl
@[simp] theorem setCred_keys (i : SlotId) (c : Credential) : (setCred i c s).keys = s.keys := rfl
@[simp] theorem setCred_backoff (i : SlotId) (c : Credential) : (setCred i c s).backoff = s.backoff := rfl
@[simp] theorem setCred_twu (i : SlotId) (c : Credential) : (setCred i c s).twu = s.twu := rfl
@[simp] theorem setCred_wipe (i : SlotId) (c : Credential) : (setCred i c s).wipe = s.wipe := rfl
@[simp] theorem setCred_engine (i : SlotId) (c : Credential) : (setCred i c s).engine = s.engine := rfl
@[simp] theorem setCred_linkBox (i : SlotId) (c : Credential) : (setCred i c s).linkBox = s.linkBox := rfl
@[simp] theorem setCred_sideBox (i : SlotId) (c : Credential) : (setCred i c s).sideBox = s.sideBox := rfl
@[simp] theorem setCred_link (i : SlotId) (c : Credential) : (setCred i c s).link = s.link := rfl
@[simp] theorem setCred_dq (i : SlotId) (c : Credential) : (setCred i c s).dq = s.dq := rfl
@[simp] theorem setCred_stu (i : SlotId) (c : Credential) : (setCred i c s).stu = s.stu := rfl
@[simp] theorem setCred_laneA (i : SlotId) (c : Credential) : (setCred i c s).laneA = s.laneA := rfl
@[simp] theorem setCred_laneB (i : SlotId) (c : Credential) : (setCred i c s).laneB = s.laneB := rfl
@[simp] theorem setCred_psp (i : SlotId) (c : Credential) : (setCred i c s).psp = s.psp := rfl
@[simp] theorem setCred_pending (i : SlotId) (c : Credential) : (setCred i c s).pending = s.pending := rfl

/-! ### setCount -/

@[simp] theorem setCount_mode (i : SlotId) (n : Nat) : (setCount i n s).mode = s.mode := rfl
@[simp] theorem setCount_supplyOk (i : SlotId) (n : Nat) : (setCount i n s).supplyOk = s.supplyOk := rfl
@[simp] theorem setCount_supplyPrev (i : SlotId) (n : Nat) : (setCount i n s).supplyPrev = s.supplyPrev := rfl
@[simp] theorem setCount_supplySeenOk (i : SlotId) (n : Nat) : (setCount i n s).supplySeenOk = s.supplySeenOk := rfl
@[simp] theorem setCount_divider (i : SlotId) (n : Nat) : (setCount i n s).divider = s.divider := rfl
@[simp] theorem setCount_addrSel (i : SlotId) (n : Nat) : (setCount i n s).addrSel = s.addrSel := rfl
@[simp] theorem setCount_entropyFailed (i : SlotId) (n : Nat) : (setCount i n s).entropyFailed = s.entropyFailed := rfl
@[simp] theorem setCount_entropyTest (i : SlotId) (n : Nat) : (setCount i n s).entropyTest = s.entropyTest := rfl
@[simp] theorem setCount_startup (i : SlotId) (n : Nat) : (setCount i n s).startup = s.startup := rfl
@[simp] theorem setCount_held (i : SlotId) (n : Nat) : (setCount i n s).held = s.held := rfl
@[simp] theorem setCount_ks (i : SlotId) (n : Nat) : (setCount i n s).ks = s.ks := rfl
@[simp] theorem setCount_bands (i : SlotId) (n : Nat) : (setCount i n s).bands = s.bands := rfl
@[simp] theorem setCount_coverPermit (i : SlotId) (n : Nat) : (setCount i n s).coverPermit = s.coverPermit := rfl
@[simp] theorem setCount_keys (i : SlotId) (n : Nat) : (setCount i n s).keys = s.keys := rfl
@[simp] theorem setCount_backoff (i : SlotId) (n : Nat) : (setCount i n s).backoff = s.backoff := rfl
@[simp] theorem setCount_twu (i : SlotId) (n : Nat) : (setCount i n s).twu = s.twu := rfl
@[simp] theorem setCount_wipe (i : SlotId) (n : Nat) : (setCount i n s).wipe = s.wipe := rfl
@[simp] theorem setCount_engine (i : SlotId) (n : Nat) : (setCount i n s).engine = s.engine := rfl
@[simp] theorem setCount_linkBox (i : SlotId) (n : Nat) : (setCount i n s).linkBox = s.linkBox := rfl
@[simp] theorem setCount_sideBox (i : SlotId) (n : Nat) : (setCount i n s).sideBox = s.sideBox := rfl
@[simp] theorem setCount_link (i : SlotId) (n : Nat) : (setCount i n s).link = s.link := rfl
@[simp] theorem setCount_dq (i : SlotId) (n : Nat) : (setCount i n s).dq = s.dq := rfl
@[simp] theorem setCount_stu (i : SlotId) (n : Nat) : (setCount i n s).stu = s.stu := rfl
@[simp] theorem setCount_laneA (i : SlotId) (n : Nat) : (setCount i n s).laneA = s.laneA := rfl
@[simp] theorem setCount_laneB (i : SlotId) (n : Nat) : (setCount i n s).laneB = s.laneB := rfl
@[simp] theorem setCount_psp (i : SlotId) (n : Nat) : (setCount i n s).psp = s.psp := rfl
@[simp] theorem setCount_pending (i : SlotId) (n : Nat) : (setCount i n s).pending = s.pending := rfl

/-! ### setBackoff -/

@[simp] theorem setBackoff_mode (i : SlotId) (n : Nat) : (setBackoff i n s).mode = s.mode := rfl
@[simp] theorem setBackoff_supplyOk (i : SlotId) (n : Nat) : (setBackoff i n s).supplyOk = s.supplyOk := rfl
@[simp] theorem setBackoff_supplyPrev (i : SlotId) (n : Nat) : (setBackoff i n s).supplyPrev = s.supplyPrev := rfl
@[simp] theorem setBackoff_supplySeenOk (i : SlotId) (n : Nat) : (setBackoff i n s).supplySeenOk = s.supplySeenOk := rfl
@[simp] theorem setBackoff_divider (i : SlotId) (n : Nat) : (setBackoff i n s).divider = s.divider := rfl
@[simp] theorem setBackoff_addrSel (i : SlotId) (n : Nat) : (setBackoff i n s).addrSel = s.addrSel := rfl
@[simp] theorem setBackoff_entropyFailed (i : SlotId) (n : Nat) : (setBackoff i n s).entropyFailed = s.entropyFailed := rfl
@[simp] theorem setBackoff_entropyTest (i : SlotId) (n : Nat) : (setBackoff i n s).entropyTest = s.entropyTest := rfl
@[simp] theorem setBackoff_startup (i : SlotId) (n : Nat) : (setBackoff i n s).startup = s.startup := rfl
@[simp] theorem setBackoff_held (i : SlotId) (n : Nat) : (setBackoff i n s).held = s.held := rfl
@[simp] theorem setBackoff_ks (i : SlotId) (n : Nat) : (setBackoff i n s).ks = s.ks := rfl
@[simp] theorem setBackoff_w (i : SlotId) (n : Nat) : (setBackoff i n s).w = s.w := rfl
@[simp] theorem setBackoff_bands (i : SlotId) (n : Nat) : (setBackoff i n s).bands = s.bands := rfl
@[simp] theorem setBackoff_coverPermit (i : SlotId) (n : Nat) : (setBackoff i n s).coverPermit = s.coverPermit := rfl
@[simp] theorem setBackoff_keys (i : SlotId) (n : Nat) : (setBackoff i n s).keys = s.keys := rfl
@[simp] theorem setBackoff_twu (i : SlotId) (n : Nat) : (setBackoff i n s).twu = s.twu := rfl
@[simp] theorem setBackoff_wipe (i : SlotId) (n : Nat) : (setBackoff i n s).wipe = s.wipe := rfl
@[simp] theorem setBackoff_engine (i : SlotId) (n : Nat) : (setBackoff i n s).engine = s.engine := rfl
@[simp] theorem setBackoff_linkBox (i : SlotId) (n : Nat) : (setBackoff i n s).linkBox = s.linkBox := rfl
@[simp] theorem setBackoff_sideBox (i : SlotId) (n : Nat) : (setBackoff i n s).sideBox = s.sideBox := rfl
@[simp] theorem setBackoff_link (i : SlotId) (n : Nat) : (setBackoff i n s).link = s.link := rfl
@[simp] theorem setBackoff_dq (i : SlotId) (n : Nat) : (setBackoff i n s).dq = s.dq := rfl
@[simp] theorem setBackoff_stu (i : SlotId) (n : Nat) : (setBackoff i n s).stu = s.stu := rfl
@[simp] theorem setBackoff_laneA (i : SlotId) (n : Nat) : (setBackoff i n s).laneA = s.laneA := rfl
@[simp] theorem setBackoff_laneB (i : SlotId) (n : Nat) : (setBackoff i n s).laneB = s.laneB := rfl
@[simp] theorem setBackoff_psp (i : SlotId) (n : Nat) : (setBackoff i n s).psp = s.psp := rfl
@[simp] theorem setBackoff_pending (i : SlotId) (n : Nat) : (setBackoff i n s).pending = s.pending := rfl

/-! ### setWatch -/

@[simp] theorem setWatch_mode (x : Watch) : (setWatch x s).mode = s.mode := rfl
@[simp] theorem setWatch_supplyOk (x : Watch) : (setWatch x s).supplyOk = s.supplyOk := rfl
@[simp] theorem setWatch_supplyPrev (x : Watch) : (setWatch x s).supplyPrev = s.supplyPrev := rfl
@[simp] theorem setWatch_supplySeenOk (x : Watch) : (setWatch x s).supplySeenOk = s.supplySeenOk := rfl
@[simp] theorem setWatch_divider (x : Watch) : (setWatch x s).divider = s.divider := rfl
@[simp] theorem setWatch_addrSel (x : Watch) : (setWatch x s).addrSel = s.addrSel := rfl
@[simp] theorem setWatch_entropyFailed (x : Watch) : (setWatch x s).entropyFailed = s.entropyFailed := rfl
@[simp] theorem setWatch_entropyTest (x : Watch) : (setWatch x s).entropyTest = s.entropyTest := rfl
@[simp] theorem setWatch_startup (x : Watch) : (setWatch x s).startup = s.startup := rfl
@[simp] theorem setWatch_held (x : Watch) : (setWatch x s).held = s.held := rfl
@[simp] theorem setWatch_ks (x : Watch) : (setWatch x s).ks = s.ks := rfl
@[simp] theorem setWatch_bands (x : Watch) : (setWatch x s).bands = s.bands := rfl
@[simp] theorem setWatch_coverPermit (x : Watch) : (setWatch x s).coverPermit = s.coverPermit := rfl
@[simp] theorem setWatch_keys (x : Watch) : (setWatch x s).keys = s.keys := rfl
@[simp] theorem setWatch_backoff (x : Watch) : (setWatch x s).backoff = s.backoff := rfl
@[simp] theorem setWatch_twu (x : Watch) : (setWatch x s).twu = s.twu := rfl
@[simp] theorem setWatch_wipe (x : Watch) : (setWatch x s).wipe = s.wipe := rfl
@[simp] theorem setWatch_engine (x : Watch) : (setWatch x s).engine = s.engine := rfl
@[simp] theorem setWatch_linkBox (x : Watch) : (setWatch x s).linkBox = s.linkBox := rfl
@[simp] theorem setWatch_sideBox (x : Watch) : (setWatch x s).sideBox = s.sideBox := rfl
@[simp] theorem setWatch_link (x : Watch) : (setWatch x s).link = s.link := rfl
@[simp] theorem setWatch_dq (x : Watch) : (setWatch x s).dq = s.dq := rfl
@[simp] theorem setWatch_stu (x : Watch) : (setWatch x s).stu = s.stu := rfl
@[simp] theorem setWatch_laneA (x : Watch) : (setWatch x s).laneA = s.laneA := rfl
@[simp] theorem setWatch_laneB (x : Watch) : (setWatch x s).laneB = s.laneB := rfl
@[simp] theorem setWatch_psp (x : Watch) : (setWatch x s).psp = s.psp := rfl
@[simp] theorem setWatch_pending (x : Watch) : (setWatch x s).pending = s.pending := rfl

/-! ### setPlan -/

@[simp] theorem setPlan_mode (x : Plan) : (setPlan x s).mode = s.mode := rfl
@[simp] theorem setPlan_supplyOk (x : Plan) : (setPlan x s).supplyOk = s.supplyOk := rfl
@[simp] theorem setPlan_supplyPrev (x : Plan) : (setPlan x s).supplyPrev = s.supplyPrev := rfl
@[simp] theorem setPlan_supplySeenOk (x : Plan) : (setPlan x s).supplySeenOk = s.supplySeenOk := rfl
@[simp] theorem setPlan_divider (x : Plan) : (setPlan x s).divider = s.divider := rfl
@[simp] theorem setPlan_addrSel (x : Plan) : (setPlan x s).addrSel = s.addrSel := rfl
@[simp] theorem setPlan_entropyFailed (x : Plan) : (setPlan x s).entropyFailed = s.entropyFailed := rfl
@[simp] theorem setPlan_entropyTest (x : Plan) : (setPlan x s).entropyTest = s.entropyTest := rfl
@[simp] theorem setPlan_startup (x : Plan) : (setPlan x s).startup = s.startup := rfl
@[simp] theorem setPlan_held (x : Plan) : (setPlan x s).held = s.held := rfl
@[simp] theorem setPlan_ks (x : Plan) : (setPlan x s).ks = s.ks := rfl
@[simp] theorem setPlan_bands (x : Plan) : (setPlan x s).bands = s.bands := rfl
@[simp] theorem setPlan_coverPermit (x : Plan) : (setPlan x s).coverPermit = s.coverPermit := rfl
@[simp] theorem setPlan_keys (x : Plan) : (setPlan x s).keys = s.keys := rfl
@[simp] theorem setPlan_backoff (x : Plan) : (setPlan x s).backoff = s.backoff := rfl
@[simp] theorem setPlan_twu (x : Plan) : (setPlan x s).twu = s.twu := rfl
@[simp] theorem setPlan_wipe (x : Plan) : (setPlan x s).wipe = s.wipe := rfl
@[simp] theorem setPlan_engine (x : Plan) : (setPlan x s).engine = s.engine := rfl
@[simp] theorem setPlan_linkBox (x : Plan) : (setPlan x s).linkBox = s.linkBox := rfl
@[simp] theorem setPlan_sideBox (x : Plan) : (setPlan x s).sideBox = s.sideBox := rfl
@[simp] theorem setPlan_link (x : Plan) : (setPlan x s).link = s.link := rfl
@[simp] theorem setPlan_dq (x : Plan) : (setPlan x s).dq = s.dq := rfl
@[simp] theorem setPlan_stu (x : Plan) : (setPlan x s).stu = s.stu := rfl
@[simp] theorem setPlan_laneA (x : Plan) : (setPlan x s).laneA = s.laneA := rfl
@[simp] theorem setPlan_laneB (x : Plan) : (setPlan x s).laneB = s.laneB := rfl
@[simp] theorem setPlan_psp (x : Plan) : (setPlan x s).psp = s.psp := rfl
@[simp] theorem setPlan_pending (x : Plan) : (setPlan x s).pending = s.pending := rfl

/-! ### setActivity -/

@[simp] theorem setActivity_mode (a : WipeActivity) : (setActivity a s).mode = s.mode := rfl
@[simp] theorem setActivity_supplyOk (a : WipeActivity) : (setActivity a s).supplyOk = s.supplyOk := rfl
@[simp] theorem setActivity_supplyPrev (a : WipeActivity) : (setActivity a s).supplyPrev = s.supplyPrev := rfl
@[simp] theorem setActivity_supplySeenOk (a : WipeActivity) : (setActivity a s).supplySeenOk = s.supplySeenOk := rfl
@[simp] theorem setActivity_divider (a : WipeActivity) : (setActivity a s).divider = s.divider := rfl
@[simp] theorem setActivity_addrSel (a : WipeActivity) : (setActivity a s).addrSel = s.addrSel := rfl
@[simp] theorem setActivity_entropyFailed (a : WipeActivity) : (setActivity a s).entropyFailed = s.entropyFailed := rfl
@[simp] theorem setActivity_entropyTest (a : WipeActivity) : (setActivity a s).entropyTest = s.entropyTest := rfl
@[simp] theorem setActivity_startup (a : WipeActivity) : (setActivity a s).startup = s.startup := rfl
@[simp] theorem setActivity_held (a : WipeActivity) : (setActivity a s).held = s.held := rfl
@[simp] theorem setActivity_ks (a : WipeActivity) : (setActivity a s).ks = s.ks := rfl
@[simp] theorem setActivity_w (a : WipeActivity) : (setActivity a s).w = s.w := rfl
@[simp] theorem setActivity_bands (a : WipeActivity) : (setActivity a s).bands = s.bands := rfl
@[simp] theorem setActivity_coverPermit (a : WipeActivity) : (setActivity a s).coverPermit = s.coverPermit := rfl
@[simp] theorem setActivity_keys (a : WipeActivity) : (setActivity a s).keys = s.keys := rfl
@[simp] theorem setActivity_backoff (a : WipeActivity) : (setActivity a s).backoff = s.backoff := rfl
@[simp] theorem setActivity_twu (a : WipeActivity) : (setActivity a s).twu = s.twu := rfl
@[simp] theorem setActivity_engine (a : WipeActivity) : (setActivity a s).engine = s.engine := rfl
@[simp] theorem setActivity_linkBox (a : WipeActivity) : (setActivity a s).linkBox = s.linkBox := rfl
@[simp] theorem setActivity_sideBox (a : WipeActivity) : (setActivity a s).sideBox = s.sideBox := rfl
@[simp] theorem setActivity_link (a : WipeActivity) : (setActivity a s).link = s.link := rfl
@[simp] theorem setActivity_dq (a : WipeActivity) : (setActivity a s).dq = s.dq := rfl
@[simp] theorem setActivity_stu (a : WipeActivity) : (setActivity a s).stu = s.stu := rfl
@[simp] theorem setActivity_laneA (a : WipeActivity) : (setActivity a s).laneA = s.laneA := rfl
@[simp] theorem setActivity_laneB (a : WipeActivity) : (setActivity a s).laneB = s.laneB := rfl
@[simp] theorem setActivity_psp (a : WipeActivity) : (setActivity a s).psp = s.psp := rfl
@[simp] theorem setActivity_pending (a : WipeActivity) : (setActivity a s).pending = s.pending := rfl

/-! ### ringResult -/

@[simp] theorem ringResult_mode (e : Ended) (a b c : Nat) : (ringResult e a b c s).mode = s.mode := rfl
@[simp] theorem ringResult_supplyOk (e : Ended) (a b c : Nat) : (ringResult e a b c s).supplyOk = s.supplyOk := rfl
@[simp] theorem ringResult_supplyPrev (e : Ended) (a b c : Nat) : (ringResult e a b c s).supplyPrev = s.supplyPrev := rfl
@[simp] theorem ringResult_supplySeenOk (e : Ended) (a b c : Nat) : (ringResult e a b c s).supplySeenOk = s.supplySeenOk := rfl
@[simp] theorem ringResult_divider (e : Ended) (a b c : Nat) : (ringResult e a b c s).divider = s.divider := rfl
@[simp] theorem ringResult_addrSel (e : Ended) (a b c : Nat) : (ringResult e a b c s).addrSel = s.addrSel := rfl
@[simp] theorem ringResult_entropyFailed (e : Ended) (a b c : Nat) : (ringResult e a b c s).entropyFailed = s.entropyFailed := rfl
@[simp] theorem ringResult_entropyTest (e : Ended) (a b c : Nat) : (ringResult e a b c s).entropyTest = s.entropyTest := rfl
@[simp] theorem ringResult_startup (e : Ended) (a b c : Nat) : (ringResult e a b c s).startup = s.startup := rfl
@[simp] theorem ringResult_held (e : Ended) (a b c : Nat) : (ringResult e a b c s).held = s.held := rfl
@[simp] theorem ringResult_ks (e : Ended) (a b c : Nat) : (ringResult e a b c s).ks = s.ks := rfl
@[simp] theorem ringResult_w (e : Ended) (a b c : Nat) : (ringResult e a b c s).w = s.w := rfl
@[simp] theorem ringResult_bands (e : Ended) (a b c : Nat) : (ringResult e a b c s).bands = s.bands := rfl
@[simp] theorem ringResult_coverPermit (e : Ended) (a b c : Nat) : (ringResult e a b c s).coverPermit = s.coverPermit := rfl
@[simp] theorem ringResult_keys (e : Ended) (a b c : Nat) : (ringResult e a b c s).keys = s.keys := rfl
@[simp] theorem ringResult_backoff (e : Ended) (a b c : Nat) : (ringResult e a b c s).backoff = s.backoff := rfl
@[simp] theorem ringResult_twu (e : Ended) (a b c : Nat) : (ringResult e a b c s).twu = s.twu := rfl
@[simp] theorem ringResult_engine (e : Ended) (a b c : Nat) : (ringResult e a b c s).engine = s.engine := rfl
@[simp] theorem ringResult_linkBox (e : Ended) (a b c : Nat) : (ringResult e a b c s).linkBox = s.linkBox := rfl
@[simp] theorem ringResult_sideBox (e : Ended) (a b c : Nat) : (ringResult e a b c s).sideBox = s.sideBox := rfl
@[simp] theorem ringResult_link (e : Ended) (a b c : Nat) : (ringResult e a b c s).link = s.link := rfl
@[simp] theorem ringResult_dq (e : Ended) (a b c : Nat) : (ringResult e a b c s).dq = s.dq := rfl
@[simp] theorem ringResult_stu (e : Ended) (a b c : Nat) : (ringResult e a b c s).stu = s.stu := rfl
@[simp] theorem ringResult_laneA (e : Ended) (a b c : Nat) : (ringResult e a b c s).laneA = s.laneA := rfl
@[simp] theorem ringResult_laneB (e : Ended) (a b c : Nat) : (ringResult e a b c s).laneB = s.laneB := rfl
@[simp] theorem ringResult_psp (e : Ended) (a b c : Nat) : (ringResult e a b c s).psp = s.psp := rfl
@[simp] theorem ringResult_pending (e : Ended) (a b c : Nat) : (ringResult e a b c s).pending = s.pending := rfl

/-! ### failEntropy -/

@[simp] theorem failEntropy_mode : (failEntropy s).mode = s.mode := rfl
@[simp] theorem failEntropy_supplyOk : (failEntropy s).supplyOk = s.supplyOk := rfl
@[simp] theorem failEntropy_supplyPrev : (failEntropy s).supplyPrev = s.supplyPrev := rfl
@[simp] theorem failEntropy_supplySeenOk : (failEntropy s).supplySeenOk = s.supplySeenOk := rfl
@[simp] theorem failEntropy_divider : (failEntropy s).divider = s.divider := rfl
@[simp] theorem failEntropy_addrSel : (failEntropy s).addrSel = s.addrSel := rfl
@[simp] theorem failEntropy_entropyTest : (failEntropy s).entropyTest = s.entropyTest := rfl
@[simp] theorem failEntropy_startup : (failEntropy s).startup = s.startup := rfl
@[simp] theorem failEntropy_held : (failEntropy s).held = s.held := rfl
@[simp] theorem failEntropy_ks : (failEntropy s).ks = s.ks := rfl
@[simp] theorem failEntropy_w : (failEntropy s).w = s.w := rfl
@[simp] theorem failEntropy_bands : (failEntropy s).bands = s.bands := rfl
@[simp] theorem failEntropy_coverPermit : (failEntropy s).coverPermit = s.coverPermit := rfl
@[simp] theorem failEntropy_keys : (failEntropy s).keys = s.keys := rfl
@[simp] theorem failEntropy_backoff : (failEntropy s).backoff = s.backoff := rfl
@[simp] theorem failEntropy_twu : (failEntropy s).twu = s.twu := rfl
@[simp] theorem failEntropy_wipe : (failEntropy s).wipe = s.wipe := rfl
@[simp] theorem failEntropy_engine : (failEntropy s).engine = s.engine := rfl
@[simp] theorem failEntropy_linkBox : (failEntropy s).linkBox = s.linkBox := rfl
@[simp] theorem failEntropy_sideBox : (failEntropy s).sideBox = s.sideBox := rfl
@[simp] theorem failEntropy_link : (failEntropy s).link = s.link := rfl
@[simp] theorem failEntropy_dq : (failEntropy s).dq = s.dq := rfl
@[simp] theorem failEntropy_stu : (failEntropy s).stu = s.stu := rfl
@[simp] theorem failEntropy_laneA : (failEntropy s).laneA = s.laneA := rfl
@[simp] theorem failEntropy_laneB : (failEntropy s).laneB = s.laneB := rfl
@[simp] theorem failEntropy_psp : (failEntropy s).psp = s.psp := rfl
@[simp] theorem failEntropy_pending : (failEntropy s).pending = s.pending := rfl

/-! ### setBandKey -/

@[simp] theorem setBandKey_mode (b : BandId) (e : LiveKey) : (setBandKey b e s).mode = s.mode := rfl
@[simp] theorem setBandKey_supplyOk (b : BandId) (e : LiveKey) : (setBandKey b e s).supplyOk = s.supplyOk := rfl
@[simp] theorem setBandKey_supplyPrev (b : BandId) (e : LiveKey) : (setBandKey b e s).supplyPrev = s.supplyPrev := rfl
@[simp] theorem setBandKey_supplySeenOk (b : BandId) (e : LiveKey) : (setBandKey b e s).supplySeenOk = s.supplySeenOk := rfl
@[simp] theorem setBandKey_divider (b : BandId) (e : LiveKey) : (setBandKey b e s).divider = s.divider := rfl
@[simp] theorem setBandKey_addrSel (b : BandId) (e : LiveKey) : (setBandKey b e s).addrSel = s.addrSel := rfl
@[simp] theorem setBandKey_entropyFailed (b : BandId) (e : LiveKey) : (setBandKey b e s).entropyFailed = s.entropyFailed := rfl
@[simp] theorem setBandKey_entropyTest (b : BandId) (e : LiveKey) : (setBandKey b e s).entropyTest = s.entropyTest := rfl
@[simp] theorem setBandKey_startup (b : BandId) (e : LiveKey) : (setBandKey b e s).startup = s.startup := rfl
@[simp] theorem setBandKey_held (b : BandId) (e : LiveKey) : (setBandKey b e s).held = s.held := rfl
@[simp] theorem setBandKey_ks (b : BandId) (e : LiveKey) : (setBandKey b e s).ks = s.ks := rfl
@[simp] theorem setBandKey_w (b : BandId) (e : LiveKey) : (setBandKey b e s).w = s.w := rfl
@[simp] theorem setBandKey_bands (b : BandId) (e : LiveKey) : (setBandKey b e s).bands = s.bands := rfl
@[simp] theorem setBandKey_coverPermit (b : BandId) (e : LiveKey) : (setBandKey b e s).coverPermit = s.coverPermit := rfl
@[simp] theorem setBandKey_backoff (b : BandId) (e : LiveKey) : (setBandKey b e s).backoff = s.backoff := rfl
@[simp] theorem setBandKey_twu (b : BandId) (e : LiveKey) : (setBandKey b e s).twu = s.twu := rfl
@[simp] theorem setBandKey_wipe (b : BandId) (e : LiveKey) : (setBandKey b e s).wipe = s.wipe := rfl
@[simp] theorem setBandKey_engine (b : BandId) (e : LiveKey) : (setBandKey b e s).engine = s.engine := rfl
@[simp] theorem setBandKey_linkBox (b : BandId) (e : LiveKey) : (setBandKey b e s).linkBox = s.linkBox := rfl
@[simp] theorem setBandKey_sideBox (b : BandId) (e : LiveKey) : (setBandKey b e s).sideBox = s.sideBox := rfl
@[simp] theorem setBandKey_link (b : BandId) (e : LiveKey) : (setBandKey b e s).link = s.link := rfl
@[simp] theorem setBandKey_dq (b : BandId) (e : LiveKey) : (setBandKey b e s).dq = s.dq := rfl
@[simp] theorem setBandKey_stu (b : BandId) (e : LiveKey) : (setBandKey b e s).stu = s.stu := rfl
@[simp] theorem setBandKey_laneA (b : BandId) (e : LiveKey) : (setBandKey b e s).laneA = s.laneA := rfl
@[simp] theorem setBandKey_laneB (b : BandId) (e : LiveKey) : (setBandKey b e s).laneB = s.laneB := rfl
@[simp] theorem setBandKey_psp (b : BandId) (e : LiveKey) : (setBandKey b e s).psp = s.psp := rfl
@[simp] theorem setBandKey_pending (b : BandId) (e : LiveKey) : (setBandKey b e s).pending = s.pending := rfl

/-! ### loadCover -/

@[simp] theorem loadCover_mode (k : MediaKey) : (loadCover k s).mode = s.mode := rfl
@[simp] theorem loadCover_supplyOk (k : MediaKey) : (loadCover k s).supplyOk = s.supplyOk := rfl
@[simp] theorem loadCover_supplyPrev (k : MediaKey) : (loadCover k s).supplyPrev = s.supplyPrev := rfl
@[simp] theorem loadCover_supplySeenOk (k : MediaKey) : (loadCover k s).supplySeenOk = s.supplySeenOk := rfl
@[simp] theorem loadCover_divider (k : MediaKey) : (loadCover k s).divider = s.divider := rfl
@[simp] theorem loadCover_addrSel (k : MediaKey) : (loadCover k s).addrSel = s.addrSel := rfl
@[simp] theorem loadCover_entropyFailed (k : MediaKey) : (loadCover k s).entropyFailed = s.entropyFailed := rfl
@[simp] theorem loadCover_entropyTest (k : MediaKey) : (loadCover k s).entropyTest = s.entropyTest := rfl
@[simp] theorem loadCover_startup (k : MediaKey) : (loadCover k s).startup = s.startup := rfl
@[simp] theorem loadCover_held (k : MediaKey) : (loadCover k s).held = s.held := rfl
@[simp] theorem loadCover_ks (k : MediaKey) : (loadCover k s).ks = s.ks := rfl
@[simp] theorem loadCover_w (k : MediaKey) : (loadCover k s).w = s.w := rfl
@[simp] theorem loadCover_bands (k : MediaKey) : (loadCover k s).bands = s.bands := rfl
@[simp] theorem loadCover_coverPermit (k : MediaKey) : (loadCover k s).coverPermit = s.coverPermit := rfl
@[simp] theorem loadCover_backoff (k : MediaKey) : (loadCover k s).backoff = s.backoff := rfl
@[simp] theorem loadCover_twu (k : MediaKey) : (loadCover k s).twu = s.twu := rfl
@[simp] theorem loadCover_wipe (k : MediaKey) : (loadCover k s).wipe = s.wipe := rfl
@[simp] theorem loadCover_engine (k : MediaKey) : (loadCover k s).engine = s.engine := rfl
@[simp] theorem loadCover_linkBox (k : MediaKey) : (loadCover k s).linkBox = s.linkBox := rfl
@[simp] theorem loadCover_sideBox (k : MediaKey) : (loadCover k s).sideBox = s.sideBox := rfl
@[simp] theorem loadCover_link (k : MediaKey) : (loadCover k s).link = s.link := rfl
@[simp] theorem loadCover_dq (k : MediaKey) : (loadCover k s).dq = s.dq := rfl
@[simp] theorem loadCover_stu (k : MediaKey) : (loadCover k s).stu = s.stu := rfl
@[simp] theorem loadCover_laneA (k : MediaKey) : (loadCover k s).laneA = s.laneA := rfl
@[simp] theorem loadCover_laneB (k : MediaKey) : (loadCover k s).laneB = s.laneB := rfl
@[simp] theorem loadCover_psp (k : MediaKey) : (loadCover k s).psp = s.psp := rfl
@[simp] theorem loadCover_pending (k : MediaKey) : (loadCover k s).pending = s.pending := rfl

/-! ### loadFill -/

@[simp] theorem loadFill_mode (k : MediaKey) : (loadFill k s).mode = s.mode := rfl
@[simp] theorem loadFill_supplyOk (k : MediaKey) : (loadFill k s).supplyOk = s.supplyOk := rfl
@[simp] theorem loadFill_supplyPrev (k : MediaKey) : (loadFill k s).supplyPrev = s.supplyPrev := rfl
@[simp] theorem loadFill_supplySeenOk (k : MediaKey) : (loadFill k s).supplySeenOk = s.supplySeenOk := rfl
@[simp] theorem loadFill_divider (k : MediaKey) : (loadFill k s).divider = s.divider := rfl
@[simp] theorem loadFill_addrSel (k : MediaKey) : (loadFill k s).addrSel = s.addrSel := rfl
@[simp] theorem loadFill_entropyFailed (k : MediaKey) : (loadFill k s).entropyFailed = s.entropyFailed := rfl
@[simp] theorem loadFill_entropyTest (k : MediaKey) : (loadFill k s).entropyTest = s.entropyTest := rfl
@[simp] theorem loadFill_startup (k : MediaKey) : (loadFill k s).startup = s.startup := rfl
@[simp] theorem loadFill_held (k : MediaKey) : (loadFill k s).held = s.held := rfl
@[simp] theorem loadFill_ks (k : MediaKey) : (loadFill k s).ks = s.ks := rfl
@[simp] theorem loadFill_w (k : MediaKey) : (loadFill k s).w = s.w := rfl
@[simp] theorem loadFill_bands (k : MediaKey) : (loadFill k s).bands = s.bands := rfl
@[simp] theorem loadFill_coverPermit (k : MediaKey) : (loadFill k s).coverPermit = s.coverPermit := rfl
@[simp] theorem loadFill_backoff (k : MediaKey) : (loadFill k s).backoff = s.backoff := rfl
@[simp] theorem loadFill_twu (k : MediaKey) : (loadFill k s).twu = s.twu := rfl
@[simp] theorem loadFill_wipe (k : MediaKey) : (loadFill k s).wipe = s.wipe := rfl
@[simp] theorem loadFill_engine (k : MediaKey) : (loadFill k s).engine = s.engine := rfl
@[simp] theorem loadFill_linkBox (k : MediaKey) : (loadFill k s).linkBox = s.linkBox := rfl
@[simp] theorem loadFill_sideBox (k : MediaKey) : (loadFill k s).sideBox = s.sideBox := rfl
@[simp] theorem loadFill_link (k : MediaKey) : (loadFill k s).link = s.link := rfl
@[simp] theorem loadFill_dq (k : MediaKey) : (loadFill k s).dq = s.dq := rfl
@[simp] theorem loadFill_stu (k : MediaKey) : (loadFill k s).stu = s.stu := rfl
@[simp] theorem loadFill_laneA (k : MediaKey) : (loadFill k s).laneA = s.laneA := rfl
@[simp] theorem loadFill_laneB (k : MediaKey) : (loadFill k s).laneB = s.laneB := rfl
@[simp] theorem loadFill_psp (k : MediaKey) : (loadFill k s).psp = s.psp := rfl
@[simp] theorem loadFill_pending (k : MediaKey) : (loadFill k s).pending = s.pending := rfl

/-! ### removeFill -/

@[simp] theorem removeFill_mode : (removeFill s).mode = s.mode := rfl
@[simp] theorem removeFill_supplyOk : (removeFill s).supplyOk = s.supplyOk := rfl
@[simp] theorem removeFill_supplyPrev : (removeFill s).supplyPrev = s.supplyPrev := rfl
@[simp] theorem removeFill_supplySeenOk : (removeFill s).supplySeenOk = s.supplySeenOk := rfl
@[simp] theorem removeFill_divider : (removeFill s).divider = s.divider := rfl
@[simp] theorem removeFill_addrSel : (removeFill s).addrSel = s.addrSel := rfl
@[simp] theorem removeFill_entropyFailed : (removeFill s).entropyFailed = s.entropyFailed := rfl
@[simp] theorem removeFill_entropyTest : (removeFill s).entropyTest = s.entropyTest := rfl
@[simp] theorem removeFill_startup : (removeFill s).startup = s.startup := rfl
@[simp] theorem removeFill_held : (removeFill s).held = s.held := rfl
@[simp] theorem removeFill_ks : (removeFill s).ks = s.ks := rfl
@[simp] theorem removeFill_w : (removeFill s).w = s.w := rfl
@[simp] theorem removeFill_bands : (removeFill s).bands = s.bands := rfl
@[simp] theorem removeFill_coverPermit : (removeFill s).coverPermit = s.coverPermit := rfl
@[simp] theorem removeFill_backoff : (removeFill s).backoff = s.backoff := rfl
@[simp] theorem removeFill_twu : (removeFill s).twu = s.twu := rfl
@[simp] theorem removeFill_wipe : (removeFill s).wipe = s.wipe := rfl
@[simp] theorem removeFill_engine : (removeFill s).engine = s.engine := rfl
@[simp] theorem removeFill_linkBox : (removeFill s).linkBox = s.linkBox := rfl
@[simp] theorem removeFill_sideBox : (removeFill s).sideBox = s.sideBox := rfl
@[simp] theorem removeFill_link : (removeFill s).link = s.link := rfl
@[simp] theorem removeFill_dq : (removeFill s).dq = s.dq := rfl
@[simp] theorem removeFill_stu : (removeFill s).stu = s.stu := rfl
@[simp] theorem removeFill_laneA : (removeFill s).laneA = s.laneA := rfl
@[simp] theorem removeFill_laneB : (removeFill s).laneB = s.laneB := rfl
@[simp] theorem removeFill_psp : (removeFill s).psp = s.psp := rfl
@[simp] theorem removeFill_pending : (removeFill s).pending = s.pending := rfl

/-! ### tabBands -/

@[simp] theorem tabBands_mode (f : BandId → BandFlags × LiveKey) : (tabBands f s).mode = s.mode := rfl
@[simp] theorem tabBands_supplyOk (f : BandId → BandFlags × LiveKey) : (tabBands f s).supplyOk = s.supplyOk := rfl
@[simp] theorem tabBands_supplyPrev (f : BandId → BandFlags × LiveKey) : (tabBands f s).supplyPrev = s.supplyPrev := rfl
@[simp] theorem tabBands_supplySeenOk (f : BandId → BandFlags × LiveKey) : (tabBands f s).supplySeenOk = s.supplySeenOk := rfl
@[simp] theorem tabBands_divider (f : BandId → BandFlags × LiveKey) : (tabBands f s).divider = s.divider := rfl
@[simp] theorem tabBands_addrSel (f : BandId → BandFlags × LiveKey) : (tabBands f s).addrSel = s.addrSel := rfl
@[simp] theorem tabBands_entropyFailed (f : BandId → BandFlags × LiveKey) : (tabBands f s).entropyFailed = s.entropyFailed := rfl
@[simp] theorem tabBands_entropyTest (f : BandId → BandFlags × LiveKey) : (tabBands f s).entropyTest = s.entropyTest := rfl
@[simp] theorem tabBands_startup (f : BandId → BandFlags × LiveKey) : (tabBands f s).startup = s.startup := rfl
@[simp] theorem tabBands_held (f : BandId → BandFlags × LiveKey) : (tabBands f s).held = s.held := rfl
@[simp] theorem tabBands_ks (f : BandId → BandFlags × LiveKey) : (tabBands f s).ks = s.ks := rfl
@[simp] theorem tabBands_w (f : BandId → BandFlags × LiveKey) : (tabBands f s).w = s.w := rfl
@[simp] theorem tabBands_coverPermit (f : BandId → BandFlags × LiveKey) : (tabBands f s).coverPermit = s.coverPermit := rfl
@[simp] theorem tabBands_backoff (f : BandId → BandFlags × LiveKey) : (tabBands f s).backoff = s.backoff := rfl
@[simp] theorem tabBands_twu (f : BandId → BandFlags × LiveKey) : (tabBands f s).twu = s.twu := rfl
@[simp] theorem tabBands_wipe (f : BandId → BandFlags × LiveKey) : (tabBands f s).wipe = s.wipe := rfl
@[simp] theorem tabBands_engine (f : BandId → BandFlags × LiveKey) : (tabBands f s).engine = s.engine := rfl
@[simp] theorem tabBands_linkBox (f : BandId → BandFlags × LiveKey) : (tabBands f s).linkBox = s.linkBox := rfl
@[simp] theorem tabBands_sideBox (f : BandId → BandFlags × LiveKey) : (tabBands f s).sideBox = s.sideBox := rfl
@[simp] theorem tabBands_link (f : BandId → BandFlags × LiveKey) : (tabBands f s).link = s.link := rfl
@[simp] theorem tabBands_dq (f : BandId → BandFlags × LiveKey) : (tabBands f s).dq = s.dq := rfl
@[simp] theorem tabBands_stu (f : BandId → BandFlags × LiveKey) : (tabBands f s).stu = s.stu := rfl
@[simp] theorem tabBands_laneA (f : BandId → BandFlags × LiveKey) : (tabBands f s).laneA = s.laneA := rfl
@[simp] theorem tabBands_laneB (f : BandId → BandFlags × LiveKey) : (tabBands f s).laneB = s.laneB := rfl
@[simp] theorem tabBands_psp (f : BandId → BandFlags × LiveKey) : (tabBands f s).psp = s.psp := rfl
@[simp] theorem tabBands_pending (f : BandId → BandFlags × LiveKey) : (tabBands f s).pending = s.pending := rfl

/-! ### setPair -/

@[simp] theorem setPair_mode (b : BandId) (x : BandFlags × LiveKey) : (setPair b x s).mode = s.mode := rfl
@[simp] theorem setPair_supplyOk (b : BandId) (x : BandFlags × LiveKey) : (setPair b x s).supplyOk = s.supplyOk := rfl
@[simp] theorem setPair_supplyPrev (b : BandId) (x : BandFlags × LiveKey) : (setPair b x s).supplyPrev = s.supplyPrev := rfl
@[simp] theorem setPair_supplySeenOk (b : BandId) (x : BandFlags × LiveKey) : (setPair b x s).supplySeenOk = s.supplySeenOk := rfl
@[simp] theorem setPair_divider (b : BandId) (x : BandFlags × LiveKey) : (setPair b x s).divider = s.divider := rfl
@[simp] theorem setPair_addrSel (b : BandId) (x : BandFlags × LiveKey) : (setPair b x s).addrSel = s.addrSel := rfl
@[simp] theorem setPair_entropyFailed (b : BandId) (x : BandFlags × LiveKey) : (setPair b x s).entropyFailed = s.entropyFailed := rfl
@[simp] theorem setPair_entropyTest (b : BandId) (x : BandFlags × LiveKey) : (setPair b x s).entropyTest = s.entropyTest := rfl
@[simp] theorem setPair_startup (b : BandId) (x : BandFlags × LiveKey) : (setPair b x s).startup = s.startup := rfl
@[simp] theorem setPair_held (b : BandId) (x : BandFlags × LiveKey) : (setPair b x s).held = s.held := rfl
@[simp] theorem setPair_ks (b : BandId) (x : BandFlags × LiveKey) : (setPair b x s).ks = s.ks := rfl
@[simp] theorem setPair_w (b : BandId) (x : BandFlags × LiveKey) : (setPair b x s).w = s.w := rfl
@[simp] theorem setPair_coverPermit (b : BandId) (x : BandFlags × LiveKey) : (setPair b x s).coverPermit = s.coverPermit := rfl
@[simp] theorem setPair_backoff (b : BandId) (x : BandFlags × LiveKey) : (setPair b x s).backoff = s.backoff := rfl
@[simp] theorem setPair_twu (b : BandId) (x : BandFlags × LiveKey) : (setPair b x s).twu = s.twu := rfl
@[simp] theorem setPair_wipe (b : BandId) (x : BandFlags × LiveKey) : (setPair b x s).wipe = s.wipe := rfl
@[simp] theorem setPair_engine (b : BandId) (x : BandFlags × LiveKey) : (setPair b x s).engine = s.engine := rfl
@[simp] theorem setPair_linkBox (b : BandId) (x : BandFlags × LiveKey) : (setPair b x s).linkBox = s.linkBox := rfl
@[simp] theorem setPair_sideBox (b : BandId) (x : BandFlags × LiveKey) : (setPair b x s).sideBox = s.sideBox := rfl
@[simp] theorem setPair_link (b : BandId) (x : BandFlags × LiveKey) : (setPair b x s).link = s.link := rfl
@[simp] theorem setPair_dq (b : BandId) (x : BandFlags × LiveKey) : (setPair b x s).dq = s.dq := rfl
@[simp] theorem setPair_stu (b : BandId) (x : BandFlags × LiveKey) : (setPair b x s).stu = s.stu := rfl
@[simp] theorem setPair_laneA (b : BandId) (x : BandFlags × LiveKey) : (setPair b x s).laneA = s.laneA := rfl
@[simp] theorem setPair_laneB (b : BandId) (x : BandFlags × LiveKey) : (setPair b x s).laneB = s.laneB := rfl
@[simp] theorem setPair_psp (b : BandId) (x : BandFlags × LiveKey) : (setPair b x s).psp = s.psp := rfl
@[simp] theorem setPair_pending (b : BandId) (x : BandFlags × LiveKey) : (setPair b x s).pending = s.pending := rfl

/-! ### lockBands -/

@[simp] theorem lockBands_mode (f : BandId → Bool) : (lockBands f s).mode = s.mode := rfl
@[simp] theorem lockBands_supplyOk (f : BandId → Bool) : (lockBands f s).supplyOk = s.supplyOk := rfl
@[simp] theorem lockBands_supplyPrev (f : BandId → Bool) : (lockBands f s).supplyPrev = s.supplyPrev := rfl
@[simp] theorem lockBands_supplySeenOk (f : BandId → Bool) : (lockBands f s).supplySeenOk = s.supplySeenOk := rfl
@[simp] theorem lockBands_divider (f : BandId → Bool) : (lockBands f s).divider = s.divider := rfl
@[simp] theorem lockBands_addrSel (f : BandId → Bool) : (lockBands f s).addrSel = s.addrSel := rfl
@[simp] theorem lockBands_entropyFailed (f : BandId → Bool) : (lockBands f s).entropyFailed = s.entropyFailed := rfl
@[simp] theorem lockBands_entropyTest (f : BandId → Bool) : (lockBands f s).entropyTest = s.entropyTest := rfl
@[simp] theorem lockBands_startup (f : BandId → Bool) : (lockBands f s).startup = s.startup := rfl
@[simp] theorem lockBands_held (f : BandId → Bool) : (lockBands f s).held = s.held := rfl
@[simp] theorem lockBands_ks (f : BandId → Bool) : (lockBands f s).ks = s.ks := rfl
@[simp] theorem lockBands_w (f : BandId → Bool) : (lockBands f s).w = s.w := rfl
@[simp] theorem lockBands_coverPermit (f : BandId → Bool) : (lockBands f s).coverPermit = s.coverPermit := rfl
@[simp] theorem lockBands_backoff (f : BandId → Bool) : (lockBands f s).backoff = s.backoff := rfl
@[simp] theorem lockBands_twu (f : BandId → Bool) : (lockBands f s).twu = s.twu := rfl
@[simp] theorem lockBands_wipe (f : BandId → Bool) : (lockBands f s).wipe = s.wipe := rfl
@[simp] theorem lockBands_engine (f : BandId → Bool) : (lockBands f s).engine = s.engine := rfl
@[simp] theorem lockBands_linkBox (f : BandId → Bool) : (lockBands f s).linkBox = s.linkBox := rfl
@[simp] theorem lockBands_sideBox (f : BandId → Bool) : (lockBands f s).sideBox = s.sideBox := rfl
@[simp] theorem lockBands_link (f : BandId → Bool) : (lockBands f s).link = s.link := rfl
@[simp] theorem lockBands_dq (f : BandId → Bool) : (lockBands f s).dq = s.dq := rfl
@[simp] theorem lockBands_stu (f : BandId → Bool) : (lockBands f s).stu = s.stu := rfl
@[simp] theorem lockBands_laneA (f : BandId → Bool) : (lockBands f s).laneA = s.laneA := rfl
@[simp] theorem lockBands_laneB (f : BandId → Bool) : (lockBands f s).laneB = s.laneB := rfl
@[simp] theorem lockBands_psp (f : BandId → Bool) : (lockBands f s).psp = s.psp := rfl
@[simp] theorem lockBands_pending (f : BandId → Bool) : (lockBands f s).pending = s.pending := rfl

/-! ### handCompare -/

@[simp] theorem handCompare_mode (x : Secret) : (handCompare x s).mode = s.mode := rfl
@[simp] theorem handCompare_supplyOk (x : Secret) : (handCompare x s).supplyOk = s.supplyOk := rfl
@[simp] theorem handCompare_supplyPrev (x : Secret) : (handCompare x s).supplyPrev = s.supplyPrev := rfl
@[simp] theorem handCompare_supplySeenOk (x : Secret) : (handCompare x s).supplySeenOk = s.supplySeenOk := rfl
@[simp] theorem handCompare_divider (x : Secret) : (handCompare x s).divider = s.divider := rfl
@[simp] theorem handCompare_addrSel (x : Secret) : (handCompare x s).addrSel = s.addrSel := rfl
@[simp] theorem handCompare_entropyFailed (x : Secret) : (handCompare x s).entropyFailed = s.entropyFailed := rfl
@[simp] theorem handCompare_entropyTest (x : Secret) : (handCompare x s).entropyTest = s.entropyTest := rfl
@[simp] theorem handCompare_startup (x : Secret) : (handCompare x s).startup = s.startup := rfl
@[simp] theorem handCompare_held (x : Secret) : (handCompare x s).held = s.held := rfl
@[simp] theorem handCompare_ks (x : Secret) : (handCompare x s).ks = s.ks := rfl
@[simp] theorem handCompare_w (x : Secret) : (handCompare x s).w = s.w := rfl
@[simp] theorem handCompare_bands (x : Secret) : (handCompare x s).bands = s.bands := rfl
@[simp] theorem handCompare_coverPermit (x : Secret) : (handCompare x s).coverPermit = s.coverPermit := rfl
@[simp] theorem handCompare_keys (x : Secret) : (handCompare x s).keys = s.keys := rfl
@[simp] theorem handCompare_backoff (x : Secret) : (handCompare x s).backoff = s.backoff := rfl
@[simp] theorem handCompare_twu (x : Secret) : (handCompare x s).twu = s.twu := rfl
@[simp] theorem handCompare_wipe (x : Secret) : (handCompare x s).wipe = s.wipe := rfl
@[simp] theorem handCompare_linkBox (x : Secret) : (handCompare x s).linkBox = s.linkBox := rfl
@[simp] theorem handCompare_sideBox (x : Secret) : (handCompare x s).sideBox = s.sideBox := rfl
@[simp] theorem handCompare_link (x : Secret) : (handCompare x s).link = s.link := rfl
@[simp] theorem handCompare_dq (x : Secret) : (handCompare x s).dq = s.dq := rfl
@[simp] theorem handCompare_stu (x : Secret) : (handCompare x s).stu = s.stu := rfl
@[simp] theorem handCompare_laneA (x : Secret) : (handCompare x s).laneA = s.laneA := rfl
@[simp] theorem handCompare_laneB (x : Secret) : (handCompare x s).laneB = s.laneB := rfl
@[simp] theorem handCompare_psp (x : Secret) : (handCompare x s).psp = s.psp := rfl
@[simp] theorem handCompare_pending (x : Secret) : (handCompare x s).pending = s.pending := rfl

/-! ### handStartup -/

@[simp] theorem handStartup_mode (j : Job) : (handStartup j s).mode = s.mode := rfl
@[simp] theorem handStartup_supplyOk (j : Job) : (handStartup j s).supplyOk = s.supplyOk := rfl
@[simp] theorem handStartup_supplyPrev (j : Job) : (handStartup j s).supplyPrev = s.supplyPrev := rfl
@[simp] theorem handStartup_supplySeenOk (j : Job) : (handStartup j s).supplySeenOk = s.supplySeenOk := rfl
@[simp] theorem handStartup_divider (j : Job) : (handStartup j s).divider = s.divider := rfl
@[simp] theorem handStartup_addrSel (j : Job) : (handStartup j s).addrSel = s.addrSel := rfl
@[simp] theorem handStartup_entropyFailed (j : Job) : (handStartup j s).entropyFailed = s.entropyFailed := rfl
@[simp] theorem handStartup_entropyTest (j : Job) : (handStartup j s).entropyTest = s.entropyTest := rfl
@[simp] theorem handStartup_startup (j : Job) : (handStartup j s).startup = s.startup := rfl
@[simp] theorem handStartup_held (j : Job) : (handStartup j s).held = s.held := rfl
@[simp] theorem handStartup_ks (j : Job) : (handStartup j s).ks = s.ks := rfl
@[simp] theorem handStartup_w (j : Job) : (handStartup j s).w = s.w := rfl
@[simp] theorem handStartup_bands (j : Job) : (handStartup j s).bands = s.bands := rfl
@[simp] theorem handStartup_coverPermit (j : Job) : (handStartup j s).coverPermit = s.coverPermit := rfl
@[simp] theorem handStartup_keys (j : Job) : (handStartup j s).keys = s.keys := rfl
@[simp] theorem handStartup_backoff (j : Job) : (handStartup j s).backoff = s.backoff := rfl
@[simp] theorem handStartup_twu (j : Job) : (handStartup j s).twu = s.twu := rfl
@[simp] theorem handStartup_wipe (j : Job) : (handStartup j s).wipe = s.wipe := rfl
@[simp] theorem handStartup_linkBox (j : Job) : (handStartup j s).linkBox = s.linkBox := rfl
@[simp] theorem handStartup_sideBox (j : Job) : (handStartup j s).sideBox = s.sideBox := rfl
@[simp] theorem handStartup_link (j : Job) : (handStartup j s).link = s.link := rfl
@[simp] theorem handStartup_dq (j : Job) : (handStartup j s).dq = s.dq := rfl
@[simp] theorem handStartup_stu (j : Job) : (handStartup j s).stu = s.stu := rfl
@[simp] theorem handStartup_laneA (j : Job) : (handStartup j s).laneA = s.laneA := rfl
@[simp] theorem handStartup_laneB (j : Job) : (handStartup j s).laneB = s.laneB := rfl
@[simp] theorem handStartup_psp (j : Job) : (handStartup j s).psp = s.psp := rfl
@[simp] theorem handStartup_pending (j : Job) : (handStartup j s).pending = s.pending := rfl

/-! ### endJob -/

@[simp] theorem endJob_mode : (endJob s).mode = s.mode := rfl
@[simp] theorem endJob_supplyOk : (endJob s).supplyOk = s.supplyOk := rfl
@[simp] theorem endJob_supplyPrev : (endJob s).supplyPrev = s.supplyPrev := rfl
@[simp] theorem endJob_supplySeenOk : (endJob s).supplySeenOk = s.supplySeenOk := rfl
@[simp] theorem endJob_divider : (endJob s).divider = s.divider := rfl
@[simp] theorem endJob_addrSel : (endJob s).addrSel = s.addrSel := rfl
@[simp] theorem endJob_entropyFailed : (endJob s).entropyFailed = s.entropyFailed := rfl
@[simp] theorem endJob_entropyTest : (endJob s).entropyTest = s.entropyTest := rfl
@[simp] theorem endJob_startup : (endJob s).startup = s.startup := rfl
@[simp] theorem endJob_held : (endJob s).held = s.held := rfl
@[simp] theorem endJob_ks : (endJob s).ks = s.ks := rfl
@[simp] theorem endJob_w : (endJob s).w = s.w := rfl
@[simp] theorem endJob_bands : (endJob s).bands = s.bands := rfl
@[simp] theorem endJob_coverPermit : (endJob s).coverPermit = s.coverPermit := rfl
@[simp] theorem endJob_keys : (endJob s).keys = s.keys := rfl
@[simp] theorem endJob_backoff : (endJob s).backoff = s.backoff := rfl
@[simp] theorem endJob_twu : (endJob s).twu = s.twu := rfl
@[simp] theorem endJob_wipe : (endJob s).wipe = s.wipe := rfl
@[simp] theorem endJob_linkBox : (endJob s).linkBox = s.linkBox := rfl
@[simp] theorem endJob_sideBox : (endJob s).sideBox = s.sideBox := rfl
@[simp] theorem endJob_link : (endJob s).link = s.link := rfl
@[simp] theorem endJob_dq : (endJob s).dq = s.dq := rfl
@[simp] theorem endJob_stu : (endJob s).stu = s.stu := rfl
@[simp] theorem endJob_laneA : (endJob s).laneA = s.laneA := rfl
@[simp] theorem endJob_laneB : (endJob s).laneB = s.laneB := rfl
@[simp] theorem endJob_psp : (endJob s).psp = s.psp := rfl
@[simp] theorem endJob_pending : (endJob s).pending = s.pending := rfl

/-! ### setStatus -/

@[simp] theorem setStatus_mode (x : CheckinStatus) : (setStatus x s).mode = s.mode := rfl
@[simp] theorem setStatus_supplyOk (x : CheckinStatus) : (setStatus x s).supplyOk = s.supplyOk := rfl
@[simp] theorem setStatus_supplyPrev (x : CheckinStatus) : (setStatus x s).supplyPrev = s.supplyPrev := rfl
@[simp] theorem setStatus_supplySeenOk (x : CheckinStatus) : (setStatus x s).supplySeenOk = s.supplySeenOk := rfl
@[simp] theorem setStatus_divider (x : CheckinStatus) : (setStatus x s).divider = s.divider := rfl
@[simp] theorem setStatus_addrSel (x : CheckinStatus) : (setStatus x s).addrSel = s.addrSel := rfl
@[simp] theorem setStatus_entropyFailed (x : CheckinStatus) : (setStatus x s).entropyFailed = s.entropyFailed := rfl
@[simp] theorem setStatus_entropyTest (x : CheckinStatus) : (setStatus x s).entropyTest = s.entropyTest := rfl
@[simp] theorem setStatus_startup (x : CheckinStatus) : (setStatus x s).startup = s.startup := rfl
@[simp] theorem setStatus_held (x : CheckinStatus) : (setStatus x s).held = s.held := rfl
@[simp] theorem setStatus_ks (x : CheckinStatus) : (setStatus x s).ks = s.ks := rfl
@[simp] theorem setStatus_w (x : CheckinStatus) : (setStatus x s).w = s.w := rfl
@[simp] theorem setStatus_bands (x : CheckinStatus) : (setStatus x s).bands = s.bands := rfl
@[simp] theorem setStatus_coverPermit (x : CheckinStatus) : (setStatus x s).coverPermit = s.coverPermit := rfl
@[simp] theorem setStatus_keys (x : CheckinStatus) : (setStatus x s).keys = s.keys := rfl
@[simp] theorem setStatus_backoff (x : CheckinStatus) : (setStatus x s).backoff = s.backoff := rfl
@[simp] theorem setStatus_wipe (x : CheckinStatus) : (setStatus x s).wipe = s.wipe := rfl
@[simp] theorem setStatus_engine (x : CheckinStatus) : (setStatus x s).engine = s.engine := rfl
@[simp] theorem setStatus_linkBox (x : CheckinStatus) : (setStatus x s).linkBox = s.linkBox := rfl
@[simp] theorem setStatus_sideBox (x : CheckinStatus) : (setStatus x s).sideBox = s.sideBox := rfl
@[simp] theorem setStatus_link (x : CheckinStatus) : (setStatus x s).link = s.link := rfl
@[simp] theorem setStatus_dq (x : CheckinStatus) : (setStatus x s).dq = s.dq := rfl
@[simp] theorem setStatus_stu (x : CheckinStatus) : (setStatus x s).stu = s.stu := rfl
@[simp] theorem setStatus_laneA (x : CheckinStatus) : (setStatus x s).laneA = s.laneA := rfl
@[simp] theorem setStatus_laneB (x : CheckinStatus) : (setStatus x s).laneB = s.laneB := rfl
@[simp] theorem setStatus_psp (x : CheckinStatus) : (setStatus x s).psp = s.psp := rfl
@[simp] theorem setStatus_pending (x : CheckinStatus) : (setStatus x s).pending = s.pending := rfl

/-! ### setMeter -/

@[simp] theorem setMeter_mode (n : Nat) : (setMeter n s).mode = s.mode := rfl
@[simp] theorem setMeter_supplyOk (n : Nat) : (setMeter n s).supplyOk = s.supplyOk := rfl
@[simp] theorem setMeter_supplyPrev (n : Nat) : (setMeter n s).supplyPrev = s.supplyPrev := rfl
@[simp] theorem setMeter_supplySeenOk (n : Nat) : (setMeter n s).supplySeenOk = s.supplySeenOk := rfl
@[simp] theorem setMeter_divider (n : Nat) : (setMeter n s).divider = s.divider := rfl
@[simp] theorem setMeter_addrSel (n : Nat) : (setMeter n s).addrSel = s.addrSel := rfl
@[simp] theorem setMeter_entropyFailed (n : Nat) : (setMeter n s).entropyFailed = s.entropyFailed := rfl
@[simp] theorem setMeter_entropyTest (n : Nat) : (setMeter n s).entropyTest = s.entropyTest := rfl
@[simp] theorem setMeter_startup (n : Nat) : (setMeter n s).startup = s.startup := rfl
@[simp] theorem setMeter_held (n : Nat) : (setMeter n s).held = s.held := rfl
@[simp] theorem setMeter_ks (n : Nat) : (setMeter n s).ks = s.ks := rfl
@[simp] theorem setMeter_w (n : Nat) : (setMeter n s).w = s.w := rfl
@[simp] theorem setMeter_bands (n : Nat) : (setMeter n s).bands = s.bands := rfl
@[simp] theorem setMeter_coverPermit (n : Nat) : (setMeter n s).coverPermit = s.coverPermit := rfl
@[simp] theorem setMeter_keys (n : Nat) : (setMeter n s).keys = s.keys := rfl
@[simp] theorem setMeter_backoff (n : Nat) : (setMeter n s).backoff = s.backoff := rfl
@[simp] theorem setMeter_wipe (n : Nat) : (setMeter n s).wipe = s.wipe := rfl
@[simp] theorem setMeter_engine (n : Nat) : (setMeter n s).engine = s.engine := rfl
@[simp] theorem setMeter_linkBox (n : Nat) : (setMeter n s).linkBox = s.linkBox := rfl
@[simp] theorem setMeter_sideBox (n : Nat) : (setMeter n s).sideBox = s.sideBox := rfl
@[simp] theorem setMeter_link (n : Nat) : (setMeter n s).link = s.link := rfl
@[simp] theorem setMeter_dq (n : Nat) : (setMeter n s).dq = s.dq := rfl
@[simp] theorem setMeter_stu (n : Nat) : (setMeter n s).stu = s.stu := rfl
@[simp] theorem setMeter_laneA (n : Nat) : (setMeter n s).laneA = s.laneA := rfl
@[simp] theorem setMeter_laneB (n : Nat) : (setMeter n s).laneB = s.laneB := rfl
@[simp] theorem setMeter_psp (n : Nat) : (setMeter n s).psp = s.psp := rfl
@[simp] theorem setMeter_pending (n : Nat) : (setMeter n s).pending = s.pending := rfl

/-! ### editTransfer -/

@[simp] theorem editTransfer_mode (tag : Byte) (f : Transfer → Transfer) : (editTransfer tag f s).mode = s.mode := rfl
@[simp] theorem editTransfer_supplyOk (tag : Byte) (f : Transfer → Transfer) : (editTransfer tag f s).supplyOk = s.supplyOk := rfl
@[simp] theorem editTransfer_supplyPrev (tag : Byte) (f : Transfer → Transfer) : (editTransfer tag f s).supplyPrev = s.supplyPrev := rfl
@[simp] theorem editTransfer_supplySeenOk (tag : Byte) (f : Transfer → Transfer) : (editTransfer tag f s).supplySeenOk = s.supplySeenOk := rfl
@[simp] theorem editTransfer_divider (tag : Byte) (f : Transfer → Transfer) : (editTransfer tag f s).divider = s.divider := rfl
@[simp] theorem editTransfer_addrSel (tag : Byte) (f : Transfer → Transfer) : (editTransfer tag f s).addrSel = s.addrSel := rfl
@[simp] theorem editTransfer_entropyFailed (tag : Byte) (f : Transfer → Transfer) : (editTransfer tag f s).entropyFailed = s.entropyFailed := rfl
@[simp] theorem editTransfer_entropyTest (tag : Byte) (f : Transfer → Transfer) : (editTransfer tag f s).entropyTest = s.entropyTest := rfl
@[simp] theorem editTransfer_startup (tag : Byte) (f : Transfer → Transfer) : (editTransfer tag f s).startup = s.startup := rfl
@[simp] theorem editTransfer_held (tag : Byte) (f : Transfer → Transfer) : (editTransfer tag f s).held = s.held := rfl
@[simp] theorem editTransfer_ks (tag : Byte) (f : Transfer → Transfer) : (editTransfer tag f s).ks = s.ks := rfl
@[simp] theorem editTransfer_w (tag : Byte) (f : Transfer → Transfer) : (editTransfer tag f s).w = s.w := rfl
@[simp] theorem editTransfer_bands (tag : Byte) (f : Transfer → Transfer) : (editTransfer tag f s).bands = s.bands := rfl
@[simp] theorem editTransfer_coverPermit (tag : Byte) (f : Transfer → Transfer) : (editTransfer tag f s).coverPermit = s.coverPermit := rfl
@[simp] theorem editTransfer_keys (tag : Byte) (f : Transfer → Transfer) : (editTransfer tag f s).keys = s.keys := rfl
@[simp] theorem editTransfer_backoff (tag : Byte) (f : Transfer → Transfer) : (editTransfer tag f s).backoff = s.backoff := rfl
@[simp] theorem editTransfer_twu (tag : Byte) (f : Transfer → Transfer) : (editTransfer tag f s).twu = s.twu := rfl
@[simp] theorem editTransfer_wipe (tag : Byte) (f : Transfer → Transfer) : (editTransfer tag f s).wipe = s.wipe := rfl
@[simp] theorem editTransfer_engine (tag : Byte) (f : Transfer → Transfer) : (editTransfer tag f s).engine = s.engine := rfl
@[simp] theorem editTransfer_linkBox (tag : Byte) (f : Transfer → Transfer) : (editTransfer tag f s).linkBox = s.linkBox := rfl
@[simp] theorem editTransfer_sideBox (tag : Byte) (f : Transfer → Transfer) : (editTransfer tag f s).sideBox = s.sideBox := rfl
@[simp] theorem editTransfer_link (tag : Byte) (f : Transfer → Transfer) : (editTransfer tag f s).link = s.link := rfl
@[simp] theorem editTransfer_stu (tag : Byte) (f : Transfer → Transfer) : (editTransfer tag f s).stu = s.stu := rfl
@[simp] theorem editTransfer_laneA (tag : Byte) (f : Transfer → Transfer) : (editTransfer tag f s).laneA = s.laneA := rfl
@[simp] theorem editTransfer_laneB (tag : Byte) (f : Transfer → Transfer) : (editTransfer tag f s).laneB = s.laneB := rfl
@[simp] theorem editTransfer_psp (tag : Byte) (f : Transfer → Transfer) : (editTransfer tag f s).psp = s.psp := rfl
@[simp] theorem editTransfer_pending (tag : Byte) (f : Transfer → Transfer) : (editTransfer tag f s).pending = s.pending := rfl

/-! ### writeRecord -/

@[simp] theorem writeRecord_mode (r : Response) : (writeRecord r s).mode = s.mode := rfl
@[simp] theorem writeRecord_supplyOk (r : Response) : (writeRecord r s).supplyOk = s.supplyOk := rfl
@[simp] theorem writeRecord_supplyPrev (r : Response) : (writeRecord r s).supplyPrev = s.supplyPrev := rfl
@[simp] theorem writeRecord_supplySeenOk (r : Response) : (writeRecord r s).supplySeenOk = s.supplySeenOk := rfl
@[simp] theorem writeRecord_divider (r : Response) : (writeRecord r s).divider = s.divider := rfl
@[simp] theorem writeRecord_addrSel (r : Response) : (writeRecord r s).addrSel = s.addrSel := rfl
@[simp] theorem writeRecord_entropyFailed (r : Response) : (writeRecord r s).entropyFailed = s.entropyFailed := rfl
@[simp] theorem writeRecord_entropyTest (r : Response) : (writeRecord r s).entropyTest = s.entropyTest := rfl
@[simp] theorem writeRecord_startup (r : Response) : (writeRecord r s).startup = s.startup := rfl
@[simp] theorem writeRecord_held (r : Response) : (writeRecord r s).held = s.held := rfl
@[simp] theorem writeRecord_ks (r : Response) : (writeRecord r s).ks = s.ks := rfl
@[simp] theorem writeRecord_w (r : Response) : (writeRecord r s).w = s.w := rfl
@[simp] theorem writeRecord_bands (r : Response) : (writeRecord r s).bands = s.bands := rfl
@[simp] theorem writeRecord_coverPermit (r : Response) : (writeRecord r s).coverPermit = s.coverPermit := rfl
@[simp] theorem writeRecord_keys (r : Response) : (writeRecord r s).keys = s.keys := rfl
@[simp] theorem writeRecord_backoff (r : Response) : (writeRecord r s).backoff = s.backoff := rfl
@[simp] theorem writeRecord_twu (r : Response) : (writeRecord r s).twu = s.twu := rfl
@[simp] theorem writeRecord_wipe (r : Response) : (writeRecord r s).wipe = s.wipe := rfl
@[simp] theorem writeRecord_engine (r : Response) : (writeRecord r s).engine = s.engine := rfl
@[simp] theorem writeRecord_linkBox (r : Response) : (writeRecord r s).linkBox = s.linkBox := rfl
@[simp] theorem writeRecord_sideBox (r : Response) : (writeRecord r s).sideBox = s.sideBox := rfl
@[simp] theorem writeRecord_link (r : Response) : (writeRecord r s).link = s.link := rfl
@[simp] theorem writeRecord_dq (r : Response) : (writeRecord r s).dq = s.dq := rfl
@[simp] theorem writeRecord_stu (r : Response) : (writeRecord r s).stu = s.stu := rfl
@[simp] theorem writeRecord_laneA (r : Response) : (writeRecord r s).laneA = s.laneA := rfl
@[simp] theorem writeRecord_laneB (r : Response) : (writeRecord r s).laneB = s.laneB := rfl
@[simp] theorem writeRecord_pending (r : Response) : (writeRecord r s).pending = s.pending := rfl

/-! ### pointAfter -/

@[simp] theorem pointAfter_mode (a : Nat) : (pointAfter a s).mode = s.mode := rfl
@[simp] theorem pointAfter_supplyOk (a : Nat) : (pointAfter a s).supplyOk = s.supplyOk := rfl
@[simp] theorem pointAfter_supplyPrev (a : Nat) : (pointAfter a s).supplyPrev = s.supplyPrev := rfl
@[simp] theorem pointAfter_supplySeenOk (a : Nat) : (pointAfter a s).supplySeenOk = s.supplySeenOk := rfl
@[simp] theorem pointAfter_divider (a : Nat) : (pointAfter a s).divider = s.divider := rfl
@[simp] theorem pointAfter_addrSel (a : Nat) : (pointAfter a s).addrSel = s.addrSel := rfl
@[simp] theorem pointAfter_entropyFailed (a : Nat) : (pointAfter a s).entropyFailed = s.entropyFailed := rfl
@[simp] theorem pointAfter_entropyTest (a : Nat) : (pointAfter a s).entropyTest = s.entropyTest := rfl
@[simp] theorem pointAfter_startup (a : Nat) : (pointAfter a s).startup = s.startup := rfl
@[simp] theorem pointAfter_held (a : Nat) : (pointAfter a s).held = s.held := rfl
@[simp] theorem pointAfter_ks (a : Nat) : (pointAfter a s).ks = s.ks := rfl
@[simp] theorem pointAfter_w (a : Nat) : (pointAfter a s).w = s.w := rfl
@[simp] theorem pointAfter_bands (a : Nat) : (pointAfter a s).bands = s.bands := rfl
@[simp] theorem pointAfter_coverPermit (a : Nat) : (pointAfter a s).coverPermit = s.coverPermit := rfl
@[simp] theorem pointAfter_keys (a : Nat) : (pointAfter a s).keys = s.keys := rfl
@[simp] theorem pointAfter_backoff (a : Nat) : (pointAfter a s).backoff = s.backoff := rfl
@[simp] theorem pointAfter_twu (a : Nat) : (pointAfter a s).twu = s.twu := rfl
@[simp] theorem pointAfter_wipe (a : Nat) : (pointAfter a s).wipe = s.wipe := rfl
@[simp] theorem pointAfter_engine (a : Nat) : (pointAfter a s).engine = s.engine := rfl
@[simp] theorem pointAfter_linkBox (a : Nat) : (pointAfter a s).linkBox = s.linkBox := rfl
@[simp] theorem pointAfter_sideBox (a : Nat) : (pointAfter a s).sideBox = s.sideBox := rfl
@[simp] theorem pointAfter_link (a : Nat) : (pointAfter a s).link = s.link := rfl
@[simp] theorem pointAfter_dq (a : Nat) : (pointAfter a s).dq = s.dq := rfl
@[simp] theorem pointAfter_stu (a : Nat) : (pointAfter a s).stu = s.stu := rfl
@[simp] theorem pointAfter_laneA (a : Nat) : (pointAfter a s).laneA = s.laneA := rfl
@[simp] theorem pointAfter_laneB (a : Nat) : (pointAfter a s).laneB = s.laneB := rfl
@[simp] theorem pointAfter_pending (a : Nat) : (pointAfter a s).pending = s.pending := rfl

/-! ### zeroBuffer -/

@[simp] theorem zeroBuffer_mode : (zeroBuffer s).mode = s.mode := rfl
@[simp] theorem zeroBuffer_supplyOk : (zeroBuffer s).supplyOk = s.supplyOk := rfl
@[simp] theorem zeroBuffer_supplyPrev : (zeroBuffer s).supplyPrev = s.supplyPrev := rfl
@[simp] theorem zeroBuffer_supplySeenOk : (zeroBuffer s).supplySeenOk = s.supplySeenOk := rfl
@[simp] theorem zeroBuffer_divider : (zeroBuffer s).divider = s.divider := rfl
@[simp] theorem zeroBuffer_addrSel : (zeroBuffer s).addrSel = s.addrSel := rfl
@[simp] theorem zeroBuffer_entropyFailed : (zeroBuffer s).entropyFailed = s.entropyFailed := rfl
@[simp] theorem zeroBuffer_entropyTest : (zeroBuffer s).entropyTest = s.entropyTest := rfl
@[simp] theorem zeroBuffer_startup : (zeroBuffer s).startup = s.startup := rfl
@[simp] theorem zeroBuffer_held : (zeroBuffer s).held = s.held := rfl
@[simp] theorem zeroBuffer_ks : (zeroBuffer s).ks = s.ks := rfl
@[simp] theorem zeroBuffer_w : (zeroBuffer s).w = s.w := rfl
@[simp] theorem zeroBuffer_bands : (zeroBuffer s).bands = s.bands := rfl
@[simp] theorem zeroBuffer_coverPermit : (zeroBuffer s).coverPermit = s.coverPermit := rfl
@[simp] theorem zeroBuffer_keys : (zeroBuffer s).keys = s.keys := rfl
@[simp] theorem zeroBuffer_backoff : (zeroBuffer s).backoff = s.backoff := rfl
@[simp] theorem zeroBuffer_twu : (zeroBuffer s).twu = s.twu := rfl
@[simp] theorem zeroBuffer_wipe : (zeroBuffer s).wipe = s.wipe := rfl
@[simp] theorem zeroBuffer_engine : (zeroBuffer s).engine = s.engine := rfl
@[simp] theorem zeroBuffer_linkBox : (zeroBuffer s).linkBox = s.linkBox := rfl
@[simp] theorem zeroBuffer_sideBox : (zeroBuffer s).sideBox = s.sideBox := rfl
@[simp] theorem zeroBuffer_link : (zeroBuffer s).link = s.link := rfl
@[simp] theorem zeroBuffer_dq : (zeroBuffer s).dq = s.dq := rfl
@[simp] theorem zeroBuffer_stu : (zeroBuffer s).stu = s.stu := rfl
@[simp] theorem zeroBuffer_laneA : (zeroBuffer s).laneA = s.laneA := rfl
@[simp] theorem zeroBuffer_laneB : (zeroBuffer s).laneB = s.laneB := rfl
@[simp] theorem zeroBuffer_pending : (zeroBuffer s).pending = s.pending := rfl

/-! ### zeroToken -/

@[simp] theorem zeroToken_mode : (zeroToken s).mode = s.mode := rfl
@[simp] theorem zeroToken_supplyOk : (zeroToken s).supplyOk = s.supplyOk := rfl
@[simp] theorem zeroToken_supplyPrev : (zeroToken s).supplyPrev = s.supplyPrev := rfl
@[simp] theorem zeroToken_supplySeenOk : (zeroToken s).supplySeenOk = s.supplySeenOk := rfl
@[simp] theorem zeroToken_divider : (zeroToken s).divider = s.divider := rfl
@[simp] theorem zeroToken_addrSel : (zeroToken s).addrSel = s.addrSel := rfl
@[simp] theorem zeroToken_entropyFailed : (zeroToken s).entropyFailed = s.entropyFailed := rfl
@[simp] theorem zeroToken_entropyTest : (zeroToken s).entropyTest = s.entropyTest := rfl
@[simp] theorem zeroToken_startup : (zeroToken s).startup = s.startup := rfl
@[simp] theorem zeroToken_held : (zeroToken s).held = s.held := rfl
@[simp] theorem zeroToken_ks : (zeroToken s).ks = s.ks := rfl
@[simp] theorem zeroToken_w : (zeroToken s).w = s.w := rfl
@[simp] theorem zeroToken_bands : (zeroToken s).bands = s.bands := rfl
@[simp] theorem zeroToken_coverPermit : (zeroToken s).coverPermit = s.coverPermit := rfl
@[simp] theorem zeroToken_keys : (zeroToken s).keys = s.keys := rfl
@[simp] theorem zeroToken_backoff : (zeroToken s).backoff = s.backoff := rfl
@[simp] theorem zeroToken_twu : (zeroToken s).twu = s.twu := rfl
@[simp] theorem zeroToken_wipe : (zeroToken s).wipe = s.wipe := rfl
@[simp] theorem zeroToken_engine : (zeroToken s).engine = s.engine := rfl
@[simp] theorem zeroToken_linkBox : (zeroToken s).linkBox = s.linkBox := rfl
@[simp] theorem zeroToken_sideBox : (zeroToken s).sideBox = s.sideBox := rfl
@[simp] theorem zeroToken_link : (zeroToken s).link = s.link := rfl
@[simp] theorem zeroToken_dq : (zeroToken s).dq = s.dq := rfl
@[simp] theorem zeroToken_stu : (zeroToken s).stu = s.stu := rfl
@[simp] theorem zeroToken_laneA : (zeroToken s).laneA = s.laneA := rfl
@[simp] theorem zeroToken_laneB : (zeroToken s).laneB = s.laneB := rfl
@[simp] theorem zeroToken_pending : (zeroToken s).pending = s.pending := rfl

/-! ### withQueue -/

@[simp] theorem withQueue_mode (q : List Instr) : (withQueue q s).mode = s.mode := rfl
@[simp] theorem withQueue_supplyOk (q : List Instr) : (withQueue q s).supplyOk = s.supplyOk := rfl
@[simp] theorem withQueue_supplyPrev (q : List Instr) : (withQueue q s).supplyPrev = s.supplyPrev := rfl
@[simp] theorem withQueue_supplySeenOk (q : List Instr) : (withQueue q s).supplySeenOk = s.supplySeenOk := rfl
@[simp] theorem withQueue_divider (q : List Instr) : (withQueue q s).divider = s.divider := rfl
@[simp] theorem withQueue_addrSel (q : List Instr) : (withQueue q s).addrSel = s.addrSel := rfl
@[simp] theorem withQueue_entropyFailed (q : List Instr) : (withQueue q s).entropyFailed = s.entropyFailed := rfl
@[simp] theorem withQueue_entropyTest (q : List Instr) : (withQueue q s).entropyTest = s.entropyTest := rfl
@[simp] theorem withQueue_startup (q : List Instr) : (withQueue q s).startup = s.startup := rfl
@[simp] theorem withQueue_held (q : List Instr) : (withQueue q s).held = s.held := rfl
@[simp] theorem withQueue_ks (q : List Instr) : (withQueue q s).ks = s.ks := rfl
@[simp] theorem withQueue_w (q : List Instr) : (withQueue q s).w = s.w := rfl
@[simp] theorem withQueue_bands (q : List Instr) : (withQueue q s).bands = s.bands := rfl
@[simp] theorem withQueue_coverPermit (q : List Instr) : (withQueue q s).coverPermit = s.coverPermit := rfl
@[simp] theorem withQueue_keys (q : List Instr) : (withQueue q s).keys = s.keys := rfl
@[simp] theorem withQueue_backoff (q : List Instr) : (withQueue q s).backoff = s.backoff := rfl
@[simp] theorem withQueue_twu (q : List Instr) : (withQueue q s).twu = s.twu := rfl
@[simp] theorem withQueue_wipe (q : List Instr) : (withQueue q s).wipe = s.wipe := rfl
@[simp] theorem withQueue_engine (q : List Instr) : (withQueue q s).engine = s.engine := rfl
@[simp] theorem withQueue_linkBox (q : List Instr) : (withQueue q s).linkBox = s.linkBox := rfl
@[simp] theorem withQueue_sideBox (q : List Instr) : (withQueue q s).sideBox = s.sideBox := rfl
@[simp] theorem withQueue_link (q : List Instr) : (withQueue q s).link = s.link := rfl
@[simp] theorem withQueue_dq (q : List Instr) : (withQueue q s).dq = s.dq := rfl
@[simp] theorem withQueue_stu (q : List Instr) : (withQueue q s).stu = s.stu := rfl
@[simp] theorem withQueue_laneA (q : List Instr) : (withQueue q s).laneA = s.laneA := rfl
@[simp] theorem withQueue_laneB (q : List Instr) : (withQueue q s).laneB = s.laneB := rfl
@[simp] theorem withQueue_psp (q : List Instr) : (withQueue q s).psp = s.psp := rfl

/-! ### setBox -/

@[simp] theorem setBox_mode (p : Port) (h : Option Held) : (setBox p h s).mode = s.mode := by cases p <;> rfl
@[simp] theorem setBox_supplyOk (p : Port) (h : Option Held) : (setBox p h s).supplyOk = s.supplyOk := by cases p <;> rfl
@[simp] theorem setBox_supplyPrev (p : Port) (h : Option Held) : (setBox p h s).supplyPrev = s.supplyPrev := by cases p <;> rfl
@[simp] theorem setBox_supplySeenOk (p : Port) (h : Option Held) : (setBox p h s).supplySeenOk = s.supplySeenOk := by cases p <;> rfl
@[simp] theorem setBox_divider (p : Port) (h : Option Held) : (setBox p h s).divider = s.divider := by cases p <;> rfl
@[simp] theorem setBox_addrSel (p : Port) (h : Option Held) : (setBox p h s).addrSel = s.addrSel := by cases p <;> rfl
@[simp] theorem setBox_entropyFailed (p : Port) (h : Option Held) : (setBox p h s).entropyFailed = s.entropyFailed := by cases p <;> rfl
@[simp] theorem setBox_entropyTest (p : Port) (h : Option Held) : (setBox p h s).entropyTest = s.entropyTest := by cases p <;> rfl
@[simp] theorem setBox_startup (p : Port) (h : Option Held) : (setBox p h s).startup = s.startup := by cases p <;> rfl
@[simp] theorem setBox_held (p : Port) (h : Option Held) : (setBox p h s).held = s.held := by cases p <;> rfl
@[simp] theorem setBox_ks (p : Port) (h : Option Held) : (setBox p h s).ks = s.ks := by cases p <;> rfl
@[simp] theorem setBox_w (p : Port) (h : Option Held) : (setBox p h s).w = s.w := by cases p <;> rfl
@[simp] theorem setBox_bands (p : Port) (h : Option Held) : (setBox p h s).bands = s.bands := by cases p <;> rfl
@[simp] theorem setBox_coverPermit (p : Port) (h : Option Held) : (setBox p h s).coverPermit = s.coverPermit := by cases p <;> rfl
@[simp] theorem setBox_keys (p : Port) (h : Option Held) : (setBox p h s).keys = s.keys := by cases p <;> rfl
@[simp] theorem setBox_backoff (p : Port) (h : Option Held) : (setBox p h s).backoff = s.backoff := by cases p <;> rfl
@[simp] theorem setBox_twu (p : Port) (h : Option Held) : (setBox p h s).twu = s.twu := by cases p <;> rfl
@[simp] theorem setBox_wipe (p : Port) (h : Option Held) : (setBox p h s).wipe = s.wipe := by cases p <;> rfl
@[simp] theorem setBox_engine (p : Port) (h : Option Held) : (setBox p h s).engine = s.engine := by cases p <;> rfl
@[simp] theorem setBox_link (p : Port) (h : Option Held) : (setBox p h s).link = s.link := by cases p <;> rfl
@[simp] theorem setBox_dq (p : Port) (h : Option Held) : (setBox p h s).dq = s.dq := by cases p <;> rfl
@[simp] theorem setBox_stu (p : Port) (h : Option Held) : (setBox p h s).stu = s.stu := by cases p <;> rfl
@[simp] theorem setBox_laneA (p : Port) (h : Option Held) : (setBox p h s).laneA = s.laneA := by cases p <;> rfl
@[simp] theorem setBox_laneB (p : Port) (h : Option Held) : (setBox p h s).laneB = s.laneB := by cases p <;> rfl
@[simp] theorem setBox_psp (p : Port) (h : Option Held) : (setBox p h s).psp = s.psp := by cases p <;> rfl
@[simp] theorem setBox_pending (p : Port) (h : Option Held) : (setBox p h s).pending = s.pending := by cases p <;> rfl

/-! ### setLane -/

@[simp] theorem setLane_mode (l : LaneId) (x : Lane) : (setLane l x s).mode = s.mode := by cases l <;> rfl
@[simp] theorem setLane_supplyOk (l : LaneId) (x : Lane) : (setLane l x s).supplyOk = s.supplyOk := by cases l <;> rfl
@[simp] theorem setLane_supplyPrev (l : LaneId) (x : Lane) : (setLane l x s).supplyPrev = s.supplyPrev := by cases l <;> rfl
@[simp] theorem setLane_supplySeenOk (l : LaneId) (x : Lane) : (setLane l x s).supplySeenOk = s.supplySeenOk := by cases l <;> rfl
@[simp] theorem setLane_divider (l : LaneId) (x : Lane) : (setLane l x s).divider = s.divider := by cases l <;> rfl
@[simp] theorem setLane_addrSel (l : LaneId) (x : Lane) : (setLane l x s).addrSel = s.addrSel := by cases l <;> rfl
@[simp] theorem setLane_entropyFailed (l : LaneId) (x : Lane) : (setLane l x s).entropyFailed = s.entropyFailed := by cases l <;> rfl
@[simp] theorem setLane_entropyTest (l : LaneId) (x : Lane) : (setLane l x s).entropyTest = s.entropyTest := by cases l <;> rfl
@[simp] theorem setLane_startup (l : LaneId) (x : Lane) : (setLane l x s).startup = s.startup := by cases l <;> rfl
@[simp] theorem setLane_held (l : LaneId) (x : Lane) : (setLane l x s).held = s.held := by cases l <;> rfl
@[simp] theorem setLane_ks (l : LaneId) (x : Lane) : (setLane l x s).ks = s.ks := by cases l <;> rfl
@[simp] theorem setLane_w (l : LaneId) (x : Lane) : (setLane l x s).w = s.w := by cases l <;> rfl
@[simp] theorem setLane_bands (l : LaneId) (x : Lane) : (setLane l x s).bands = s.bands := by cases l <;> rfl
@[simp] theorem setLane_coverPermit (l : LaneId) (x : Lane) : (setLane l x s).coverPermit = s.coverPermit := by cases l <;> rfl
@[simp] theorem setLane_keys (l : LaneId) (x : Lane) : (setLane l x s).keys = s.keys := by cases l <;> rfl
@[simp] theorem setLane_backoff (l : LaneId) (x : Lane) : (setLane l x s).backoff = s.backoff := by cases l <;> rfl
@[simp] theorem setLane_twu (l : LaneId) (x : Lane) : (setLane l x s).twu = s.twu := by cases l <;> rfl
@[simp] theorem setLane_wipe (l : LaneId) (x : Lane) : (setLane l x s).wipe = s.wipe := by cases l <;> rfl
@[simp] theorem setLane_engine (l : LaneId) (x : Lane) : (setLane l x s).engine = s.engine := by cases l <;> rfl
@[simp] theorem setLane_linkBox (l : LaneId) (x : Lane) : (setLane l x s).linkBox = s.linkBox := by cases l <;> rfl
@[simp] theorem setLane_sideBox (l : LaneId) (x : Lane) : (setLane l x s).sideBox = s.sideBox := by cases l <;> rfl
@[simp] theorem setLane_link (l : LaneId) (x : Lane) : (setLane l x s).link = s.link := by cases l <;> rfl
@[simp] theorem setLane_dq (l : LaneId) (x : Lane) : (setLane l x s).dq = s.dq := by cases l <;> rfl
@[simp] theorem setLane_stu (l : LaneId) (x : Lane) : (setLane l x s).stu = s.stu := by cases l <;> rfl
@[simp] theorem setLane_psp (l : LaneId) (x : Lane) : (setLane l x s).psp = s.psp := by cases l <;> rfl
@[simp] theorem setLane_pending (l : LaneId) (x : Lane) : (setLane l x s).pending = s.pending := by cases l <;> rfl

/-! ### handMailbox -/

@[simp] theorem handMailbox_mode (p : Port) (j : Job) : (handMailbox p j s).mode = s.mode := by cases p <;> rfl
@[simp] theorem handMailbox_supplyOk (p : Port) (j : Job) : (handMailbox p j s).supplyOk = s.supplyOk := by cases p <;> rfl
@[simp] theorem handMailbox_supplyPrev (p : Port) (j : Job) : (handMailbox p j s).supplyPrev = s.supplyPrev := by cases p <;> rfl
@[simp] theorem handMailbox_supplySeenOk (p : Port) (j : Job) : (handMailbox p j s).supplySeenOk = s.supplySeenOk := by cases p <;> rfl
@[simp] theorem handMailbox_divider (p : Port) (j : Job) : (handMailbox p j s).divider = s.divider := by cases p <;> rfl
@[simp] theorem handMailbox_addrSel (p : Port) (j : Job) : (handMailbox p j s).addrSel = s.addrSel := by cases p <;> rfl
@[simp] theorem handMailbox_entropyFailed (p : Port) (j : Job) : (handMailbox p j s).entropyFailed = s.entropyFailed := by cases p <;> rfl
@[simp] theorem handMailbox_entropyTest (p : Port) (j : Job) : (handMailbox p j s).entropyTest = s.entropyTest := by cases p <;> rfl
@[simp] theorem handMailbox_startup (p : Port) (j : Job) : (handMailbox p j s).startup = s.startup := by cases p <;> rfl
@[simp] theorem handMailbox_held (p : Port) (j : Job) : (handMailbox p j s).held = s.held := by cases p <;> rfl
@[simp] theorem handMailbox_ks (p : Port) (j : Job) : (handMailbox p j s).ks = s.ks := by cases p <;> rfl
@[simp] theorem handMailbox_w (p : Port) (j : Job) : (handMailbox p j s).w = s.w := by cases p <;> rfl
@[simp] theorem handMailbox_bands (p : Port) (j : Job) : (handMailbox p j s).bands = s.bands := by cases p <;> rfl
@[simp] theorem handMailbox_coverPermit (p : Port) (j : Job) : (handMailbox p j s).coverPermit = s.coverPermit := by cases p <;> rfl
@[simp] theorem handMailbox_keys (p : Port) (j : Job) : (handMailbox p j s).keys = s.keys := by cases p <;> rfl
@[simp] theorem handMailbox_backoff (p : Port) (j : Job) : (handMailbox p j s).backoff = s.backoff := by cases p <;> rfl
@[simp] theorem handMailbox_twu (p : Port) (j : Job) : (handMailbox p j s).twu = s.twu := by cases p <;> rfl
@[simp] theorem handMailbox_wipe (p : Port) (j : Job) : (handMailbox p j s).wipe = s.wipe := by cases p <;> rfl
@[simp] theorem handMailbox_linkBox (p : Port) (j : Job) : (handMailbox p j s).linkBox = s.linkBox := by cases p <;> rfl
@[simp] theorem handMailbox_sideBox (p : Port) (j : Job) : (handMailbox p j s).sideBox = s.sideBox := by cases p <;> rfl
@[simp] theorem handMailbox_link (p : Port) (j : Job) : (handMailbox p j s).link = s.link := by cases p <;> rfl
@[simp] theorem handMailbox_dq (p : Port) (j : Job) : (handMailbox p j s).dq = s.dq := by cases p <;> rfl
@[simp] theorem handMailbox_stu (p : Port) (j : Job) : (handMailbox p j s).stu = s.stu := by cases p <;> rfl
@[simp] theorem handMailbox_laneA (p : Port) (j : Job) : (handMailbox p j s).laneA = s.laneA := by cases p <;> rfl
@[simp] theorem handMailbox_laneB (p : Port) (j : Job) : (handMailbox p j s).laneB = s.laneB := by cases p <;> rfl
@[simp] theorem handMailbox_psp (p : Port) (j : Job) : (handMailbox p j s).psp = s.psp := by cases p <;> rfl
@[simp] theorem handMailbox_pending (p : Port) (j : Job) : (handMailbox p j s).pending = s.pending := by cases p <;> rfl

/-! ### withdraw -/

@[simp] theorem withdraw_mode (p : Port) : (withdraw p s).mode = s.mode := by cases p <;> rfl
@[simp] theorem withdraw_supplyOk (p : Port) : (withdraw p s).supplyOk = s.supplyOk := by cases p <;> rfl
@[simp] theorem withdraw_supplyPrev (p : Port) : (withdraw p s).supplyPrev = s.supplyPrev := by cases p <;> rfl
@[simp] theorem withdraw_supplySeenOk (p : Port) : (withdraw p s).supplySeenOk = s.supplySeenOk := by cases p <;> rfl
@[simp] theorem withdraw_divider (p : Port) : (withdraw p s).divider = s.divider := by cases p <;> rfl
@[simp] theorem withdraw_addrSel (p : Port) : (withdraw p s).addrSel = s.addrSel := by cases p <;> rfl
@[simp] theorem withdraw_entropyFailed (p : Port) : (withdraw p s).entropyFailed = s.entropyFailed := by cases p <;> rfl
@[simp] theorem withdraw_entropyTest (p : Port) : (withdraw p s).entropyTest = s.entropyTest := by cases p <;> rfl
@[simp] theorem withdraw_startup (p : Port) : (withdraw p s).startup = s.startup := by cases p <;> rfl
@[simp] theorem withdraw_held (p : Port) : (withdraw p s).held = s.held := by cases p <;> rfl
@[simp] theorem withdraw_ks (p : Port) : (withdraw p s).ks = s.ks := by cases p <;> rfl
@[simp] theorem withdraw_w (p : Port) : (withdraw p s).w = s.w := by cases p <;> rfl
@[simp] theorem withdraw_bands (p : Port) : (withdraw p s).bands = s.bands := by cases p <;> rfl
@[simp] theorem withdraw_coverPermit (p : Port) : (withdraw p s).coverPermit = s.coverPermit := by cases p <;> rfl
@[simp] theorem withdraw_keys (p : Port) : (withdraw p s).keys = s.keys := by cases p <;> rfl
@[simp] theorem withdraw_backoff (p : Port) : (withdraw p s).backoff = s.backoff := by cases p <;> rfl
@[simp] theorem withdraw_twu (p : Port) : (withdraw p s).twu = s.twu := by cases p <;> rfl
@[simp] theorem withdraw_wipe (p : Port) : (withdraw p s).wipe = s.wipe := by cases p <;> rfl
@[simp] theorem withdraw_linkBox (p : Port) : (withdraw p s).linkBox = s.linkBox := by cases p <;> rfl
@[simp] theorem withdraw_sideBox (p : Port) : (withdraw p s).sideBox = s.sideBox := by cases p <;> rfl
@[simp] theorem withdraw_link (p : Port) : (withdraw p s).link = s.link := by cases p <;> rfl
@[simp] theorem withdraw_dq (p : Port) : (withdraw p s).dq = s.dq := by cases p <;> rfl
@[simp] theorem withdraw_stu (p : Port) : (withdraw p s).stu = s.stu := by cases p <;> rfl
@[simp] theorem withdraw_laneA (p : Port) : (withdraw p s).laneA = s.laneA := by cases p <;> rfl
@[simp] theorem withdraw_laneB (p : Port) : (withdraw p s).laneB = s.laneB := by cases p <;> rfl
@[simp] theorem withdraw_psp (p : Port) : (withdraw p s).psp = s.psp := by cases p <;> rfl
@[simp] theorem withdraw_pending (p : Port) : (withdraw p s).pending = s.pending := by cases p <;> rfl

/-! ### What the updates write -/

@[simp] theorem hand_outbound (m : OutMsg) : (hand m s).link.outbound = s.link.outbound ++ [m] := rfl
@[simp] theorem hand_inbound (m : OutMsg) : (hand m s).link.inbound = s.link.inbound := rfl
@[simp] theorem hand_dropMark (m : OutMsg) : (hand m s).link.dropMark = s.link.dropMark := rfl
@[simp] theorem handState_inbound : (handState s).link.inbound = s.link.inbound := rfl
@[simp] theorem setBackoff_backoff (i : SlotId) (n : Nat) : (setBackoff i n s).backoff = put s.backoff i n := rfl
@[simp] theorem setCount_counts (i : SlotId) (n : Nat) : (setCount i n s).w.counts = put s.w.counts i n := rfl
@[simp] theorem setCount_creds (i : SlotId) (n : Nat) : (setCount i n s).w.creds = s.w.creds := rfl
@[simp] theorem setCred_creds (i : SlotId) (c : Credential) : (setCred i c s).w.creds = put s.w.creds i c := rfl
@[simp] theorem setCred_counts (i : SlotId) (c : Credential) : (setCred i c s).w.counts = s.w.counts := rfl
@[simp] theorem setCred_watch (i : SlotId) (c : Credential) : (setCred i c s).w.watch = s.w.watch := rfl
@[simp] theorem setCount_watch (i : SlotId) (n : Nat) : (setCount i n s).w.watch = s.w.watch := rfl
@[simp] theorem setWatch_watch (x : Watch) : (setWatch x s).w.watch = x := rfl
@[simp] theorem setWatch_counts (x : Watch) : (setWatch x s).w.counts = s.w.counts := rfl
@[simp] theorem setWatch_creds (x : Watch) : (setWatch x s).w.creds = s.w.creds := rfl
@[simp] theorem setPlan_plan (x : Plan) : (setPlan x s).w.plan = x := rfl
@[simp] theorem setPlan_watch (x : Plan) : (setPlan x s).w.watch = s.w.watch := rfl
@[simp] theorem setRecord_records (b : BandId) (r : BandRecord) : (setRecord b r s).w.bands = put s.w.bands b r := rfl
@[simp] theorem setRecord_watch (b : BandId) (r : BandRecord) : (setRecord b r s).w.watch = s.w.watch := rfl
@[simp] theorem setSecret_secrets (b : BandId) (x : Option Secret) : (setSecret b x s).w.secrets = put s.w.secrets b x := rfl
@[simp] theorem setSecret_watch (b : BandId) (x : Option Secret) : (setSecret b x s).w.watch = s.w.watch := rfl
@[simp] theorem setActivity_activity (a : WipeActivity) : (setActivity a s).wipe.activity = a := rfl
@[simp] theorem raise_notice (x : BitVec 4) : (raise x s).psp.notice = s.psp.notice ||| x := rfl
@[simp] theorem endJob_running : (endJob s).engine.running = none := rfl
@[simp] theorem failEntropy_entropyFailed : (failEntropy s).entropyFailed = true := rfl
@[simp] theorem editTransfer_dq (tag : Byte) (f : Transfer → Transfer) : (editTransfer tag f s).dq = editRecord tag f s.dq := rfl

@[simp] theorem box_setBox_same (p : Port) (h : Option Held) : box p (setBox p h s) = h := by cases p <;> rfl
@[simp] theorem box_setBox_other (p : Port) (h : Option Held) : box (otherPort p) (setBox p h s) = box (otherPort p) s := by
  cases p <;> rfl
@[simp] theorem lane_setLane_same (l : LaneId) (x : Lane) : lane l (setLane l x s) = x := by cases l <;> rfl

end Sys2Proof.Machine
end

