-- ==== Sys2Proof/Laws/Tables.lean ====
section
/-! SUPPORT. Reading a table after an entry of it is replaced, and the tables made from functions. -/

namespace Sys2Proof

variable {α : Type}

@[simp] theorem get_put_same {n : Nat} (v : Vector α n) (i : Fin n) (x : α) : (put v i x).get i = x := by
  show (v.set i.val x i.isLt)[i.val] = x
  simp

theorem get_put_other {n : Nat} (v : Vector α n) {i j : Fin n} (h : i ≠ j) (x : α) : (put v i x).get j = v.get j := by
  have h' : i.val ≠ j.val := fun e => h (Fin.ext e)
  show (v.set i.val x i.isLt)[j.val] = v[j.val]
  rw [Vector.getElem_set]
  simp [h']

theorem get_put {n : Nat} (v : Vector α n) (i j : Fin n) (x : α) :
    (put v i x).get j = if i = j then x else v.get j := by
  by_cases h : i = j
  · subst h; simp
  · simp [get_put_other v h, h]

@[simp] theorem get_tab16 (f : BandId → α) (b : BandId) : (tab16 f).get b = f b := by
  fin_cases b <;> rfl

@[simp] theorem get_tab8 (f : SlotId → α) (i : SlotId) : (tab8 f).get i = f i := by
  fin_cases i <;> rfl

theorem vector_ext_get {n : Nat} {v w : Vector α n} (h : ∀ i : Fin n, v.get i = w.get i) : v = w := by
  apply Vector.ext
  intro i hi
  simpa [Vector.get] using h ⟨i, hi⟩

@[simp] theorem get_replicate {n : Nat} (x : α) (i : Fin n) : (Vector.replicate n x).get i = x := by
  simp [Vector.get]

theorem tab16_get (v : Vector α 16) : tab16 (fun b => v.get b) = v := vector_ext_get fun b => by simp

theorem mem_allBands (b : BandId) : b ∈ allBands := by fin_cases b <;> decide

theorem mem_allSlots (i : SlotId) : i ∈ allSlots := by fin_cases i <;> decide

end Sys2Proof
end

