-- ==== Sys2Proof/Laws/Store.lean ====
section
/-! SUPPORT. What the Key Store's operations can do: they touch the store alone. -/

namespace Sys2Proof.Machine

/-- Queueing a page changes nothing but the store. -/
theorem queuePage_frame (p : PageId) (ws : List Waiter) (s : State) :
    queuePage p ws s = { s with ks := (queuePage p ws s).ks } := by
  unfold queuePage
  split
  · rfl
  · split
    · rfl
    · split
      · split <;> rfl
      · split
        · split <;> rfl
        · rfl

/-- Queueing a page changes neither a page as the store holds it nor what is being written of it. -/
theorem queuePage_pages (p : PageId) (ws : List Waiter) (s : State) : (queuePage p ws s).ks.pages = s.ks.pages := by
  unfold queuePage
  split
  · rfl
  · split
    · rfl
    · split
      · split <;> rfl
      · split
        · split <;> rfl
        · rfl

/-- Queueing pages changes nothing but the store. -/
theorem queuePages_frame (ps : List PageId) (ws : List Waiter) (s : State) :
    queuePages ps ws s = { s with ks := (queuePages ps ws s).ks } := by
  induction ps generalizing s with
  | nil => rfl
  | cons p ps ih =>
    show queuePages ps ws (queuePage p ws s) = _
    rw [ih, queuePage_frame p ws s]
    conv_rhs => rw [queuePages, queuePage_frame p ws s]

/-- The writer's service changes nothing but the store. -/
theorem serviceStore_frame (s : State) : serviceStore s = { s with ks := (serviceStore s).ks } := by
  unfold serviceStore
  dsimp only
  split
  · rfl
  · split
    · split <;> rfl
    · rfl

/-- A completed write changes nothing but the store. -/
theorem completeWrite_frame (s : State) : completeWrite s = { s with ks := (completeWrite s).ks } := by
  unfold completeWrite
  split <;> rfl

/-- With no room wait list and no entry to take, the writer's service changes nothing. -/
theorem serviceStore_quiet (s : State) (h : storeQuiet s = true) : serviceStore s = s := by
  simp only [storeQuiet, Bool.and_eq_true, Bool.or_eq_true, decide_eq_true_eq, List.isEmpty_iff, Bool.not_eq_true',
    Option.isSome_iff_exists] at h
  obtain ⟨⟨hlen, hroom⟩, hw⟩ := h
  have htake : (s.ks.queue ++ s.ks.room).take Config.storeRoom = s.ks.queue := by
    rcases hroom with hr | hr
    · rw [hr, List.append_nil, List.take_of_length_le hlen]
    · rw [← hr, List.take_left]
  have hdrop : (s.ks.queue ++ s.ks.room).drop Config.storeRoom = s.ks.room := by
    rcases hroom with hr | hr
    · rw [hr, List.append_nil, List.drop_of_length_le hlen]
    · rw [← hr, List.drop_left]
  unfold serviceStore
  dsimp only
  split
  · rw [htake, hdrop]
  · rename_i hn
    split
    · rename_i hs
      rcases hw with (⟨x, hx⟩ | hs') | hq
      · simp [hx] at hn
      · simp [hs] at hs'
      · have hr : s.ks.room = [] := by
          rcases hroom with hr | hr
          · exact hr
          · rw [hq] at hr; simp [Config.storeRoom] at hr
        have hall : s.ks.queue ++ s.ks.room = [] := by rw [hq, hr]; rfl
        rw [hall]
        simp only [skipCancelled]
        rw [← hq]
        conv_lhs => rw [hq]
        have : s.ks = { s.ks with queue := [], room := [] } := by
          cases hks : s.ks with
          | mk pages queue room writer => rw [hks] at hq hr; simp only at hq hr; subst hq; subst hr; rfl
        rw [← this]
    · rw [htake, hdrop]

/-! ### What the store's operations leave as it was, field by field -/

section Fields

variable (s : State)

@[simp] theorem queuePage_mode (p : PageId) (ws : List Waiter) : (queuePage p ws s).mode = s.mode := by rw [queuePage_frame]
@[simp] theorem queuePage_supplyOk (p : PageId) (ws : List Waiter) : (queuePage p ws s).supplyOk = s.supplyOk := by rw [queuePage_frame]
@[simp] theorem queuePage_supplyPrev (p : PageId) (ws : List Waiter) : (queuePage p ws s).supplyPrev = s.supplyPrev := by rw [queuePage_frame]
@[simp] theorem queuePage_supplySeenOk (p : PageId) (ws : List Waiter) : (queuePage p ws s).supplySeenOk = s.supplySeenOk := by rw [queuePage_frame]
@[simp] theorem queuePage_divider (p : PageId) (ws : List Waiter) : (queuePage p ws s).divider = s.divider := by rw [queuePage_frame]
@[simp] theorem queuePage_addrSel (p : PageId) (ws : List Waiter) : (queuePage p ws s).addrSel = s.addrSel := by rw [queuePage_frame]
@[simp] theorem queuePage_entropyFailed (p : PageId) (ws : List Waiter) : (queuePage p ws s).entropyFailed = s.entropyFailed := by rw [queuePage_frame]
@[simp] theorem queuePage_entropyTest (p : PageId) (ws : List Waiter) : (queuePage p ws s).entropyTest = s.entropyTest := by rw [queuePage_frame]
@[simp] theorem queuePage_startup (p : PageId) (ws : List Waiter) : (queuePage p ws s).startup = s.startup := by rw [queuePage_frame]
@[simp] theorem queuePage_held (p : PageId) (ws : List Waiter) : (queuePage p ws s).held = s.held := by rw [queuePage_frame]
@[simp] theorem queuePage_w (p : PageId) (ws : List Waiter) : (queuePage p ws s).w = s.w := by rw [queuePage_frame]
@[simp] theorem queuePage_bands (p : PageId) (ws : List Waiter) : (queuePage p ws s).bands = s.bands := by rw [queuePage_frame]
@[simp] theorem queuePage_coverPermit (p : PageId) (ws : List Waiter) : (queuePage p ws s).coverPermit = s.coverPermit := by rw [queuePage_frame]
@[simp] theorem queuePage_keys (p : PageId) (ws : List Waiter) : (queuePage p ws s).keys = s.keys := by rw [queuePage_frame]
@[simp] theorem queuePage_backoff (p : PageId) (ws : List Waiter) : (queuePage p ws s).backoff = s.backoff := by rw [queuePage_frame]
@[simp] theorem queuePage_twu (p : PageId) (ws : List Waiter) : (queuePage p ws s).twu = s.twu := by rw [queuePage_frame]
@[simp] theorem queuePage_wipe (p : PageId) (ws : List Waiter) : (queuePage p ws s).wipe = s.wipe := by rw [queuePage_frame]
@[simp] theorem queuePage_engine (p : PageId) (ws : List Waiter) : (queuePage p ws s).engine = s.engine := by rw [queuePage_frame]
@[simp] theorem queuePage_linkBox (p : PageId) (ws : List Waiter) : (queuePage p ws s).linkBox = s.linkBox := by rw [queuePage_frame]
@[simp] theorem queuePage_sideBox (p : PageId) (ws : List Waiter) : (queuePage p ws s).sideBox = s.sideBox := by rw [queuePage_frame]
@[simp] theorem queuePage_link (p : PageId) (ws : List Waiter) : (queuePage p ws s).link = s.link := by rw [queuePage_frame]
@[simp] theorem queuePage_dq (p : PageId) (ws : List Waiter) : (queuePage p ws s).dq = s.dq := by rw [queuePage_frame]
@[simp] theorem queuePage_stu (p : PageId) (ws : List Waiter) : (queuePage p ws s).stu = s.stu := by rw [queuePage_frame]
@[simp] theorem queuePage_laneA (p : PageId) (ws : List Waiter) : (queuePage p ws s).laneA = s.laneA := by rw [queuePage_frame]
@[simp] theorem queuePage_laneB (p : PageId) (ws : List Waiter) : (queuePage p ws s).laneB = s.laneB := by rw [queuePage_frame]
@[simp] theorem queuePage_psp (p : PageId) (ws : List Waiter) : (queuePage p ws s).psp = s.psp := by rw [queuePage_frame]
@[simp] theorem queuePage_pending (p : PageId) (ws : List Waiter) : (queuePage p ws s).pending = s.pending := by rw [queuePage_frame]

@[simp] theorem queuePages_mode (ps : List PageId) (ws : List Waiter) : (queuePages ps ws s).mode = s.mode := by rw [queuePages_frame]
@[simp] theorem queuePages_supplyOk (ps : List PageId) (ws : List Waiter) : (queuePages ps ws s).supplyOk = s.supplyOk := by rw [queuePages_frame]
@[simp] theorem queuePages_supplyPrev (ps : List PageId) (ws : List Waiter) : (queuePages ps ws s).supplyPrev = s.supplyPrev := by rw [queuePages_frame]
@[simp] theorem queuePages_supplySeenOk (ps : List PageId) (ws : List Waiter) : (queuePages ps ws s).supplySeenOk = s.supplySeenOk := by rw [queuePages_frame]
@[simp] theorem queuePages_divider (ps : List PageId) (ws : List Waiter) : (queuePages ps ws s).divider = s.divider := by rw [queuePages_frame]
@[simp] theorem queuePages_addrSel (ps : List PageId) (ws : List Waiter) : (queuePages ps ws s).addrSel = s.addrSel := by rw [queuePages_frame]
@[simp] theorem queuePages_entropyFailed (ps : List PageId) (ws : List Waiter) : (queuePages ps ws s).entropyFailed = s.entropyFailed := by rw [queuePages_frame]
@[simp] theorem queuePages_entropyTest (ps : List PageId) (ws : List Waiter) : (queuePages ps ws s).entropyTest = s.entropyTest := by rw [queuePages_frame]
@[simp] theorem queuePages_startup (ps : List PageId) (ws : List Waiter) : (queuePages ps ws s).startup = s.startup := by rw [queuePages_frame]
@[simp] theorem queuePages_held (ps : List PageId) (ws : List Waiter) : (queuePages ps ws s).held = s.held := by rw [queuePages_frame]
@[simp] theorem queuePages_w (ps : List PageId) (ws : List Waiter) : (queuePages ps ws s).w = s.w := by rw [queuePages_frame]
@[simp] theorem queuePages_bands (ps : List PageId) (ws : List Waiter) : (queuePages ps ws s).bands = s.bands := by rw [queuePages_frame]
@[simp] theorem queuePages_coverPermit (ps : List PageId) (ws : List Waiter) : (queuePages ps ws s).coverPermit = s.coverPermit := by rw [queuePages_frame]
@[simp] theorem queuePages_keys (ps : List PageId) (ws : List Waiter) : (queuePages ps ws s).keys = s.keys := by rw [queuePages_frame]
@[simp] theorem queuePages_backoff (ps : List PageId) (ws : List Waiter) : (queuePages ps ws s).backoff = s.backoff := by rw [queuePages_frame]
@[simp] theorem queuePages_twu (ps : List PageId) (ws : List Waiter) : (queuePages ps ws s).twu = s.twu := by rw [queuePages_frame]
@[simp] theorem queuePages_wipe (ps : List PageId) (ws : List Waiter) : (queuePages ps ws s).wipe = s.wipe := by rw [queuePages_frame]
@[simp] theorem queuePages_engine (ps : List PageId) (ws : List Waiter) : (queuePages ps ws s).engine = s.engine := by rw [queuePages_frame]
@[simp] theorem queuePages_linkBox (ps : List PageId) (ws : List Waiter) : (queuePages ps ws s).linkBox = s.linkBox := by rw [queuePages_frame]
@[simp] theorem queuePages_sideBox (ps : List PageId) (ws : List Waiter) : (queuePages ps ws s).sideBox = s.sideBox := by rw [queuePages_frame]
@[simp] theorem queuePages_link (ps : List PageId) (ws : List Waiter) : (queuePages ps ws s).link = s.link := by rw [queuePages_frame]
@[simp] theorem queuePages_dq (ps : List PageId) (ws : List Waiter) : (queuePages ps ws s).dq = s.dq := by rw [queuePages_frame]
@[simp] theorem queuePages_stu (ps : List PageId) (ws : List Waiter) : (queuePages ps ws s).stu = s.stu := by rw [queuePages_frame]
@[simp] theorem queuePages_laneA (ps : List PageId) (ws : List Waiter) : (queuePages ps ws s).laneA = s.laneA := by rw [queuePages_frame]
@[simp] theorem queuePages_laneB (ps : List PageId) (ws : List Waiter) : (queuePages ps ws s).laneB = s.laneB := by rw [queuePages_frame]
@[simp] theorem queuePages_psp (ps : List PageId) (ws : List Waiter) : (queuePages ps ws s).psp = s.psp := by rw [queuePages_frame]
@[simp] theorem queuePages_pending (ps : List PageId) (ws : List Waiter) : (queuePages ps ws s).pending = s.pending := by rw [queuePages_frame]

@[simp] theorem serviceStore_mode : (serviceStore s).mode = s.mode := by rw [serviceStore_frame]
@[simp] theorem serviceStore_supplyOk : (serviceStore s).supplyOk = s.supplyOk := by rw [serviceStore_frame]
@[simp] theorem serviceStore_supplyPrev : (serviceStore s).supplyPrev = s.supplyPrev := by rw [serviceStore_frame]
@[simp] theorem serviceStore_supplySeenOk : (serviceStore s).supplySeenOk = s.supplySeenOk := by rw [serviceStore_frame]
@[simp] theorem serviceStore_divider : (serviceStore s).divider = s.divider := by rw [serviceStore_frame]
@[simp] theorem serviceStore_addrSel : (serviceStore s).addrSel = s.addrSel := by rw [serviceStore_frame]
@[simp] theorem serviceStore_entropyFailed : (serviceStore s).entropyFailed = s.entropyFailed := by rw [serviceStore_frame]
@[simp] theorem serviceStore_entropyTest : (serviceStore s).entropyTest = s.entropyTest := by rw [serviceStore_frame]
@[simp] theorem serviceStore_startup : (serviceStore s).startup = s.startup := by rw [serviceStore_frame]
@[simp] theorem serviceStore_held : (serviceStore s).held = s.held := by rw [serviceStore_frame]
@[simp] theorem serviceStore_w : (serviceStore s).w = s.w := by rw [serviceStore_frame]
@[simp] theorem serviceStore_bands : (serviceStore s).bands = s.bands := by rw [serviceStore_frame]
@[simp] theorem serviceStore_coverPermit : (serviceStore s).coverPermit = s.coverPermit := by rw [serviceStore_frame]
@[simp] theorem serviceStore_keys : (serviceStore s).keys = s.keys := by rw [serviceStore_frame]
@[simp] theorem serviceStore_backoff : (serviceStore s).backoff = s.backoff := by rw [serviceStore_frame]
@[simp] theorem serviceStore_twu : (serviceStore s).twu = s.twu := by rw [serviceStore_frame]
@[simp] theorem serviceStore_wipe : (serviceStore s).wipe = s.wipe := by rw [serviceStore_frame]
@[simp] theorem serviceStore_engine : (serviceStore s).engine = s.engine := by rw [serviceStore_frame]
@[simp] theorem serviceStore_linkBox : (serviceStore s).linkBox = s.linkBox := by rw [serviceStore_frame]
@[simp] theorem serviceStore_sideBox : (serviceStore s).sideBox = s.sideBox := by rw [serviceStore_frame]
@[simp] theorem serviceStore_link : (serviceStore s).link = s.link := by rw [serviceStore_frame]
@[simp] theorem serviceStore_dq : (serviceStore s).dq = s.dq := by rw [serviceStore_frame]
@[simp] theorem serviceStore_stu : (serviceStore s).stu = s.stu := by rw [serviceStore_frame]
@[simp] theorem serviceStore_laneA : (serviceStore s).laneA = s.laneA := by rw [serviceStore_frame]
@[simp] theorem serviceStore_laneB : (serviceStore s).laneB = s.laneB := by rw [serviceStore_frame]
@[simp] theorem serviceStore_psp : (serviceStore s).psp = s.psp := by rw [serviceStore_frame]
@[simp] theorem serviceStore_pending : (serviceStore s).pending = s.pending := by rw [serviceStore_frame]

@[simp] theorem completeWrite_mode : (completeWrite s).mode = s.mode := by rw [completeWrite_frame]
@[simp] theorem completeWrite_supplyOk : (completeWrite s).supplyOk = s.supplyOk := by rw [completeWrite_frame]
@[simp] theorem completeWrite_supplyPrev : (completeWrite s).supplyPrev = s.supplyPrev := by rw [completeWrite_frame]
@[simp] theorem completeWrite_supplySeenOk : (completeWrite s).supplySeenOk = s.supplySeenOk := by rw [completeWrite_frame]
@[simp] theorem completeWrite_divider : (completeWrite s).divider = s.divider := by rw [completeWrite_frame]
@[simp] theorem completeWrite_addrSel : (completeWrite s).addrSel = s.addrSel := by rw [completeWrite_frame]
@[simp] theorem completeWrite_entropyFailed : (completeWrite s).entropyFailed = s.entropyFailed := by rw [completeWrite_frame]
@[simp] theorem completeWrite_entropyTest : (completeWrite s).entropyTest = s.entropyTest := by rw [completeWrite_frame]
@[simp] theorem completeWrite_startup : (completeWrite s).startup = s.startup := by rw [completeWrite_frame]
@[simp] theorem completeWrite_held : (completeWrite s).held = s.held := by rw [completeWrite_frame]
@[simp] theorem completeWrite_w : (completeWrite s).w = s.w := by rw [completeWrite_frame]
@[simp] theorem completeWrite_bands : (completeWrite s).bands = s.bands := by rw [completeWrite_frame]
@[simp] theorem completeWrite_coverPermit : (completeWrite s).coverPermit = s.coverPermit := by rw [completeWrite_frame]
@[simp] theorem completeWrite_keys : (completeWrite s).keys = s.keys := by rw [completeWrite_frame]
@[simp] theorem completeWrite_backoff : (completeWrite s).backoff = s.backoff := by rw [completeWrite_frame]
@[simp] theorem completeWrite_twu : (completeWrite s).twu = s.twu := by rw [completeWrite_frame]
@[simp] theorem completeWrite_wipe : (completeWrite s).wipe = s.wipe := by rw [completeWrite_frame]
@[simp] theorem completeWrite_engine : (completeWrite s).engine = s.engine := by rw [completeWrite_frame]
@[simp] theorem completeWrite_linkBox : (completeWrite s).linkBox = s.linkBox := by rw [completeWrite_frame]
@[simp] theorem completeWrite_sideBox : (completeWrite s).sideBox = s.sideBox := by rw [completeWrite_frame]
@[simp] theorem completeWrite_link : (completeWrite s).link = s.link := by rw [completeWrite_frame]
@[simp] theorem completeWrite_dq : (completeWrite s).dq = s.dq := by rw [completeWrite_frame]
@[simp] theorem completeWrite_stu : (completeWrite s).stu = s.stu := by rw [completeWrite_frame]
@[simp] theorem completeWrite_laneA : (completeWrite s).laneA = s.laneA := by rw [completeWrite_frame]
@[simp] theorem completeWrite_laneB : (completeWrite s).laneB = s.laneB := by rw [completeWrite_frame]
@[simp] theorem completeWrite_psp : (completeWrite s).psp = s.psp := by rw [completeWrite_frame]
@[simp] theorem completeWrite_pending : (completeWrite s).pending = s.pending := by rw [completeWrite_frame]

end Fields

/-! ### What a queued page leaves in the store -/

/-- The pages of a list with a change merged are those of the list. -/
theorem onList_mergeEntry (p q : PageId) (ws : List Waiter) (es : List QEntry) :
    onList (mergeEntry p ws es) q = onList es q := by
  induction es with
  | nil => rfl
  | cons e es ih =>
    unfold mergeEntry
    split
    · simp [onList]
    · simpa [onList] using congrArg (fun x => decide (e.page = q) || x) ih

theorem onList_append (xs ys : List QEntry) (p : PageId) : onList (xs ++ ys) p = (onList xs p || onList ys p) := by
  simp [onList]

@[simp] theorem pageOf_queuePage (p q : PageId) (ws : List Waiter) (s : State) :
    pageOf (queuePage p ws s) q = pageOf s q := by simp [pageOf]

/-- Queueing a page leaves the page and the content that the writer writes. -/
theorem queuePage_writing (p : PageId) (ws : List Waiter) (s : State) :
    (queuePage p ws s).ks.writer.map (fun x => (x.page, x.content)) = s.ks.writer.map (fun x => (x.page, x.content)) := by
  unfold queuePage
  split
  · rfl
  · split
    · rfl
    · split
      · split <;> rfl
      · split
        · rename_i x hx
          split
          · simp [hx]
          · rfl
        · rfl

/-- The reference content depends on the store's pages and on the page and content being written. -/
theorem reference_congr {s t : State} (hp : t.ks.pages = s.ks.pages)
    (hw : t.ks.writer.map (fun x => (x.page, x.content)) = s.ks.writer.map (fun x => (x.page, x.content))) (q : PageId) :
    reference t q = reference s q := by
  unfold reference committed
  rw [hp]
  cases ht : t.ks.writer <;> cases hs : s.ks.writer <;> simp_all

/-- Queueing a page leaves what every page's change is compared with. -/
@[simp] theorem reference_queuePage (p q : PageId) (ws : List Waiter) (s : State) :
    reference (queuePage p ws s) q = reference s q :=
  reference_congr (queuePage_pages p ws s) (queuePage_writing p ws s) q

/-- A page on the queue or the list stays there when another is queued. -/
theorem onList_queuePage (p q : PageId) (ws : List Waiter) (s : State) (h : onList (s.ks.queue ++ s.ks.room) q = true) :
    onList ((queuePage p ws s).ks.queue ++ (queuePage p ws s).ks.room) q = true := by
  rw [onList_append] at h ⊢
  unfold queuePage
  split
  · simpa [onList_mergeEntry] using h
  · split
    · simpa [onList_mergeEntry] using h
    · split
      · split
        · show (onList (s.ks.queue ++ _) q || onList s.ks.room q) = true
          rw [onList_append]; rw [Bool.or_eq_true] at h ⊢; rcases h with h | h <;> simp [h]
        · show (onList s.ks.queue q || onList (s.ks.room ++ _) q) = true
          rw [onList_append]; rw [Bool.or_eq_true] at h ⊢; rcases h with h | h <;> simp [h]
      · split
        · split <;> exact h
        · exact h

/-- A page whose content is carried stays so when another is queued. -/
theorem carried_queuePage {q : PageId} {s : State} (p : PageId) (ws : List Waiter) (h : Carried q s) :
    Carried q (queuePage p ws s) := by
  rcases h with h | h
  · exact .inl (onList_queuePage p q ws s h)
  · exact .inr (by rw [pageOf_queuePage, reference_queuePage]; exact h)

/-- A queued page's content is carried. -/
theorem carried_queuePage_same (p : PageId) (ws : List Waiter) (s : State) : Carried p (queuePage p ws s) := by
  by_cases hc : pageOf s p = reference s p
  · exact .inr (by rw [pageOf_queuePage, reference_queuePage]; exact hc)
  · refine .inl ?_
    rw [onList_append]
    unfold queuePage
    split
    · rename_i h; simp [onList_mergeEntry, h]
    · split
      · rename_i h; simp [onList_mergeEntry, h]
      · split <;> simp [onList]

theorem carried_queuePages {q : PageId} {s : State} (ps : List PageId) (ws : List Waiter) (h : Carried q s) :
    Carried q (queuePages ps ws s) := by
  induction ps generalizing s with
  | nil => exact h
  | cons p ps ih => exact ih (carried_queuePage p ws h)

/-- Every page of a list that is queued is carried. -/
theorem carried_queuePages_mem {q : PageId} {ps : List PageId} (ws : List Waiter) (s : State) (h : q ∈ ps) :
    Carried q (queuePages ps ws s) := by
  induction ps generalizing s with
  | nil => simp at h
  | cons p ps ih =>
    rcases List.mem_cons.mp h with rfl | h
    · exact carried_queuePages ps ws (carried_queuePage_same q ws s)
    · exact ih _ h

/-- A list with a change merged keeps every waiter, and has the new ones where it names the page. -/
theorem listsWaiter_mergeEntry (p : PageId) (ws : List Waiter) (k : Waiter) (es : List QEntry)
    (h : listsWaiter es k = true ∨ (onList es p = true ∧ k ∈ ws)) : listsWaiter (mergeEntry p ws es) k = true := by
  induction es with
  | nil => simp [listsWaiter, onList] at h
  | cons e es ih =>
    unfold mergeEntry
    split
    · rename_i he
      simp only [listsWaiter, List.any_cons, onList, Bool.or_eq_true, decide_eq_true_eq, he, true_or, true_and,
        joinWaiters, List.contains_eq_mem, List.mem_append, List.mem_filter, Bool.not_eq_true', decide_eq_false_iff_not] at h ⊢
      rcases h with (h | h) | h
      · exact .inl (.inl h)
      · exact .inr h
      · by_cases hk : k ∈ e.waiters
        · exact .inl (.inl hk)
        · exact .inl (.inr ⟨h, hk⟩)
    · rename_i he
      simp only [listsWaiter, List.any_cons, onList, Bool.or_eq_true, decide_eq_true_eq, he, false_or] at h ih ⊢
      rcases h with (h | h) | h
      · exact .inl h
      · exact .inr (ih (.inl h))
      · exact .inr (ih (.inr h))

/-- A block that waits goes on waiting when a page is queued. -/
theorem waits_queuePage {k : Waiter} {s : State} (p : PageId) (ws : List Waiter) (h : waits k s = true) :
    waits k (queuePage p ws s) = true := by
  simp only [waits, Bool.or_eq_true] at h ⊢
  unfold queuePage
  split
  · rcases h with (h | h) | h
    · exact .inl (.inl (listsWaiter_mergeEntry p ws k _ (.inl h)))
    · exact .inl (.inr h)
    · exact .inr h
  · split
    · rcases h with (h | h) | h
      · exact .inl (.inl h)
      · exact .inl (.inr (listsWaiter_mergeEntry p ws k _ (.inl h)))
      · exact .inr h
    · split
      · split
        · rcases h with (h | h) | h
          · exact .inl (.inl (by simp only [listsWaiter, List.any_append, Bool.or_eq_true] at h ⊢; exact .inl h))
          · exact .inl (.inr h)
          · exact .inr h
        · rcases h with (h | h) | h
          · exact .inl (.inl h)
          · exact .inl (.inr (by simp only [listsWaiter, List.any_append, Bool.or_eq_true] at h ⊢; exact .inl h))
          · exact .inr h
      · split
        · rename_i x hx
          split
          · rcases h with (h | h) | h
            · exact .inl (.inl h)
            · exact .inl (.inr h)
            · rw [hx] at h
              refine .inr ?_
              simp only [joinWaiters, List.contains_eq_mem, decide_eq_true_eq, List.mem_append] at h ⊢
              exact .inl h
          · exact h
        · exact h

/-- A block that queues a page whose content differs from its reference waits for its write. -/
theorem waits_queuePage_same {k : Waiter} {s : State} (p : PageId) (ws : List Waiter) (hk : k ∈ ws)
    (h : reference s p ≠ pageOf s p) : waits k (queuePage p ws s) = true := by
  simp only [waits, Bool.or_eq_true]
  unfold queuePage
  split
  · rename_i hl; exact .inl (.inl (listsWaiter_mergeEntry p ws k _ (.inr ⟨hl, hk⟩)))
  · split
    · rename_i hl; exact .inl (.inr (listsWaiter_mergeEntry p ws k _ (.inr ⟨hl, hk⟩)))
    · rw [if_pos (Ne.symm h)]
      split
      · refine .inl (.inl ?_); simp [listsWaiter, hk]
      · refine .inl (.inr ?_); simp [listsWaiter, hk]

/-- A block that waits for a page waits. -/
theorem waits_of_waitsFor (k : Waiter) (p : PageId) (s : State) (h : waitsFor k p s = true) : waits k s = true := by
  have sub (es : List QEntry) (h : listsWaiter (es.filter fun e => e.page = p) k = true) : listsWaiter es k = true := by
    simp only [listsWaiter, List.any_filter, List.any_eq_true, Bool.and_eq_true] at h ⊢
    obtain ⟨e, he, -, hk⟩ := h
    exact ⟨e, he, hk⟩
  unfold waitsFor at h
  unfold waits
  simp only [Bool.or_eq_true] at h ⊢
  obtain (h | h) | h := h
  · exact .inl (.inl (sub _ h))
  · exact .inl (.inr (sub _ h))
  · refine .inr ?_
    split at h <;> simp_all

end Sys2Proof.Machine
end

