-- ==== Sys2Proof/Laws/Lanes.lean ====
section
/-! SUPPORT. What the lanes' reaction to a change of live keys can do while no scrub order is open: it touches the lanes, the
transfer records and the outbound queue alone. -/

namespace Sys2Proof.Machine

/-- Two states differ at most in the lanes, the Descriptor Queue and the outbound queue. -/
def TrafficOnly (s t : State) : Prop :=
  t = { s with dq := t.dq, laneA := t.laneA, laneB := t.laneB, link := { s.link with outbound := t.link.outbound } }

theorem TrafficOnly.refl (s : State) : TrafficOnly s s := rfl

theorem TrafficOnly.trans {s t u : State} (h : TrafficOnly s t) (k : TrafficOnly t u) : TrafficOnly s u := by
  unfold TrafficOnly at *
  rw [k, h]

theorem noOrders_get {s : State} (h : noOrders s = true) (i : OrderSlot) : s.wipe.orders.get i = none := by
  simp only [noOrders, Bool.and_eq_true, Option.isNone_iff_eq_none] at h
  obtain ⟨⟨⟨h0, h1⟩, h2⟩, h3⟩ := h
  fin_cases i
  · exact h0
  · exact h1
  · exact h2
  · exact h3

/-- An order slot that holds nothing closes to no effect. -/
theorem orderClose_none {s : State} (i : OrderSlot) (m n : Nat) (h : s.wipe.orders.get i = none) : orderClose i m n s = s := by
  unfold orderClose; rw [h]

section

variable {s : State} (l : LaneId)

theorem account_traffic (tag : Byte) (h : noOrders s = true) : TrafficOnly s (account tag s) := by
  unfold account
  split
  · exact .refl s
  · rename_i t _
    split
    · dsimp only
      split
      · rw [orderClose_none _ _ _ (by exact noOrders_get h _)]; rfl
      · rfl
    · exact .refl s

theorem TrafficOnly.noOrders {s t : State} (k : TrafficOnly s t) : noOrders t = noOrders s := by
  unfold TrafficOnly at k; rw [k]; rfl

theorem report_traffic (tag : Byte) (n a : Nat) (x : Option TStatus) (h : Machine.noOrders s = true) :
    TrafficOnly s (report tag n a x s) := by
  have h1 : TrafficOnly s (editTransfer tag (counted n a x) s) := rfl
  exact h1.trans (account_traffic tag (h1.noOrders.trans h))

theorem setLane_traffic (x : Lane) : TrafficOnly s (setLane l x s) := by cases l <;> rfl

theorem startSegment_traffic (g : Segment) (q : List Segment) : TrafficOnly s (startSegment l g q s) := by
  unfold startSegment
  cases l <;> cases g.direction <;> rfl

theorem takeFrom_traffic (q : List Segment) (h : Machine.noOrders s = true) : TrafficOnly s (takeFrom l q s) := by
  induction q generalizing s with
  | nil => exact setLane_traffic l _
  | cons g q ih =>
    unfold takeFrom
    split
    · have h1 := report_traffic (s := s) g.tag g.count g.drive (some ‹_›) h
      exact h1.trans (ih (h1.noOrders.trans h))
    · exact startSegment_traffic l g q

theorem endRefused_traffic (g : Segment) (x : TStatus) (h : Machine.noOrders s = true) :
    TrafficOnly s (endRefused l g x s) := by
  have h1 : TrafficOnly s (dropSegment l s) := setLane_traffic l _
  have h2 := h1.trans (report_traffic g.tag (g.count - g.done) (sectorAddress g g.done) (some x) (h1.noOrders.trans h))
  exact h2.trans (takeFrom_traffic l _ (h2.noOrders.trans h))

theorem laneReact_traffic (h : Machine.noOrders s = true) : TrafficOnly s (laneReact l s) := by
  unfold laneReact
  split
  · split
    · exact endRefused_traffic l _ _ h
    · exact .refl s
  · split
    · exact .refl s
    · exact takeFrom_traffic l _ h

end

/-- With no scrub order open, the lanes' reaction touches the lanes, the records and the outbound queue alone. -/
theorem lanesReact_traffic {s : State} (h : noOrders s = true) : TrafficOnly s (lanesReact s) := by
  have h1 := laneReact_traffic .a h
  exact h1.trans (laneReact_traffic .b (h1.noOrders.trans h))

section

variable {s : State} (h : noOrders s = true)
include h

theorem lanesReact_mode : (lanesReact s).mode = s.mode := by rw [lanesReact_traffic h]
theorem lanesReact_supplyOk : (lanesReact s).supplyOk = s.supplyOk := by rw [lanesReact_traffic h]
theorem lanesReact_supplyPrev : (lanesReact s).supplyPrev = s.supplyPrev := by rw [lanesReact_traffic h]
theorem lanesReact_supplySeenOk : (lanesReact s).supplySeenOk = s.supplySeenOk := by rw [lanesReact_traffic h]
theorem lanesReact_divider : (lanesReact s).divider = s.divider := by rw [lanesReact_traffic h]
theorem lanesReact_addrSel : (lanesReact s).addrSel = s.addrSel := by rw [lanesReact_traffic h]
theorem lanesReact_entropyFailed : (lanesReact s).entropyFailed = s.entropyFailed := by rw [lanesReact_traffic h]
theorem lanesReact_entropyTest : (lanesReact s).entropyTest = s.entropyTest := by rw [lanesReact_traffic h]
theorem lanesReact_startup : (lanesReact s).startup = s.startup := by rw [lanesReact_traffic h]
theorem lanesReact_held : (lanesReact s).held = s.held := by rw [lanesReact_traffic h]
theorem lanesReact_ks : (lanesReact s).ks = s.ks := by rw [lanesReact_traffic h]
theorem lanesReact_w : (lanesReact s).w = s.w := by rw [lanesReact_traffic h]
theorem lanesReact_bands : (lanesReact s).bands = s.bands := by rw [lanesReact_traffic h]
theorem lanesReact_coverPermit : (lanesReact s).coverPermit = s.coverPermit := by rw [lanesReact_traffic h]
theorem lanesReact_keys : (lanesReact s).keys = s.keys := by rw [lanesReact_traffic h]
theorem lanesReact_backoff : (lanesReact s).backoff = s.backoff := by rw [lanesReact_traffic h]
theorem lanesReact_twu : (lanesReact s).twu = s.twu := by rw [lanesReact_traffic h]
theorem lanesReact_wipe : (lanesReact s).wipe = s.wipe := by rw [lanesReact_traffic h]
theorem lanesReact_engine : (lanesReact s).engine = s.engine := by rw [lanesReact_traffic h]
theorem lanesReact_linkBox : (lanesReact s).linkBox = s.linkBox := by rw [lanesReact_traffic h]
theorem lanesReact_sideBox : (lanesReact s).sideBox = s.sideBox := by rw [lanesReact_traffic h]
theorem lanesReact_stu : (lanesReact s).stu = s.stu := by rw [lanesReact_traffic h]
theorem lanesReact_psp : (lanesReact s).psp = s.psp := by rw [lanesReact_traffic h]
theorem lanesReact_pending : (lanesReact s).pending = s.pending := by rw [lanesReact_traffic h]

end

section

variable {s t : State} (h : TrafficOnly s t)
include h

theorem TrafficOnly.mode : t.mode = s.mode := by rw [h]
theorem TrafficOnly.supplyOk : t.supplyOk = s.supplyOk := by rw [h]
theorem TrafficOnly.supplyPrev : t.supplyPrev = s.supplyPrev := by rw [h]
theorem TrafficOnly.supplySeenOk : t.supplySeenOk = s.supplySeenOk := by rw [h]
theorem TrafficOnly.divider : t.divider = s.divider := by rw [h]
theorem TrafficOnly.addrSel : t.addrSel = s.addrSel := by rw [h]
theorem TrafficOnly.entropyFailed : t.entropyFailed = s.entropyFailed := by rw [h]
theorem TrafficOnly.entropyTest : t.entropyTest = s.entropyTest := by rw [h]
theorem TrafficOnly.startup : t.startup = s.startup := by rw [h]
theorem TrafficOnly.held : t.held = s.held := by rw [h]
theorem TrafficOnly.ks : t.ks = s.ks := by rw [h]
theorem TrafficOnly.w : t.w = s.w := by rw [h]
theorem TrafficOnly.bands : t.bands = s.bands := by rw [h]
theorem TrafficOnly.coverPermit : t.coverPermit = s.coverPermit := by rw [h]
theorem TrafficOnly.keys : t.keys = s.keys := by rw [h]
theorem TrafficOnly.backoff : t.backoff = s.backoff := by rw [h]
theorem TrafficOnly.twu : t.twu = s.twu := by rw [h]
theorem TrafficOnly.wipe : t.wipe = s.wipe := by rw [h]
theorem TrafficOnly.engine : t.engine = s.engine := by rw [h]
theorem TrafficOnly.linkBox : t.linkBox = s.linkBox := by rw [h]
theorem TrafficOnly.sideBox : t.sideBox = s.sideBox := by rw [h]
theorem TrafficOnly.stu : t.stu = s.stu := by rw [h]
theorem TrafficOnly.psp : t.psp = s.psp := by rw [h]
theorem TrafficOnly.pending : t.pending = s.pending := by rw [h]

end

end Sys2Proof.Machine
end

