-- ==== Sys2Proof/Laws/Theft.lean ====
section
/-! SUPPORT. What a change of the theft state, an indicator and the BUDGET re-evaluation can do, while no scrub order is open:
they touch the watch, the plan, the bands' flags and live keys, the traffic, the store queue and the notice byte alone. -/

namespace Sys2Proof.Machine

/-- Two states differ at most as a change of the theft state makes them. -/
structure WatchOnly (s t : State) : Prop where
  frame : t = { s with
    w := { s.w with watch := t.w.watch, plan := t.w.plan }, twu := { s.twu with grace := t.twu.grace, counter := t.twu.counter },
    bands := t.bands, keys := { s.keys with bands := t.keys.bands }, ks := t.ks, wipe := t.wipe,
    psp := { s.psp with notice := t.psp.notice }, dq := t.dq, laneA := t.laneA, laneB := t.laneB,
    link := { s.link with outbound := t.link.outbound } }
  orders : t.wipe.orders = s.wipe.orders
  policy : t.w.watch.policy = s.w.watch.policy
  latch : t.w.watch.latch = s.w.watch.latch
  pages : t.ks.pages = s.ks.pages
  writing : t.ks.writer.map (fun x => (x.page, x.content)) = s.ks.writer.map (fun x => (x.page, x.content))
  listed : ∀ p, onList (s.ks.queue ++ s.ks.room) p = true → onList (t.ks.queue ++ t.ks.room) p = true
  waiting : ∀ k, waits k s = true → waits k t = true

theorem WatchOnly.refl (s : State) : WatchOnly s s :=
  ⟨rfl, rfl, rfl, rfl, rfl, rfl, fun _ h => h, fun _ h => h⟩

theorem WatchOnly.trans {s t u : State} (h : WatchOnly s t) (k : WatchOnly t u) : WatchOnly s u where
  frame := by rw [k.frame, h.frame]
  orders := k.orders.trans h.orders
  policy := k.policy.trans h.policy
  latch := k.latch.trans h.latch
  pages := k.pages.trans h.pages
  writing := k.writing.trans h.writing
  listed := fun p hp => k.listed p (h.listed p hp)
  waiting := fun w hw => k.waiting w (h.waiting w hw)

theorem WatchOnly.noOrders {s t : State} (h : WatchOnly s t) : noOrders t = noOrders s := by
  unfold Machine.noOrders; rw [h.orders]

theorem WatchOnly.ofTraffic {s t : State} (h : TrafficOnly s t) : WatchOnly s t where
  frame := by rw [h]
  orders := by rw [h]
  policy := by rw [h]
  latch := by rw [h]
  pages := by rw [h]
  writing := by rw [h]
  listed := fun p hp => by rw [h]; exact hp
  waiting := fun k hk => by rw [h]; exact hk

theorem WatchOnly.queue (p : PageId) (ws : List Waiter) (s : State) : WatchOnly s (queuePage p ws s) where
  frame := by rw [queuePage_frame]
  orders := by simp
  policy := by simp
  latch := by simp
  pages := queuePage_pages p ws s
  writing := queuePage_writing p ws s
  listed := fun q hq => onList_queuePage p q ws s hq
  waiting := fun _ hk => waits_queuePage p ws hk

/-- The content of a page that no change of the theft state writes. -/
theorem WatchOnly.pageOf {s t : State} (h : WatchOnly s t) {p : PageId} (hw : p ≠ watchPage) (hj : p ≠ journalPage) :
    pageOf t p = Machine.pageOf s p := by
  have hw' : p.val ≠ 3 := fun e => hw (Fin.ext e)
  have hj' : p.val ≠ 4 := fun e => hj (Fin.ext e)
  rw [h.frame]
  simp only [Machine.pageOf, content, hw', hj', if_false]

theorem WatchOnly.reference {s t : State} (h : WatchOnly s t) (p : PageId) : reference t p = Machine.reference s p :=
  reference_congr h.pages h.writing p

/-- A page other than the watch page and the journal stays carried. -/
theorem WatchOnly.carried {s t : State} (h : WatchOnly s t) {p : PageId} (hw : p ≠ watchPage) (hj : p ≠ journalPage)
    (hc : Carried p s) : Carried p t := by
  rcases hc with hc | hc
  · exact .inl (h.listed p hc)
  · exact .inr (by rw [h.pageOf hw hj, h.reference p]; exact hc)

/-! ### Changes -/

section

variable {s : State}

theorem bandsAs_watch (old new : Theft) : WatchOnly s (bandsAs old new s) := by
  unfold bandsAs
  split
  · exact ⟨rfl, rfl, rfl, rfl, rfl, rfl, fun _ h => h, fun _ h => h⟩
  · exact ⟨rfl, rfl, rfl, rfl, rfl, rfl, fun _ h => h, fun _ h => h⟩
  · exact ⟨rfl, rfl, rfl, rfl, rfl, rfl, fun _ h => h, fun _ h => h⟩
  · split
    · exact ⟨rfl, rfl, rfl, rfl, rfl, rfl, fun _ h => h, fun _ h => h⟩
    · exact .refl s

theorem theftCore_watch (t : Theft) : WatchOnly s (theftCore t s) := by
  have h1 : WatchOnly s { s with w := { s.w with watch := watchAs t s.w.watch }, twu := countersAs t s.twu } := by
    cases t <;> exact ⟨rfl, rfl, rfl, rfl, rfl, rfl, fun _ h => h, fun _ h => h⟩
  exact (h1.trans (bandsAs_watch (theft s) t)).trans (.queue watchPage _ _)

theorem announce_watch : WatchOnly s (announce s) := by
  unfold announce
  split
  · exact ⟨rfl, rfl, rfl, rfl, rfl, rfl, fun _ h => h, fun _ h => h⟩
  · exact .refl s

theorem changeTheft_watch (t : Theft) (h : noOrders s = true) : WatchOnly s (changeTheft t s) := by
  have h1 := theftCore_watch (s := s) t
  have h2 := h1.trans (.ofTraffic (lanesReact_traffic (h1.noOrders.trans h)))
  exact h2.trans announce_watch

theorem wipeBegin_watch (c : Cause) (p : Passes) : WatchOnly s (wipeBegin c p s) := by
  unfold wipeBegin journalWait
  refine WatchOnly.trans ?_ (.queue journalPage _ _)
  exact ⟨rfl, rfl, rfl, rfl, rfl, rfl, fun _ h => h, fun _ h => h⟩

theorem enterWiping_watch (c : Cause) (p : Passes) (h : noOrders s = true) : WatchOnly s (enterWiping c p s) := by
  have h1 := (theftCore_watch (s := s) .wiping).trans (wipeBegin_watch c p)
  have h2 := h1.trans (.ofTraffic (lanesReact_traffic (h1.noOrders.trans h)))
  exact h2.trans announce_watch

theorem enterAlarm_watch (h : noOrders s = true) : WatchOnly s (enterAlarm s) := by
  unfold enterAlarm
  split
  · split
    · exact enterWiping_watch _ _ h
    · exact changeTheft_watch _ h
  · exact changeTheft_watch _ h

theorem suspectCore_watch (i : Indicator) (n : Nat) : WatchOnly s (suspectCore i n s) := by
  unfold suspectCore
  refine WatchOnly.trans ?_ (.queue watchPage _ _)
  exact ⟨rfl, rfl, rfl, rfl, rfl, rfl, fun _ h => h, fun _ h => h⟩

theorem enterSuspect_watch (i : Indicator) (h : noOrders s = true) : WatchOnly s (enterSuspect i s) := by
  unfold enterSuspect
  split
  · split
    · exact enterAlarm_watch h
    · exact (suspectCore_watch i _).trans announce_watch
  · exact .refl s

theorem assertIndicator_watch (i : Indicator) (h : noOrders s = true) : WatchOnly s (assertIndicator i s) := by
  unfold assertIndicator
  split
  · split
    · exact enterSuspect_watch i h
    · split
      · exact .refl s
      · exact enterAlarm_watch h
    · exact .refl s
  · exact .refl s

theorem suspectCheck_watch (h : noOrders s = true) : WatchOnly s (suspectCheck s) := by
  unfold suspectCheck
  split
  · exact changeTheft_watch _ h
  · exact .refl s

theorem deassertIndicator_watch (i : Indicator) (h : noOrders s = true) : WatchOnly s (deassertIndicator i s) := by
  unfold deassertIndicator
  split
  · exact suspectCheck_watch h
  · exact .refl s

theorem budgetAfter_watch (b : Bool) (h : noOrders s = true) : WatchOnly s (budgetAfter b s) := by
  unfold budgetAfter
  split
  · split
    · exact .refl s
    · exact deassertIndicator_watch _ h
  · split
    · exact assertIndicator_watch _ h
    · exact .refl s

/-- An act on the counts is the act, and then at most a change of the theft state. -/
theorem withBudget_watch (f : State → State) (h : noOrders (f s) = true) : WatchOnly (f s) (withBudget f s) :=
  budgetAfter_watch _ h

/-! ### Outside ARMED and SUSPECT an indicator changes nothing -/

theorem assertIndicator_still (i : Indicator) (ha : theft s ≠ .armed) (hs : theft s ≠ .suspect) : assertIndicator i s = s := by
  unfold assertIndicator
  split
  · split <;> first | contradiction | rfl
  · rfl

theorem suspectCheck_still (hs : theft s ≠ .suspect) : suspectCheck s = s := by
  unfold suspectCheck; simp [hs]

theorem deassertIndicator_still (i : Indicator) (hs : theft s ≠ .suspect) : deassertIndicator i s = s := by
  unfold deassertIndicator; rw [suspectCheck_still hs]; simp

theorem budgetAfter_still (b : Bool) (ha : theft s ≠ .armed) (hs : theft s ≠ .suspect) : budgetAfter b s = s := by
  unfold budgetAfter
  rw [assertIndicator_still _ ha hs, deassertIndicator_still _ hs]
  simp

/-- Outside ARMED and SUSPECT an act on the counts is the act alone. -/
theorem withBudget_still (f : State → State) (ha : theft (f s) ≠ .armed) (hs : theft (f s) ≠ .suspect) :
    withBudget f s = f s := budgetAfter_still _ ha hs

/-- In ARMED an act that leaves BUDGET deasserted where it was is the act alone. -/
theorem withBudget_armed (f : State → State) (hs : theft (f s) ≠ .suspect)
    (hb : budgetAsserted s = false → budgetAsserted (f s) = false) : withBudget f s = f s := by
  unfold withBudget budgetAfter
  rw [deassertIndicator_still _ hs]
  cases h : budgetAsserted s <;> simp_all

end

end Sys2Proof.Machine
end

