-- ==== Sys2Proof/Laws/Settle.lean ====
section
/-! SUPPORT. What nothing that follows from an act touches: the mode, the supply, the time base, the messages that wait on the
link, the commands that wait. -/

namespace Sys2Proof.Machine

/-- Two states agree on what only power, time, the lines and the link's own commands change. -/
structure Keeps (s t : State) : Prop where
  mode : t.mode = s.mode
  supplyOk : t.supplyOk = s.supplyOk
  supplyPrev : t.supplyPrev = s.supplyPrev
  supplySeenOk : t.supplySeenOk = s.supplySeenOk
  divider : t.divider = s.divider
  addrSel : t.addrSel = s.addrSel
  entropyTest : t.entropyTest = s.entropyTest
  startup : t.startup = s.startup
  held : t.held = s.held
  identity : t.w.identity = s.w.identity
  inbound : t.link.inbound = s.link.inbound
  token : t.psp.token = s.psp.token
  buffer : t.psp.buffer = s.psp.buffer
  pointer : t.psp.pointer = s.psp.pointer
  page : t.psp.page = s.psp.page
  latch : t.psp.latch = s.psp.latch
  pending : t.pending = s.pending

theorem Keeps.refl (s : State) : Keeps s s :=
  ⟨rfl, rfl, rfl, rfl, rfl, rfl, rfl, rfl, rfl, rfl, rfl, rfl, rfl, rfl, rfl, rfl, rfl⟩

theorem Keeps.trans {s t u : State} (h : Keeps s t) (k : Keeps t u) : Keeps s u where
  mode := k.mode.trans h.mode
  supplyOk := k.supplyOk.trans h.supplyOk
  supplyPrev := k.supplyPrev.trans h.supplyPrev
  supplySeenOk := k.supplySeenOk.trans h.supplySeenOk
  divider := k.divider.trans h.divider
  addrSel := k.addrSel.trans h.addrSel
  entropyTest := k.entropyTest.trans h.entropyTest
  startup := k.startup.trans h.startup
  held := k.held.trans h.held
  identity := k.identity.trans h.identity
  inbound := k.inbound.trans h.inbound
  token := k.token.trans h.token
  buffer := k.buffer.trans h.buffer
  pointer := k.pointer.trans h.pointer
  page := k.page.trans h.page
  latch := k.latch.trans h.latch
  pending := k.pending.trans h.pending

/-- Every field that `Keeps` names, by computation. -/
theorem Keeps.ofPending {s t : State} (h : t.mode = s.mode ∧ t.supplyOk = s.supplyOk ∧ t.supplyPrev = s.supplyPrev ∧
    t.supplySeenOk = s.supplySeenOk ∧ t.divider = s.divider ∧ t.addrSel = s.addrSel ∧ t.entropyTest = s.entropyTest ∧
    t.startup = s.startup ∧ t.held = s.held ∧ t.w.identity = s.w.identity ∧ t.link.inbound = s.link.inbound ∧
    t.psp.token = s.psp.token ∧ t.psp.buffer = s.psp.buffer ∧ t.psp.pointer = s.psp.pointer ∧ t.psp.page = s.psp.page ∧
    t.psp.latch = s.psp.latch ∧ t.pending = s.pending) : Keeps s t := by
  obtain ⟨a, b, c, d, e, f, g, i, j, k, l, m, n, o, p, q, r⟩ := h
  exact ⟨a, b, c, d, e, f, g, i, j, k, l, m, n, o, p, q, r⟩

theorem Keeps.ite {s t u : State} {c : Prop} [Decidable c] (h : Keeps s t) (k : Keeps s u) :
    Keeps s (if c then t else u) := by split <;> assumption

theorem Keeps.ofTraffic {s t : State} (h : TrafficOnly s t) : Keeps s t := by
  rw [h]; exact ⟨rfl, rfl, rfl, rfl, rfl, rfl, rfl, rfl, rfl, rfl, rfl, rfl, rfl, rfl, rfl, rfl, rfl⟩

theorem Keeps.ofWatch {s t : State} (h : WatchOnly s t) : Keeps s t := by
  rw [h.frame]; exact ⟨rfl, rfl, rfl, rfl, rfl, rfl, rfl, rfl, rfl, rfl, rfl, rfl, rfl, rfl, rfl, rfl, rfl⟩

section

variable {s : State}

theorem queuePage_keeps (p : PageId) (ws : List Waiter) : Keeps s (queuePage p ws s) := .ofWatch (.queue p ws s)

theorem queuePages_keeps (ps : List PageId) (ws : List Waiter) : Keeps s (queuePages ps ws s) := by
  rw [queuePages_frame]; exact .ofPending ⟨rfl, rfl, rfl, rfl, rfl, rfl, rfl, rfl, rfl, rfl, rfl, rfl, rfl, rfl, rfl, rfl, rfl⟩

theorem serviceStore_keeps : Keeps s (serviceStore s) := by
  rw [serviceStore_frame]; exact .ofPending ⟨rfl, rfl, rfl, rfl, rfl, rfl, rfl, rfl, rfl, rfl, rfl, rfl, rfl, rfl, rfl, rfl, rfl⟩

theorem announce_keeps : Keeps s (announce s) := .ofWatch announce_watch

theorem theftCore_keeps (t : Theft) : Keeps s (theftCore t s) := .ofWatch (theftCore_watch t)

theorem keepBack_keeps (j : Job) : Keeps s (keepBack j s) := .ofPending (by simp [keepBack])

theorem handWipe_keeps (j : Job) : Keeps s (handWipe j s) := by
  unfold handWipe
  exact Keeps.ite (keepBack_keeps j) (.ofPending (by simp))

theorem journalWait_keeps : Keeps s (journalWait s) := queuePage_keeps _ _

theorem journalQueue_keeps : Keeps s (journalQueue s) := queuePage_keeps _ _

theorem storeResult_keeps (e : Ended) (a b c : Nat) : Keeps s (storeResult e a b c s) :=
  .ofPending (by simp [storeResult, raise, ringResult])

theorem goDone_keeps : Keeps s (goDone s) := by
  have h1 : Keeps s (announce (theftCore .wiped s)) := (theftCore_keeps .wiped).trans announce_keeps
  have h2 : Keeps s (handOpenLoad (announce (theftCore .wiped s))) := by
    unfold handOpenLoad
    split
    · exact Keeps.ite (h1.trans (keepBack_keeps _)) (h1.trans (handWipe_keeps _))
    · exact h1
  exact h2.trans (t := handOpenLoad (announce (theftCore .wiped s)))
    (.ofPending ⟨rfl, rfl, rfl, rfl, rfl, rfl, rfl, rfl, rfl, rfl, rfl, rfl, rfl, rfl, rfl, rfl, rfl⟩)

theorem issueOne_keeps (i : OrderSlot) : Keeps s (issueOne i s) := by
  unfold issueOne
  split
  · exact .refl s
  · split
    · exact .ofPending (by simp [hand])
    · exact .refl s

theorem issueOrders_keeps : Keeps s (issueOrders s) := by
  unfold issueOrders
  split
  · exact (((issueOne_keeps 0).trans (issueOne_keeps 1)).trans (issueOne_keeps 2)).trans (issueOne_keeps 3)
  · exact .refl s

theorem planTakes_keeps : Keeps s (planTakes s) := .ofPending (by simp [planTakes, setPlan])

theorem namePass_keeps (n : Nat) : Keeps s (namePass n s) := by
  unfold namePass
  refine Keeps.trans ?_ journalWait_keeps
  exact .ofPending (by simp [setPlan])

theorem passEnd_keeps : Keeps s (passEnd s) := by
  have h1 : Keeps s (removeFill (planTakes s)) := planTakes_keeps.trans (.ofPending (by simp [removeFill]))
  have h2 := h1.trans (storeResult_keeps (if s.w.plan.stop then Ended.stopped else .complete) s.w.plan.pass s.wipe.written
    s.wipe.refused)
  unfold passEnd
  refine Keeps.ite ?_ ?_
  · exact (h2.trans (.ofPending (by simp))).trans goDone_keeps
  · exact (h2.trans (.ofPending (by simp))).trans (namePass_keeps _)

theorem checkpoint_keeps (n : Nat) : Keeps s (checkpoint n s) := by
  unfold checkpoint
  split
  · exact planTakes_keeps.trans journalQueue_keeps
  · exact .refl s

theorem endOrIssue_keeps : Keeps s (endOrIssue s) := Keeps.ite passEnd_keeps issueOrders_keeps

theorem afterClosing_keeps (n : Nat) : Keeps s (afterClosing n s) := (checkpoint_keeps n).trans endOrIssue_keeps

theorem orderClose_keeps (i : OrderSlot) (m n : Nat) : Keeps s (orderClose i m n s) := by
  unfold orderClose
  split
  · exact .refl s
  · refine Keeps.trans ?_ (afterClosing_keeps _)
    exact .ofPending (by simp)

theorem account_keeps (tag : Byte) : Keeps s (account tag s) := by
  unfold account
  split
  · exact .refl s
  · split
    · dsimp only
      split
      · refine Keeps.trans ?_ (orderClose_keeps _ _ _)
        exact .ofPending (by simp [hand, editTransfer])
      · exact .ofPending (by simp [hand, editTransfer])
    · exact .refl s

theorem report_keeps (tag : Byte) (n a : Nat) (x : Option TStatus) : Keeps s (report tag n a x s) := by
  refine Keeps.trans ?_ (account_keeps tag)
  exact .ofPending (by simp [editTransfer])

theorem setLane_keeps (l : LaneId) (x : Lane) : Keeps s (setLane l x s) := .ofTraffic (setLane_traffic l x)

theorem takeFrom_keeps (l : LaneId) (q : List Segment) : Keeps s (takeFrom l q s) := by
  induction q generalizing s with
  | nil => exact setLane_keeps l _
  | cons g q ih =>
    unfold takeFrom
    split
    · exact (report_keeps _ _ _ _).trans ih
    · exact .ofTraffic (startSegment_traffic l g q)

theorem endRefused_keeps (l : LaneId) (g : Segment) (x : TStatus) : Keeps s (endRefused l g x s) :=
  ((setLane_keeps l _).trans (report_keeps _ _ _ _)).trans (takeFrom_keeps l _)

theorem laneReact_keeps (l : LaneId) : Keeps s (laneReact l s) := by
  unfold laneReact
  split
  · split
    · exact endRefused_keeps l _ _
    · exact .refl s
  · split
    · exact .refl s
    · exact takeFrom_keeps l _

theorem lanesReact_keeps : Keeps s (lanesReact s) := (laneReact_keeps .a).trans (laneReact_keeps .b)

theorem setPair_keeps (b : BandId) (x : BandFlags × LiveKey) : Keeps s (setPair b x s) :=
  .ofPending (by simp)

theorem setBox_keeps (p : Port) (h : Option Held) : Keeps s (setBox p h s) := by cases p <;> exact .ofPending (by simp)

theorem setNext_keeps (p : Port) (x : ReqStage) (room : List PageId) : Keeps s (setNext p x room s) := by
  unfold setNext
  split
  · exact setBox_keeps p _
  · exact .refl s

theorem nextAct_keeps (p : Port) (b : State) (x : ReqStage) : Keeps s (nextAct p b x s) := setNext_keeps p x _

theorem bumpRange_keeps (b : BandId) : Keeps s (bumpRange b s) := by
  unfold bumpRange
  dsimp only
  split <;> exact .ofPending (by simp)

theorem unhold_keeps (b : BandId) : Keeps s (unhold b s) := .ofPending (by simp [unhold])

theorem setRecord_keeps (b : BandId) (r : BandRecord) : Keeps s (setRecord b r s) := .ofPending (by simp [setRecord])

theorem secretWritten_keeps (body : Body) (key : MediaKey) (wrap : Option Wrap) :
    Keeps s (secretWritten body key wrap s) := by
  unfold secretWritten
  split
  · exact (((((setRecord_keeps _ _).trans (bumpRange_keeps _)).trans (queuePage_keeps _ _)).trans (unhold_keeps _)).trans
      (setPair_keeps _ _)).trans lanesReact_keeps
  · exact ((unhold_keeps _).trans (setPair_keeps _ _)).trans lanesReact_keeps
  · exact .refl s

theorem handMailbox_keeps (p : Port) (j : Job) : Keeps s (handMailbox p j s) := by cases p <;> exact .ofPending (by simp)

theorem advanceBox_keeps (p : Port) : Keeps s (advanceBox p s) := by
  unfold advanceBox
  split
  · exact .refl s
  · split
    · split
      · exact .refl s
      · unfold handVerify
        split
        · exact (handMailbox_keeps p _).trans (setBox_keeps p _)
        · exact .refl s
    · split
      · exact (handMailbox_keeps p _).trans (setBox_keeps p _)
      · exact .refl s
    · split
      · exact .refl s
      · exact (secretWritten_keeps _ _ _).trans (nextAct_keeps _ _ _)
    · exact .refl s

theorem deliver_keeps (p : Port) (r : Response) : Keeps s (deliver p r s) := by
  unfold deliver
  dsimp only
  split
  · split
    · exact .ofPending (by simp [setBox])
    · exact .ofPending (by simp [setBox, respond, hand])
  · exact .ofPending (by simp [setBox, respond, writeRecord, raise])

theorem answerBox_keeps (p : Port) : Keeps s (answerBox p s) := by
  unfold answerBox
  split
  · exact .refl s
  · split
    · split
      · exact deliver_keeps p _
      · exact .refl s
    · exact .refl s

theorem roomMoved_keeps (p : Port) : Keeps s (roomMoved p s) := by
  unfold roomMoved
  split
  · exact .refl s
  · exact setBox_keeps p _

theorem progressBox_keeps (p : Port) : Keeps s (progressBox p s) :=
  ((roomMoved_keeps p).trans (advanceBox_keeps p)).trans (answerBox_keeps p)

theorem coverReload_keeps (k : MediaKey) : Keeps s (coverReload k s) := by
  refine Keeps.trans ?_ lanesReact_keeps
  exact .ofPending (by simp)

theorem setActivity_keeps (a : WipeActivity) : Keeps s (setActivity a s) := .ofPending (by simp)

theorem setPlan_keeps (p : Plan) : Keeps s (setPlan p s) := .ofPending (by simp [setPlan])

theorem wipeSet_keeps (x : WipeEngine) : Keeps s { s with wipe := x } := .ofPending (by simp)

theorem rebuildEnds_keeps : Keeps s (rebuildEnds s) := by
  unfold rebuildEnds
  split
  · exact goDone_keeps
  · split
    · exact (storeResult_keeps _ _ _ _).trans goDone_keeps
    · exact namePass_keeps _

theorem endRebuild_keeps : Keeps s (endRebuild s) := Keeps.ite (.refl s) rebuildEnds_keeps

theorem rebuildConfig_keeps : Keeps s (rebuildConfig s) := by
  unfold rebuildConfig
  refine Keeps.trans ?_ (queuePage_keeps _ _)
  exact .ofPending ⟨rfl, rfl, rfl, rfl, rfl, rfl, rfl, rfl, rfl, rfl, rfl, rfl, rfl, rfl, rfl, rfl, rfl⟩

theorem rebuildConfigured_keeps : Keeps s (rebuildConfigured s) := by
  have h : Keeps s (setActivity .rebuildEnd (rebuildConfig s)) := rebuildConfig_keeps.trans (setActivity_keeps _)
  exact h.trans endRebuild_keeps

theorem progressWipe_keeps : Keeps s (progressWipe s) := by
  unfold progressWipe
  split
  · split
    · exact .refl s
    · exact (setActivity_keeps _).trans (handWipe_keeps _)
  · split
    · exact .refl s
    · exact (setActivity_keeps _).trans (handWipe_keeps _)
  · split
    · exact .refl s
    · exact (((coverReload_keeps _).trans (setPlan_keeps _)).trans journalWait_keeps).trans (setActivity_keeps _)
  · split
    · unfold rebuildBegin
      split <;> exact (setActivity_keeps _).trans (handWipe_keeps _)
    · exact .refl s
  · split
    · exact .refl s
    · exact ((coverReload_keeps _).trans (wipeSet_keeps _)).trans (handWipe_keeps _)
  · split
    · exact .refl s
    · exact (setActivity_keeps _).trans (handWipe_keeps _)
  · split
    · exact .refl s
    · exact rebuildConfigured_keeps
  · exact endRebuild_keeps
  · split
    · exact .refl s
    · exact (setActivity_keeps _).trans (handWipe_keeps _)
  · split
    · exact .refl s
    · exact ((setPlan_keeps _).trans journalQueue_keeps).trans (setActivity_keeps _)
  · exact .refl s

theorem handHeldWipe_keeps : Keeps s (handHeldWipe s) := by
  unfold handHeldWipe
  split
  · split
    · exact .refl s
    · exact .ofPending (by simp)
  · exact .refl s

theorem grantMailbox_keeps (p : Port) (j : Job) : Keeps s (grantMailbox p j s) := by
  unfold grantMailbox markStarted
  refine Keeps.trans (t := { withdraw p s with
      engine := { (withdraw p s).engine with running := some (.mailbox p, j), lastServed := p } }) ?_ ?_
  · exact .ofPending (by simp)
  · split
    · exact setBox_keeps p _
    · exact .refl _

theorem grant_keeps : Keeps s (grant s) := by
  unfold grant
  repeat' split
  all_goals first
    | exact .refl s
    | exact grantMailbox_keeps _ _
    | exact .ofPending (by simp)

/-- What follows from an act keeps what only power, time, the lines and the link's own commands change. -/
theorem settle_keeps : Keeps s (settle s) :=
  (((((serviceStore_keeps.trans (progressBox_keeps .link)).trans (progressBox_keeps .side)).trans progressWipe_keeps).trans
    serviceStore_keeps).trans handHeldWipe_keeps).trans grant_keeps

/-- A link message that the port takes as it arrives is its owner's act and what follows. -/
theorem receive_takes (m : InMsg) (h : LinkTakes s) (hm : (takeMessage m s).link.inbound = []) :
    receive m s = settle (takeMessage m s) := by
  obtain ⟨hu, hi, ho⟩ := h
  unfold receive
  rw [if_pos hu, hi]
  show drain [m] s = _
  have hh : inboundHeld s = false := by simp [inboundHeld]; omega
  simp only [drain, hh, Bool.false_eq_true, if_false]
  have : (settle (takeMessage m s)).link.inbound = [] := (settle_keeps.inbound).trans hm
  cases hx : settle (takeMessage m s) with
  | mk => rw [hx] at this; simp only at this ⊢; rw [← this]

end

end Sys2Proof.Machine
end

