-- ==== Sys2Proof/WellFormed.lean ====
section
/-! DEFINITION. Which commands are well formed: the operands that a wire or a page of the manual could carry. -/

namespace Sys2Proof

/-- A sector of either format (R185). -/
def sectorLength (data : List Byte) : Bool := data.length = 512 || data.length = 4096

/-- Bytes that a drive of some format cannot take as a message (R65). -/
def malformed (bytes : List Byte) : Bool :=
  (decodeMessage false bytes).isNone || (decodeMessage true bytes).isNone

/-- A kind code that is undefined, or whose kind may not come by the port (R82). -/
def badKind (p : Port) (kind : Byte) : Bool :=
  kind.toNat = 0 || 20 < kind.toNat ||
    (match p with
     | .link => kind = 2 || kind = 16
     | .side => kind ≠ 2 && kind ≠ 16 && kind ≠ 20)

/-- The check of a command's operands. -/
def WellFormed : Instr → Bool
  | .plainSector _ _ data => sectorLength data
  | .cipherSector _ _ data => sectorLength data
  | .tetherEdge cycle => cycle < Config.cyclesPerTick
  | .startupDrawJobComplete draws => draws.length ≤ 34
  | .malformedMessage bytes => malformed bytes
  | .requestBadKind p _ kind => badKind p kind
  | .reportPageSelect value => value.toNat < 8
  | _ => true

end Sys2Proof
end

