-- ==== Sys2Proof/Tests/Slice0.lean ====
section
/-! SUPPORT. Tests of the model against the manual's worked cases and figures, the refusal of ill-formed commands, and for each
statement to be proved a state and operands that meet its hypotheses. Every expected figure is the manual's or computed by hand
from its rules; the source stands in each test's comment. -/

set_option Elab.async false

namespace Sys2Proof.Tests

open Sys2Proof.Machine

/-! ## Ill-formed commands are refused -/

theorem test_wf_sector : WellFormed (.plainSector 0 0 (List.replicate 511 0)) = false := by decide +kernel
theorem test_wf_cipher_sector : WellFormed (.cipherSector 0 0 []) = false := by decide +kernel
theorem test_wf_cycle : WellFormed (.tetherEdge 32) = false := by decide +kernel
theorem test_wf_draws : WellFormed (.startupDrawJobComplete (List.replicate 35 none)) = false := by decide +kernel
theorem test_wf_malformed : WellFormed (.malformedMessage [6, 0, 0, 0]) = false := by decide +kernel
theorem test_wf_bad_kind : WellFormed (.requestBadKind .link 0 1) = false := by decide +kernel
theorem test_wf_report_page : WellFormed (.reportPageSelect 8) = false := by decide +kernel

/-! ## Small states -/

/-- The state a command answers, where it answers one, has a property. -/
def runs (c : Instr) (s : State) (f : State → Bool) : Bool :=
  match exec c s with
  | .next t => f t
  | _ => false

/-- A band open in both directions. -/
def openFlags : BandFlags := { readLocked := false, writeLocked := false, pendingLoad := false, held := false }

/-- A slot that is SET, with the secret 9, the salt 5 and a wrap for every band. -/
def credSet (i : SlotId) : Credential :=
  { Credential.fresh i .set with
    salt := some 5, verifier := some { secret := 9, salt := 5 },
    row := Vector.replicate 16 (some { key := 11, under := .credential 9 5 }) }

/-- A band record whose open wrap stands under the root secret 7. -/
def bandAt (start length : Nat) (rle wle : Bool) (relock : RelockSet) : BandRecord :=
  { start := start, length := length, rle := rle, wle := wle, relock := relock,
    openWrap := if rle then none else some { key := 11, under := .root 7 } }

/-- The drive of the manual's cases: C = 2,000,000, band 1 [409,600, 614,400), band 3 [1,048,576, 1,310,720) with both enables
and SUSPEND and LID_CLOSED, band 5 [1,600,000, 1,700,000) write-lock enabled with LINK_RESET. -/
def working : Working :=
  { Working.unloaded with
    identity := { capacity := 2000000, largeSectors := false, serial := 0, revertCode := 77 }, root := some 7,
    secrets := Vector.replicate 16 (some 3), creds := tab8 credSet,
    bands := put (put (put (Vector.replicate 16 (bandAt 0 0 false false 0)) 1 (bandAt 409600 204800 false false 0))
      3 (bandAt 1048576 262144 true true 3)) 5 (bandAt 1600000 100000 false true 4) }

/-- That drive, ready, DORMANT, with every band open at epoch 1. -/
def ready : State :=
  { State.reset with
    mode := .ready, supplyOk := true, supplySeenOk := true, supplyPrev := some true, w := working,
    bands := Vector.replicate 16 openFlags,
    keys := { bands := Vector.replicate 16 { key := some (.media 7 11 3), epoch := 1 },
              cover := { key := some (.cover 7), epoch := 1 }, fill := { key := none, epoch := 0 } } }

/-- A theft state and a policy. -/
def watched (t : Theft) (p : Policy) (s : State) : State :=
  { s with w := { s.w with watch := { s.w.watch with theft := t, policy := some p } } }

/-- Every indicator enabled, period 0, G = 600 s, LOCKDOWN, 2 passes, budget 10. -/
def policy : Policy :=
  { enabled := 15, periodIndex := 0, graceSeconds := 600, action := .lockdown, passes := 2, budget := 10 }

/-- A lane mode. -/
def inMode (m : LaneMode) (split : Nat) (s : State) : State :=
  { s with w := { s.w with config := { s.w.config with mode := m, split := split } } }

/-- The request a mailbox holds while its job runs. -/
def heldBy (body : Body) : Held := { env := { id := 258, body := body }, started := true, stage := .working, room := [] }

/-- A job of the link mailbox's request runs. -/
def linkJob (j : Job) (body : Body) (s : State) : State :=
  { s with linkBox := some (heldBy body), engine := { s.engine with running := some (.mailbox .link, j) } }

/-- A job of the Wipe Engine runs, which waits in an activity. -/
def wipeJob (j : Job) (a : WipeActivity) (s : State) : State :=
  { s with w := { s.w with watch := { s.w.watch with theft := .wiping } }, wipe := { s.wipe with activity := a },
           engine := { s.engine with running := some (.wipe, j) } }

/-- A transfer under translation. -/
def readAt (tag : Byte) (kind : Kind) (first n : Nat) : Transfer :=
  { tag := tag, kind := kind, stream := false, first := first, count := n, order := none, progress := first, processed := 0,
    refused := 0, firstRefusal := none, stage := .translating }

/-- A state that translates a transfer. -/
def translating (t : Transfer) (s : State) : State := { s with dq := [t], stu := { s.stu with current := some t.tag } }

/-- Where the segments of a plan lie: lane, first drive address, stride, count. -/
def shape (x : LaneId × Segment) : LaneId × Nat × Nat × Nat := (x.1, x.2.drive, x.2.stride, x.2.count)

/-- A segment of band 0 at epoch 1. -/
def segment (tag : Byte) (d : Direction) (a stride n done : Nat) : Segment :=
  { tag := tag, direction := d, key := .band 0, epoch := 1, drive := a, media := a, stride := stride, count := n, done := done }

/-- A lane that awaits a segment's next sector. -/
def awaiting (g : Segment) (timer : Nat) : Lane := { queue := [], inFlight := some g, state := .awaiting, timer := some timer }

/-- A part that is ready, its Wipe Engine at rest, keeps the law of the scrub. -/
theorem calm (s : State) (h : s.mode = .ready) (o : noOrders s = true) (r : s.wipe.running = false)
    (a : s.wipe.activity = .idle) : ScrubInWiping s := by simp [ScrubInWiping, counting, h, o, r, a]

/-- So does one that wipes, with its orders within a running pass. -/
theorem atWork (s : State) (h : s.mode = .ready) (t : theft s = .wiping) (o : noOrders s = true ∨ s.wipe.running = true)
    (r : s.wipe.running = true → s.wipe.activity = .scanning) : ScrubInWiping s := by
  refine ⟨fun x => o.resolve_left (by simp [x]), r, fun _ _ => t, fun x => by simp [counting, h] at x⟩

/-- A scrub of pass 1 with four open orders from 0, as issued (08, an owner's wipe with one pass). -/
def scrubbing : State :=
  { ready with
    w := { working with
      watch := { working.watch with theft := .wiping },
      plan := { Plan.blank with cause := some .owner, phase := .scrub, passes := .times 1, pass := 1 } },
    keys := { KeyTable.powerOn with fill := { key := some (.fill 1), epoch := 1 } },
    wipe := { WipeEngine.powerOn with
      activity := .scanning, running := true, issuePoint := 1024,
      orders := put (put (put (put (Vector.replicate 4 none) 0
        (some { pass := 1, first := 0, count := 256, answered := false })) 1
        (some { pass := 1, first := 256, count := 256, answered := true })) 2
        (some { pass := 1, first := 512, count := 256, answered := false })) 3
        (some { pass := 1, first := 768, count := 256, answered := false }) } }

/-! ## Power and start-up -/

/-- R179: the part waits for the supply; R184: at power-on the supply is WARN. -/
theorem test_power_on : runs (.powerOn true) { State.reset with mode := .off }
    (fun t => decide (t.mode = .supplyWait) && !t.supplyOk && decide (targetAddress t = some 0x3D)) = true := by
  decide +kernel

/-- R184: the second sample of two above the threshold makes the supply OK, and start-up of a first start begins (R179). -/
theorem test_tick_supply : runs (.tick false true true) { State.reset with supplyPrev := some true }
    (fun t => t.supplyOk && decide (t.mode = .keyJobs) && t.startup.firstStart) = true := by decide +kernel

/-- R161: the page whose write was cut is TORN. -/
theorem test_power_loss : runs (.powerLoss false)
    { ready with ks := { ready.ks with writer := some { page := 3, content := none, waiters := [] } } }
    (fun t => decide (t.ks.pages.get 3 = .torn) && decide (t.mode = .off)) = true := by decide +kernel

/-- R182: the check-in counter is held over a line reset. -/
theorem test_resetn_assert : runs .resetnAssert { ready with twu := { ready.twu with counter := 5 } }
    (fun t => decide (t.held.map HeldItems.counter = some 5) && decide (targetAddress t = none)) = true := by decide +kernel

/-- The part in line reset, with what it holds and its store. -/
def lineReset (held : Option HeldItems) (pages : Vector Stored 53) : State :=
  { State.reset with mode := .resetHeld, supplyOk := true, supplySeenOk := true, held := held,
                     ks := { pages := pages, queue := [], room := [], writer := none } }

/-- A part in line reset keeps the law of the scrub. -/
theorem atReset (held : Option HeldItems) (pages : Vector Stored 53) : ScrubInWiping (lineReset held pages) := by
  refine ⟨fun x => ?_, fun x => ?_, fun x => absurd rfl x, fun _ => ⟨rfl, rfl, rfl, rfl, rfl, rfl⟩⟩
  · exact absurd x (by simp [lineReset, State.reset, State.powerOn, WipeEngine.powerOn, noOrders])
  · exact absurd x (by simp [lineReset, State.reset, State.powerOn, WipeEngine.powerOn])

/-- A store of which page 0 alone is INTACT. -/
def tornPages : Vector Stored 53 := put (Vector.replicate 53 .torn) 0 (.intact (.identity working.identity))

/-- What is held: a backoff of 700 ticks on slot 2, a check-in counter of 5. -/
def heldItems : HeldItems :=
  { backoff := put (Vector.replicate 8 0) 2 700, counter := 5, grace := 0, inSuspect := false, tetherLost := false, latch := false }

/-- The part in line reset, with a count of 5 and a held backoff of 700 ticks on slot 2, whose pages are 39 and 47. -/
def resetHeld : State :=
  lineReset (some heldItems) (put (put tornPages 47 (.intact (.attempt 5))) 39 (.intact (.credential (credSet 2))))

/-- R182, R96: a slot above its free attempts goes on with the backoff it held. -/
theorem test_resetn_release : runs (.resetnRelease false true) resetHeld
    (fun t => decide (backoffOf t 2 = 700) && decide (t.mode = .keyJobs)) = true := by decide +kernel

/-- R180, 01 event 1: the key job loads an open band's entry, 0 to 1, and leaves a closed band's absent at 0. -/
theorem test_startup_key_job : runs .startupKeyJobComplete
    { ready with mode := .keyJobs, keys := KeyTable.powerOn,
                 bands := put ready.bands 3 { openFlags with readLocked := true, writeLocked := true },
                 engine := { Engine.idle with running := some (.startup, .startupKey [0, 1, 5]) } }
    (fun t => present t (.band 0) && decide ((entry t (.band 0)).epoch = 1) && !present t (.band 3) && linkReady t) = true := by
  decide +kernel

/-- R165: the ADMIN slot of a first start verifies 32 zero bytes, and every band opens. -/
theorem test_startup_draw_job : runs (.startupDrawJobComplete ((List.range 34).map fun n => some (BitVec.ofNat 256 (n + 1))))
    { State.reset with
      mode := .keyJobs, supplyOk := true, w := firstWorking working.identity,
      startup := { Startup.none with firstStart := true },
      engine := { Engine.idle with running := some (.startup, .startupDraw) } }
    (fun t => verifies (cred t 0) 0 && present t (.band 15) && decide (t.w.root = some 1) && linkReady t) = true := by
  decide +kernel

/-! ## Time and lines -/

/-- R123, R56, R106: a tick counts. -/
theorem test_tick_counts : runs (.tick false true true)
    { watched .armed policy ready with backoff := put (Vector.replicate 8 0) 1 4, laneA := awaiting (segment 1 .read 0 1 4 0) 9 }
    (fun t => decide (t.twu.counter = 1) && decide (backoffOf t 1 = 3) && decide (t.laneA.timer = some 8)) = true := by
  decide +kernel

/-- 03, a stall in a striped write: two of four sectors done, the timer ends: 6 processed, 2 refused from 1,000,005. -/
theorem test_data_timeout : runs (.dataTimeout .b)
    { ready with
      dq := [{ readAt 12 .write 1000000 8 with progress := 1000008, processed := 6, stage := .translated }],
      laneB := awaiting (segment 12 .write 1000001 2 4 2) 0 }
    (fun t => decide (t.laneB = Lane.idle) && decide (t.link.outbound =
      [.completion { tag := 12, status := .dataTimeout, processed := 6, refused := 2,
                     firstRefusal := some (1000005, .dataTimeout) } true])) = true := by decide +kernel

/-- R106: the end of a backoff changes nothing else. -/
theorem test_backoff_end : runs (.backoffEnd 3) ready (fun t => decide (t = ready)) = true := by decide +kernel

/-- 07, worked grace figures: G = 600 s is 614,400 ticks, and the watch page records 600 s. -/
theorem test_checkin_period : runs .checkinPeriodReached
    { watched .armed policy ready with twu := { ready.twu with counter := 32768 } }
    (fun t => decide (theft t = .suspect) && decide (t.twu.grace = 614400) && decide (t.w.watch.graceSeconds = 600)) = true := by
  decide +kernel

/-- 07, worked grace figures: the first checkpoint, at 589,824 ticks, records 576 s. -/
theorem test_grace_checkpoint : runs (.tick false true true)
    { watched .suspect policy ready with twu := { ready.twu with grace := 589825 } }
    (fun t => decide (t.w.watch.graceSeconds = 576) && decide (t.twu.grace = 589824)) = true := by decide +kernel

/-- R132, R14: the end of the grace is ALARM, and every band is closed. -/
theorem test_grace_expired : runs .graceExpired (watched .suspect policy ready)
    (fun t => decide (theft t = .alarm) && closed (flags t 0) && !present t (.band 0)) = true := by decide +kernel

/-- 07, worked tether figures: P = 3,277, T = 328, K = 4. -/
def tethered (count run : Nat) : State :=
  { ready with
    w := { working with config := { working.config with period := 3277, tolerance := 328, filterLength := 4 } },
    twu := { ready.twu with meterOn := true, meterCount := count, tetherRun := run } }

/-- Good samples are those from 2,949 to 3,605 cycles. -/
theorem test_tether_window : (goodSample (tethered 0 0) 2949 && goodSample (tethered 0 0) 3605 &&
    !goodSample (tethered 0 0) 2948 && !goodSample (tethered 0 0) 3606) = true := by decide +kernel

/-- Sample 2, of 4,100 cycles, is bad: run 1, the filter PRESENT. -/
theorem test_tether_edge : runs (.tetherEdge 4) (tethered 4096 0)
    (fun t => decide (t.twu.tetherRun = 1) && !t.twu.tetherLost && decide (t.twu.meterCount = 0)) = true := by decide +kernel

/-- Sample 5, of 65,535 cycles without an edge, is the fourth bad one: LOST, run 0. -/
theorem test_tether_overflow : runs .tetherOverflow (tethered 65520 3)
    (fun t => t.twu.tetherLost && decide (t.twu.tetherRun = 0)) = true := by decide +kernel

/-! ## The link and the data path -/

/-- 02 Case A: READ, tag 4, A = 614,390, n = 20 is admitted with progress 614,390. -/
theorem test_descriptor : runs (.descriptor 0 4 0 614390 20 0) ready
    (fun t => decide (t.dq.map Transfer.progress = [614390]) && decide (t.stu.current = some 4)) = true := by decide +kernel

/-- 02 Case F: a second SCRUB descriptor for an answered order is refused BAD_ORDER. -/
theorem test_descriptor_bad_order : runs (.descriptor 2 41 0 256 256 1) scrubbing
    (fun t => decide (t.link.outbound = [.completion
      { tag := 41, status := .badOrder, processed := 0, refused := 256, firstRefusal := some (256, .badOrder) } false])) = true := by
  decide +kernel

/-- 03, a sequence error: PLAIN_SECTOR 1,000,002 is not the awaited 1,000,000, and all four sectors are refused. -/
theorem test_plain_sector_sequence : runs (.plainSector 12 1000002 (List.replicate 512 0))
    { ready with dq := [{ readAt 12 .write 1000000 8 with progress := 1000008, stage := .translated }],
                 laneA := awaiting (segment 12 .write 1000000 2 4 0) 256 }
    (fun t => decide (t.laneA = Lane.idle) &&
      decide ((transfer t 12).bind Transfer.firstRefusal = some (1000000, .sequenceError))) = true := by decide +kernel

/-- 03, a late sector matches nothing and is discarded. -/
theorem test_cipher_sector_late : runs (.cipherSector 30 1100100 (List.replicate 512 0)) ready
    (fun t => decide (t = ready)) = true := by decide +kernel

/-- 08, as event 7: SCRUB_REFUSE for slot 0 counts its 256 sectors refused, raises the watermark to the lowest open first address,
and gives the slot the order at the issue point, which rises by 256. -/
theorem test_scrub_refuse : runs (.scrubRefuse 0) scrubbing
    (fun t => decide ((t.wipe.orders.get 0).map Order.first = some 1024) && decide (t.wipe.refused = 256) &&
      decide (watermark t = 256) && decide (t.wipe.issuePoint = 1280)) = true := by decide +kernel

/-- 04, a link reset during a scrub: STATE first, then four orders from the watermark. -/
theorem test_link_reset : runs .linkReset
    { scrubbing with
      wipe := { scrubbing.wipe with
        issuePoint := 67072,
        orders := put (Vector.replicate 4 none) 0 (some { pass := 1, first := 65536, count := 256, answered := true }) },
      link := { scrubbing.link with outbound := [.fetch 1 0 1 1] } }
    (fun t => decide (t.link.outbound = [.state .wiping (some .owner), .scrubOrder 0 1 65536 256, .scrubOrder 1 1 65792 256,
      .scrubOrder 2 1 66048 256, .scrubOrder 3 1 66304 256])) = true := by decide +kernel

/-- R65: a message of an undefined code is discarded. -/
theorem test_malformed : runs (.malformedMessage [7, 0, 0, 0]) ready (fun t => decide (t = ready)) = true := by decide +kernel

/-- R72: the sending of an admitted transfer's COMPLETION frees its tag. -/
theorem test_send_message : runs .sendMessage
    { ready with dq := [{ readAt 4 .read 0 1 with stage := .completing }],
                 link := { ready.link with outbound := [.completion
                   { tag := 4, status := .ok, processed := 1, refused := 0, firstRefusal := none } true] } }
    (fun t => t.dq.isEmpty && t.link.outbound.isEmpty) = true := by decide +kernel

/-- 02 Case A: piece 1 ends at the band edge 614,400 and is divided by parity. -/
theorem test_case_a : (decide (pieceEnd (readAt 4 .read 614390 20) (inMode .stripe 0 ready) = 614400) &&
    decide ((lanePlan (readAt 4 .read 614390 20) (inMode .stripe 0 ready) (.band 1) 10).map shape =
      [(.a, 614390, 2, 5), (.b, 614391, 2, 5)])) = true := by decide +kernel

/-- 02 Case B: the piece below L = 2,048 goes to lane A under COVER at media address 2,002,040. -/
theorem test_translate_piece_cover : runs .translatePiece
    (translating (readAt 9 .read 2040 16)
      { ready with w := { working with config := { working.config with coverLength := 2048 } },
                   bands := put ready.bands 0 { openFlags with readLocked := true, writeLocked := true } })
    (fun t => decide (t.link.outbound = [.fetch 9 2002040 1 8])) = true := by decide +kernel

/-- 02 Case C: seven sectors from an odd address, B's segment first. -/
theorem test_case_c : (lanePlan (readAt 1 .write 614401 7) (inMode .stripe 0 ready) (.band 0) 7).map shape =
    [(.b, 614401, 2, 4), (.a, 614402, 2, 3)] := by decide +kernel

/-- 02 Case D: three chunks of a long stripe. -/
theorem test_case_d : (lanePlan (readAt 21 .read 1000001 1100) (inMode .stripe 0 ready) (.band 0) 1100).map shape =
    [(.b, 1000001, 2, 256), (.a, 1000002, 2, 256), (.b, 1000513, 2, 256), (.a, 1000514, 2, 256), (.b, 1001025, 2, 38),
     (.a, 1001026, 2, 38)] := by decide +kernel

/-- 02 Case F: a scrub run across S = 1,000,000 is cut there. -/
theorem test_case_f : pieceEnd (readAt 40 .scrub 999936 256) (inMode .split 1000000 ready) = 1000000 := by decide +kernel

/-- 02 Case A, the variant: band 1 read-locked, piece 1 is refused LOCKED. -/
theorem test_translate_piece_locked : runs .translatePiece
    (translating (readAt 4 .read 614390 20) { ready with bands := put ready.bands 1 { openFlags with readLocked := true } })
    (fun t => decide ((transfer t 4).map Transfer.refused = some 10) &&
      decide ((transfer t 4).bind Transfer.firstRefusal = some (614390, .locked))) = true := by decide +kernel

/-- 02 Case E: with room again, the waiting segment joins the queue. -/
def paused : State :=
  let t := { readAt 17 .read 1100000 1024 with stage := .translating }
  { translating t ready with
    stu := { current := some 17, paused := true,
             piece := some { first := 1100000, count := 1024, outcome := .allowed (.band 3), key := .band 3, epoch := 1,
                             plan := lanePlan t ready (.band 3) 1024, next := 2 } },
    laneA := { awaiting (segment 1 .read 0 1 4 0) 9 with queue := List.replicate 15 (segment 1 .read 0 1 4 0) } }

theorem test_translation_resume : runs .translationResume paused
    (fun t => decide (t.laneA.queue.length = 16) && decide ((t.laneA.queue.getLast?).map Segment.drive = some 1100512) &&
      t.stu.paused) = true := by decide +kernel

/-- R53, R68: a lane in FILLING waits while the outbound queue holds 64 messages. -/
def filling (n : Nat) : State :=
  { scrubbing with
    dq := [{ readAt 7 .scrub 256 256 with order := some 1, progress := 512, stage := .translated }],
    laneA := { queue := [], inFlight := some { segment 7 .fill 256 1 256 100 with key := .fill }, state := .filling, timer := none },
    link := { scrubbing.link with outbound := List.replicate n (.fetch 1 0 1 1) } }

theorem test_fill_sector_waits : runs (.fillSector .a) (filling 64)
    (fun t => decide (t.laneA.inFlight.map Segment.done = some 100)) = true := by decide +kernel
theorem test_fill_sector : runs (.fillSector .a) (filling 63)
    (fun t => decide (t.laneA.inFlight.map Segment.done = some 101) && decide ((transfer t 7).map Transfer.processed = some 1)) =
    true := by decide +kernel

/-! ## Requests -/

/-- R98, 06: a backoff of 1,500 ticks is reported as WAIT of 2 s, and nothing is charged. -/
theorem test_unlock_wait : runs (.unlock 1 (some 2) (some 9) (some { bands := 8, directions := 3 }))
    { ready with backoff := put ready.backoff 2 1500 }
    (fun t => decide (t.link.outbound = [.response { id := 1, status := .wait, wait := 2, granted := 0, report := [] }]) &&
      decide (count t 2 = 0)) = true := by decide +kernel

/-- 09, a charge through a busy queue, event 1: count 6 at the hard limit 6; pages 2, 47, 39 in the queue; DISABLED. -/
theorem test_unlock_charge : runs (.unlock 1 (some 2) (some 9) (some { bands := 16, directions := 3 }))
    { watched .armed policy ready with
      w := { (watched .armed policy ready).w with
        creds := put working.creds 2 { credSet 2 with hard := 6 }, counts := put working.counts 2 5 },
      ks := { ready.ks with
        writer := some { page := 3, content := none, waiters := [] }, queue := [{ page := 2, waiters := [] }] } }
    (fun t => decide (t.ks.queue.map QEntry.page = [2, 47, 39]) && decide ((cred t 2).state = .disabled) &&
      decide (count t 2 = 6)) = true := by decide +kernel

/-- R80: TOKEN_UNLOCK is charged to the PLATFORM slot. -/
theorem test_token_unlock : runs (.tokenUnlock 258 (some 9) (some { bands := 8, directions := 3 })) ready
    (fun t => decide (count t 7 = 1) && t.sideBox.isSome) = true := by decide +kernel

/-- R7: a set that names an index above 15 is refused BAD_ARGUMENT, and no band is locked. -/
theorem test_lock_bad : runs (.lock 1 (some 65544)) ready
    (fun t => !closed (flags t 3) && decide (t.link.outbound =
      [.response { id := 1, status := .badArgument, wait := 0, granted := 0, report := [] }])) = true := by decide +kernel
theorem test_lock : runs (.lock 1 (some 8)) ready
    (fun t => closed (flags t 3) && decide ((entry t (.band 3)).epoch = 2)) = true := by decide +kernel

/-- R107: OWN of a slot that is not BLANK is refused NOT_BLANK. -/
theorem test_own : runs (.own 1 (some 4)) ready (fun t => decide (t.link.outbound =
    [.response { id := 1, status := .notBlank, wait := 0, granted := 0, report := [] }])) = true := by decide +kernel

/-- R108: a hard limit of 2 is below 3, and is refused. -/
theorem test_set_cred : runs (.setCred 1 (some 9) (some { target := 2, hard := 2, free := 0, base := 1, cap := 60 }) (some 4)) ready
    (fun t => decide (t.link.outbound =
      [.response { id := 1, status := .badArgument, wait := 0, granted := 0, report := [] }])) = true := by decide +kernel

/-- R111: GRANT may not name slot 0. -/
theorem test_grant : runs (.grant 1 (some 9) (some { target := 0, bands := 1 }) (some 4)) ready
    (fun t => decide (count t 0 = 0) && decide (t.link.outbound =
      [.response { id := 1, status := .badArgument, wait := 0, granted := 0, report := [] }])) = true := by decide +kernel

/-- R99: an ADMIN request is charged to slot 0, and its attempt page is page 45 (R155). -/
theorem test_revoke : runs (.revoke 1 (some 9) (some { target := 2, bands := 8 })) ready
    (fun t => decide (count t 0 = 1) && decide (t.ks.writer.map Writing.page = some 45)) = true := by decide +kernel

/-- R15: a range that overlaps band 5 is refused BAD_RANGE; one that touches it is not. -/
theorem test_band_set_overlap : runs
    (.bandSet 1 (some 9) (some { band := 3, enables := 3, relock := 1, start := 1048576, length := 551432 })) ready
    (fun t => decide (t.link.outbound =
      [.response { id := 1, status := .badRange, wait := 0, granted := 0, report := [] }])) = true := by decide +kernel
theorem test_band_set : runs
    (.bandSet 1 (some 9) (some { band := 3, enables := 3, relock := 1, start := 1048576, length := 551424 })) ready
    (fun t => decide (count t 0 = 1)) = true := by decide +kernel

/-- R19: band 16 does not exist. -/
theorem test_band_erase : runs (.bandErase 1 (some 9) (some 16)) ready (fun t => decide (t.link.outbound =
    [.response { id := 1, status := .badArgument, wait := 0, granted := 0, report := [] }])) = true := by decide +kernel

/-- R20: a cover length of 4 is below 8. -/
theorem test_drive_set : runs (.driveSet 1 (some 9) none (some { length := 4, band := 0 }) none) ready
    (fun t => decide (t.link.outbound =
      [.response { id := 1, status := .badArgument, wait := 0, granted := 0, report := [] }])) = true := by decide +kernel

/-- R97: in ALARM a COVER_OPEN is refused DENIED, and not charged. -/
theorem test_cover_open : runs (.coverOpen 1 (some 9)) (watched .alarm policy ready)
    (fun t => decide (count t 0 = 0) && decide (t.link.outbound =
      [.response { id := 1, status := .denied, wait := 0, granted := 0, report := [] }])) = true := by decide +kernel

theorem test_cover_close : runs (.coverClose 1) { ready with coverPermit := true } (fun t => !t.coverPermit) = true := by
  decide +kernel

/-- R118: a budget of 3 is below 4. -/
theorem test_watch_arm : runs
    (.watchArm 1 (some 9) (some { indicators := 8, period := 0, grace := 0, action := 0, passes := 0, budget := 3 })) ready
    (fun t => decide (t.link.outbound =
      [.response { id := 1, status := .badArgument, wait := 0, granted := 0, report := [] }])) = true := by decide +kernel

/-- R119: refused DENIED in WIPED. -/
theorem test_watch_disarm : runs (.watchDisarm 1 (some 9)) (watched .wiped policy ready) (fun t => decide (t.link.outbound =
    [.response { id := 1, status := .denied, wait := 0, granted := 0, report := [] }])) = true := by decide +kernel

/-- R120: refused DENIED outside ALARM. -/
theorem test_watch_recover : runs (.watchRecover 1 (some 9)) ready (fun t => decide (t.link.outbound =
    [.response { id := 1, status := .denied, wait := 0, granted := 0, report := [] }])) = true := by decide +kernel

/-- R134: in DORMANT refused NOT_ARMED, and nothing charged. -/
theorem test_remote_wipe : runs (.remoteWipe 1 (some 9)) ready
    (fun t => decide (t.psp.response.status = rstatusCode .notArmed) && decide (count t 7 = 0)) = true := by decide +kernel

/-- R151: passes 4 do not exist. -/
theorem test_wipe_now : runs (.wipeNow 1 (some 9) (some 4)) ready (fun t => decide (t.link.outbound =
    [.response { id := 1, status := .badArgument, wait := 0, granted := 0, report := [] }])) = true := by decide +kernel

/-- R152: outside WIPING refused DENIED. -/
theorem test_scrub_stop : runs (.scrubStop 1 (some 9)) ready (fun t => decide (t.link.outbound =
    [.response { id := 1, status := .denied, wait := 0, granted := 0, report := [] }])) = true := by decide +kernel

/-- R113: the code of the label begins a wipe with cause REVERT and one pass. -/
theorem test_revert : runs (.revert 1 (some 77)) ready
    (fun t => decide (theft t = .wiping) && decide (t.w.plan.cause = some .revert) &&
      decide (t.w.plan.passes = .times 1)) = true := by decide +kernel

/-- R190: the report is of 448 bytes; the first is the theft state's code, ARMED 1. -/
theorem test_status_query : runs (.statusQuery .link 1) (watched .armed policy ready)
    (fun t => match t.link.outbound with
      | [.response r] => decide (r.report.length = 448) && decide (byteAt r.report 0 = 1)
      | _ => false) = true := by decide +kernel

/-- R82: a kind that may not come by the sideband is answered BAD_ARGUMENT. -/
theorem test_bad_kind : runs (.requestBadKind .side 1 1) ready
    (fun t => decide (t.psp.response.status = rstatusCode .badArgument) && alert t) = true := by decide +kernel

/-! ## Backoff (06, worked backoff figures) -/

/-- Base 2 s, free attempts 3, cap 3,600 s. -/
def figures : Credential := { credSet 1 with base := 2, free := 3, cap := 3600, hard := 32 }

theorem test_backoff_figures : [3, 4, 5, 13, 14, 15].map (backoffDelay 1 figures) =
    [0, 2048, 4096, 1048576, 2097152, 3686400] := by decide +kernel

/-- An ADMIN slot with the defaults: the cap from count 22, and at count 32. -/
theorem test_backoff_admin : [22, 32].map (backoffDelay 0 (credSet 0)) = [3686400, 3686400] := by decide +kernel

theorem test_wait_seconds : waitSeconds 1500 = 2 := by decide +kernel

/-! ## Jobs -/

/-- R102: the fifth failure of a slot with the defaults gives 1 s, and the request ends AUTH_FAILED. -/
theorem test_verify_mismatch : runs .verifyJobComplete
    (linkJob .verify (.unlock (some 2) (some 8) (some { bands := 8, directions := 3 }))
      { ready with w := { working with counts := put working.counts 2 5 } })
    (fun t => decide (backoffOf t 2 = 1024) && decide (count t 2 = 5) && decide (t.link.outbound =
      [.response { id := 258, status := .authFailed, wait := 0, granted := 0, report := [] }])) = true := by decide +kernel

/-- 09, event 8: the match returns the slot to SET and its count to 0, and hands the effect job. -/
theorem test_verify_match : runs .verifyJobComplete
    (linkJob .verify (.unlock (some 2) (some 9) (some { bands := 16, directions := 3 }))
      { ready with w := { working with
        creds := put working.creds 2 { credSet 2 with hard := 6, state := .disabled }, counts := put working.counts 2 6 } })
    (fun t => decide ((cred t 2).state = .set) && decide (count t 2 = 0) && t.engine.running.isSome) = true := by decide +kernel

/-- 01, events 4 and 5: an unlock for READ alone opens band 3 to reads at epoch 3. -/
def relocked : State :=
  { ready with
    bands := put ready.bands 3 { openFlags with readLocked := true, writeLocked := true },
    keys := { ready.keys with bands := put ready.keys.bands 3 { key := none, epoch := 2 } } }

theorem test_unlock_job : runs .unlockJobComplete
    (linkJob (.unlock 5 [(3, { key := 11, under := .credential 9 5 })])
      (.unlock (some 1) (some 9) (some { bands := 8, directions := 1 })) relocked)
    (fun t => decide (flags t 3 = { openFlags with writeLocked := true }) &&
      decide (entry t (.band 3) = { key := some (.media 7 11 3), epoch := 3 }) && decide (t.link.outbound =
        [.response { id := 258, status := .ok, wait := 0, granted := 8, report := [] }])) = true := by decide +kernel

/-- R107: the new secret verifies, and the old one of 32 zero bytes does not. -/
theorem test_own_job : runs (.ownJobComplete (some 21)) (linkJob .own (.own (some 4)) ready)
    (fun t => verifies (cred t 0) 4 && !verifies (cred t 0) 0) = true := by decide +kernel

/-- R109: a target without a wrap for a band gets none. -/
theorem test_set_cred_job : runs (.setCredJobComplete (some 21))
    (linkJob .setCred (.setCred (some 9) (some { target := 2, hard := 10, free := 3, base := 1, cap := 60 }) (some 4))
      { ready with w := { working with creds := put working.creds 2 (Credential.blank 2) } })
    (fun t => verifies (cred t 2) 4 && decide ((cred t 2).hard = 10) && decide ((cred t 2).row.get 3 = none)) = true := by
  decide +kernel

/-- R110: slot 0 holds a wrap of the same key under the new secret. -/
theorem test_set_cred_admin_job : runs (.setCredAdminJobComplete (some 21))
    (linkJob .setCredAdmin (.setCred (some 9) (some { target := 0, hard := 10, free := 3, base := 1, cap := 60 }) (some 4)) ready)
    (fun t => decide ((cred t 0).row.get 3 = some { key := 11, under := .credential 4 21 })) = true := by decide +kernel

/-- R111: the wrap of the admin row goes into the target's row under the target's secret. -/
theorem test_grant_job : runs .grantJobComplete
    (linkJob .grant (.grant (some 9) (some { target := 2, bands := 8 }) (some 9))
      { ready with w := { working with creds := put working.creds 2 { credSet 2 with row := Vector.replicate 16 none } } })
    (fun t => decide ((cred t 2).row.get 3 = some { key := 11, under := .credential 9 5 }) &&
      decide ((cred t 2).row.get 4 = none)) = true := by decide +kernel

/-- R16: setting RLE closes the open band and removes its entry. -/
theorem test_band_set_job : runs .bandSetJobComplete
    (linkJob .bandSet (.bandSet (some 9) (some { band := 1, enables := 3, relock := 0, start := 409600, length := 204800 })) ready)
    (fun t => closed (flags t 1) && !present t (.band 1) && (record t 1).openWrap.isNone) = true := by decide +kernel

/-- 01, event 8: the entry is removed and the band held closed, still on its old range. -/
def ranging : Body := .bandSet (some 9) (some { band := 3, enables := 3, relock := 1, start := 1048576, length := 524288 })

theorem test_band_set_range_job : runs (.bandSetRangeJobComplete (some 31))
    (linkJob .bandSetRange ranging { ready with bands := ready.bands })
    (fun t => (flags t 3).held && !present t (.band 3) && decide ((record t 3).length = 262144)) = true := by decide +kernel

/-- 01, event 9: with the secret written, band 3 takes 524,288 sectors; entry 3 goes from 4 to 5 and entry 0 from 1 to 2. -/
theorem test_page_write_range : runs .pageWriteComplete
    { ready with
      linkBox := some { heldBy ranging with stage := .secretWrite (.media 7 11 31) none },
      bands := put ready.bands 3 { readLocked := true, writeLocked := true, pendingLoad := false, held := true },
      keys := { ready.keys with bands := put ready.keys.bands 3 { key := none, epoch := 4 } },
      ks := { ready.ks with writer := some { page := 24, content := some (.secret 31), waiters := [.request .link] } } }
    (fun t => decide ((record t 3).length = 524288) && decide ((entry t (.band 3)).epoch = 5) &&
      decide ((entry t (.band 0)).epoch = 2) && present t (.band 0) && closed (flags t 3)) = true := by decide +kernel

/-- 01, event 6: BAND_ERASE holds band 5 closed with its entry removed, 1 to 2. -/
theorem test_band_erase_job : runs (.bandEraseJobComplete (some 31)) (linkJob .bandErase (.bandErase (some 9) (some 5)) ready)
    (fun t => (flags t 5).held && closed (flags t 5) && decide (entry t (.band 5) = { key := none, epoch := 2 }) &&
      decide (t.w.secrets.get 5 = some 31)) = true := by decide +kernel

/-- R5: the pending band is opened with its key loaded. -/
def pendingBand : State :=
  { relocked with bands := put relocked.bands 1 { openFlags with readLocked := true, writeLocked := true, pendingLoad := true },
                  keys := { relocked.keys with bands := put relocked.keys.bands 1 { key := none, epoch := 2 } } }

theorem test_watch_recover_job : runs .watchRecoverJobComplete (linkJob .recover (.watchRecover (some 9)) pendingBand)
    (fun t => decide (flags t 1 = openFlags) && decide ((entry t (.band 1)).epoch = 3)) = true := by decide +kernel
theorem test_open_load_job : runs .openLoadJobComplete
    { pendingBand with engine := { Engine.idle with running := some (.wipe, .openLoad) } }
    (fun t => decide (flags t 1 = openFlags) && closed (flags t 3)) = true := by decide +kernel

/-- R126: a match sets the counter to 0 and the status to GOOD. -/
theorem test_checkin_compare : runs .checkinCompareComplete
    { watched .armed policy ready with
      twu := { ready.twu with counter := 900, status := .pending },
      engine := { Engine.idle with running := some (.compare, .compare 9) } }
    (fun t => decide (t.twu.counter = 0) && decide (t.twu.status = .good)) = true := by decide +kernel

/-- R138: without a value the root page is erased and the cover key derived from zero bytes. -/
theorem test_root_job : runs (.rootJobComplete none) (wipeJob .root .rootJob ready)
    (fun t => t.w.root.isNone && t.entropyFailed && decide (t.engine.running = some (.wipe, .coverZero))) = true := by
  decide +kernel
theorem test_cover_zero_job : runs .coverZeroJobComplete
    { wipeJob .coverZero .coverZeroJob ready with ks := { ready.ks with writer := some { page := 1, content := none, waiters := [.wipe] } } }
    (fun t => decide (t.wipe.activity = .rootWrite (.cover 0))) = true := by decide +kernel

/-- R140: REBUILD's root job replaces the root secret. -/
theorem test_rebuild_root_job : runs (.rebuildRootJobComplete (some 41)) (wipeJob .rebuildRoot .rebuildRootJob ready)
    (fun t => decide (t.w.root = some 41) && decide (t.wipe.activity = .rebuildRootWrite (.cover 41))) = true := by decide +kernel

/-- R140: the ADMIN slot is BLANK with hard limit 32, the others EMPTY with 16. -/
theorem test_rebuild_admin_job : runs (.rebuildAdminJobComplete (some 51)) (wipeJob .rebuildAdmin .rebuildAdminJob ready)
    (fun t => decide ((cred t 0).state = .blank) && verifies (cred t 0) 0 && decide ((cred t 0).hard = 32) &&
      decide ((cred t 7).state = .empty) && decide ((cred t 7).hard = 16)) = true := by decide +kernel

/-- R140: after band 15 the drive configuration is the default. -/
theorem test_rebuild_band_job : runs (.rebuildBandJobComplete (some 61) (some 62))
    (wipeJob (.rebuildBand 15) (.rebuildBandJob 15) (inMode .stripe 0 ready))
    (fun t => decide (t.w.secrets.get 15 = some 61) && decide (t.w.config = DriveConfig.default)) = true := by decide +kernel

/-- 08, event 5: four orders, and the issue point becomes 1,024. -/
theorem test_fill_key_job : runs (.fillKeyJobComplete (some 1))
    { wipeJob .fillKey .fillJob ready with w := { scrubbing.w with plan := { scrubbing.w.plan with pass := 1 } } }
    (fun t => decide (t.wipe.issuePoint = 1024) && present t .fill && decide (t.link.outbound =
      [.scrubOrder 0 1 0 256, .scrubOrder 1 1 256 256, .scrubOrder 2 1 512 256, .scrubOrder 3 1 768 256])) = true := by
  decide +kernel

/-- 08, the end of the pass: the last order has 128 sectors, E being 2,131,072. -/
theorem test_last_order : (nextOrder { scrubbing with wipe := { scrubbing.wipe with issuePoint := 2130944 } }).count = 128 := by
  decide +kernel

/-- R159: the page holds the copy written. -/
theorem test_page_write : runs .pageWriteComplete
    { ready with ks := { ready.ks with writer := some { page := 47, content := some (.attempt 6), waiters := [] } } }
    (fun t => decide (t.ks.pages.get 47 = .intact (.attempt 6)) && t.ks.writer.isNone) = true := by decide +kernel

/-! ## The sideband -/

/-- 01, event 4: band 3 is closed, its entry from 1 to 2, and band 5 is not touched. -/
theorem test_suspend : runs .suspend ready
    (fun t => closed (flags t 3) && decide (entry t (.band 3) = { key := none, epoch := 2 }) && !closed (flags t 5)) = true := by
  decide +kernel
theorem test_lid_closed : runs .lidClosed ready (fun t => closed (flags t 3) && !closed (flags t 1)) = true := by decide +kernel

/-- R7: LOCK_ALL locks the bands with RLE or WLE: band 3 closes, band 5 is write-locked. -/
theorem test_lock_all : runs .lockAll ready
    (fun t => closed (flags t 3) && decide (flags t 5 = { openFlags with writeLocked := true }) &&
      decide (flags t 1 = openFlags)) = true := by decide +kernel

/-- R125: in DORMANT the strobe is IGNORED_STATE, and the token field is zero. -/
theorem test_checkin_strobe : runs .checkinStrobe { ready with psp := { ready.psp with token := Vector.replicate 32 1 } }
    (fun t => decide (t.twu.status = .ignoredState) && decide (t.psp.token = Vector.replicate 32 0)) = true := by decide +kernel

theorem test_pointer_set : runs (.pointerSet 0x80) ready (fun t => decide (t.psp.pointer = 0x80)) = true := by decide +kernel

/-- R170: a write at 0xFF is ignored, and the pointer wraps to 0. -/
theorem test_register_write : runs (.registerWrite 1) { ready with psp := { ready.psp with pointer := 0xFF } }
    (fun t => decide (t = { ready with psp := { ready.psp with pointer := 0 } })) = true := by decide +kernel

/-- R176, R188: the envelope of a STATUS_QUERY (kind 20, id 258) submitted by its bytes is answered by the sideband. -/
theorem test_register_write_submit : runs (.registerWrite 1)
    { ready with psp := { ready.psp with
      pointer := 0x70, buffer := put (put (put (Vector.replicate 64 0) 0 2) 1 1) 2 20 } }
    (fun t => decide (t.psp.response.id = 258) && decide (t.psp.response.status = 0) &&
      decide (t.psp.buffer = Vector.replicate 64 0)) = true := by decide +kernel

theorem test_report_page : runs (.reportPageSelect 7) ready (fun t => decide (t.psp.page = 7)) = true := by decide +kernel

/-- 10, event 5: the read returns RESPONSE_READY and clears it, and ALERT goes. -/
theorem test_notice_read : runs .noticeByteRead { ready with psp := { ready.psp with notice := 4 } }
    (fun t => decide (t.psp.served = 4) && !alert t) = true := by decide +kernel

/-- 10, event 6: the response header of sequence 7, id 258, OK, granted {3}. -/
theorem test_latched_read : runs .latchedRead
    { ready with psp := { ready.psp with
      pointer := 0x78,
      response := { sequence := 7, id := 258, status := 0, wait := 0, granted := 8, report := [] } } }
    (fun t => decide (t.psp.served = 7) && decide (t.psp.latch = some (.header, [7, 2, 1, 0, 0, 0, 8, 0]))) = true := by
  decide +kernel

/-- 08, the end of the pass: record 0 reads cause OWNER, pass 1, COMPLETE, and its first byte clears the unread flag. -/
theorem test_result_record : runs (.resultRecordRead 0)
    { ready with wipe := { ready.wipe with ring := put ready.wipe.ring 0 (some
      { cause := some .owner, pass := 1, written := 2130816, refused := 256, ended := .complete, unread := true,
        overrun := false }) } }
    (fun t => decide (t.psp.served = 1) && decide ((t.wipe.ring.get 0).map Machine.Result.unread = some false)) = true := by
  decide +kernel

/-! ## Start-up's results, and what follows from an act -/

/-- A store found with the watch page in ARMED under the policy. -/
def armedPages : Vector Stored 53 :=
  put (put (Vector.replicate 53 .blank) 0 (.intact (.identity working.identity))) 3
    (.intact (.watch { Watch.blank with theft := .armed, policy := some { policy with budget := 255 } }))

/-- R117: the watch restored at a line reset goes on in ARMED with the counter held. -/
theorem test_release_armed : runs (.resetnRelease false true)
    (lineReset (some heldItems) (put armedPages 1 (.intact (.root 7))))
    (fun t => decide (theft t = .armed) && decide (t.twu.counter = 5) && decide (failureSum t < 255)) = true := by
  decide +kernel

/-- R153, R181, entry 36: a scrub abandoned at start-up has its result in record 0, and no notice before step 11. -/
theorem test_release_abandons : runs (.resetnRelease false true)
    (lineReset none (put (put (put armedPages 1 (.intact (.root 7))) 3
      (.intact (.watch { Watch.blank with theft := .wiping }))) 4
      (.intact (.journal { Plan.blank with cause := some .owner, phase := .scrub, passes := .times 2, pass := 1 }))))
    (fun t => decide (theft t = .wiped) && decide ((t.wipe.ring.get 0).map Machine.Result.ended = some .abandoned) &&
      !alert t) = true := by decide +kernel

/-- R146: a closing that takes the watermark to 65,536 is a checkpoint. -/
theorem test_checkpoint : runs (.scrubRefuse 0)
    { scrubbing with wipe := { scrubbing.wipe with
        issuePoint := 66304,
        orders := put (put (put (put (Vector.replicate 4 none) 0 (some { pass := 1, first := 65280, count := 256, answered := false }))
          1 (some { pass := 1, first := 65536, count := 256, answered := true }))
          2 (some { pass := 1, first := 65792, count := 256, answered := true }))
          3 (some { pass := 1, first := 66048, count := 256, answered := true }) } }
    (fun t => decide (t.w.plan.watermark = 65536) && decide (t.w.plan.refused = 256)) = true := by decide +kernel

/-- R78, R99, entry 34: at its hard limit the ADMIN slot's count stays, and the request is held as started. -/
theorem test_saturated : runs (.coverOpen 1 (some 9))
    { ready with w := { working with counts := put working.counts 0 32, creds := put working.creds 0 { credSet 0 with hard := 32 } } }
    (fun t => (t.linkBox.any fun h => h.started) && decide (count t 0 = 32)) = true := by decide +kernel

/-! ## For each statement, a state and operands that meet its hypotheses -/

/-- A command waits at the front of the queue. -/
def asked (c : Instr) (s : State) : State := { s with pending := [c] }

/-- A step answers a next state. -/
def goesOn (s : State) : Bool :=
  match step s with
  | .next _ => true
  | _ => false

theorem witness_StepRunsFrontCommand : (asked .suspend ready).pending = .suspend :: [] ∧ ready.pending = [] := by
  decide +kernel
/-- At rest but for one request, whose stage is given, while a job runs. -/
def attended (p : Port) (x : ReqStage) (s : State) : Bool :=
  let t : State := setBox p (some { heldBy .coverClose with stage := x })
    { s with engine := { s.engine with running := some (.wipe, .root) } }
  storeQuiet t && boxQuiet (otherPort p) t && decide (t.wipe.activity = .idle) && t.wipe.toHand.isNone &&
    t.engine.running.isSome && roomClear [] t && !waits (.request p) t

/-- At rest but for the jobs that wait. -/
def asking (e : Engine) : Bool :=
  let t : State := { ready with engine := e, linkBox := some (heldBy .coverClose), sideBox := some (heldBy .statusQuery) }
  storeQuiet t && boxQuiet .link t && boxQuiet .side t && decide (t.wipe.activity = .idle) && t.wipe.toHand.isNone &&
    t.engine.running.isNone

theorem witness_QuietSettles : Quiet ready = true ∧
    ([Port.link, .side].all fun p => [ReqStage.charged, .handing .own, .answering .ok 8].all fun x =>
      attended p x ready && attended p x { ready with link := { ready.link with dropMark := some 258 } }) = true ∧
    asking { Engine.idle with startup := some .startupDraw, wipe := some .root } = true ∧
    asking { Engine.idle with wipe := some .root, compare := some (.compare 9) } = true ∧
    asking { Engine.idle with compare := some (.compare 9), link := some .verify } = true ∧
    asking { Engine.idle with link := some .verify, side := some .verify } = true ∧ (.link : Port) ≠ Engine.idle.lastServed ∧
    asking { Engine.idle with side := some .verify } = true ∧ Engine.idle.link = none := by decide +kernel
theorem witness_StepKeepsLiveKeysGuarded : LiveKeysGuarded (asked .suspend ready) ∧
    present (asked .suspend ready) (.band 3) = true ∧ goesOn (asked .suspend ready) = true := by
  unfold LiveKeysGuarded; decide +kernel
theorem witness_StepKeepsSlotsLimited :
    let s := { asked (.revoke 1 (some 9) (some { target := 2, bands := 8 })) ready with
      w := { working with counts := put working.counts 0 31 } }
    SlotsLimited s ∧ goesOn s = true := by unfold SlotsLimited; decide +kernel
theorem witness_StepKeepsStoreOrdered :
    let s := { asked .pageWriteComplete ready with
      ks := { ready.ks with
        writer := some { page := 3, content := none, waiters := [] },
        queue := (tab16 fun b => { page := ⟨5 + b.val, by omega⟩, waiters := [] }).toList,
        room := [{ page := 2, waiters := [] }] } }
    StoreOrdered s ∧ goesOn s = true := by unfold StoreOrdered; decide +kernel
theorem witness_StepKeepsTrafficBounded :
    let s := asked .translationResume paused
    TrafficBounded s ∧ goesOn s = true := by unfold TrafficBounded; decide +kernel
theorem witness_StepKeepsScrubInWiping : ScrubInWiping (asked (.scrubRefuse 0) scrubbing) ∧
    goesOn (asked (.scrubRefuse 0) scrubbing) = true :=
  ⟨atWork _ rfl rfl (.inr rfl) fun _ => rfl, by decide +kernel⟩
theorem witness_PowerOnAndLoss : ({ State.reset with mode := .off } : State).mode = .off ∧
    ({ ready with ks := { ready.ks with writer := some { page := 3, content := none, waiters := [] } } } : State).mode ≠ .off := by
  decide +kernel
theorem witness_LineResetHolds : counting ready = true ∧ counting scrubbing = true := by decide +kernel
/-- The store of a part whose watch page holds WIPING and whose journal holds a plan, with the root page as given. -/
def wipingPages (root : Stored) (q : Plan) : Vector Stored 53 :=
  put (put (put tornPages 1 root) 3 (.intact (.watch { Watch.blank with theft := .wiping }))) 4 (.intact (.journal q))

theorem witness_LineResetKeepsBackoffs : resetHeld.mode = .resetHeld ∧ resetHeld.supplySeenOk = true ∧
    resetHeld.ks.writer = none ∧ resetHeld.held = some heldItems ∧
    resetHeld.ks.pages.get 0 = .intact (.identity working.identity) ∧
    (∀ held ps, (lineReset held ps).mode = .resetHeld ∧ (lineReset held ps).supplySeenOk = true ∧
      (lineReset held ps).ks.writer = none ∧ (lineReset held ps).held = held ∧ (lineReset held ps).ks.pages = ps ∧
      ScrubInWiping (lineReset held ps)) ∧
    heldItems.tetherLost = false ∧ heldItems.latch = false ∧ tornPages.get 0 = .intact (.identity working.identity) ∧
    tornPages.get 3 ≠ .blank ∧
    (∀ r q, (wipingPages r q).get 1 = r ∧ (wipingPages r q).get 4 = .intact (.journal q) ∧
      (wipingPages r q).get 3 = .intact (.watch { Watch.blank with theft := .wiping }) ∧
      (wipingPages r q).get 0 = .intact (.identity working.identity)) ∧
    armedPages.get 3 = .intact (.watch { Watch.blank with theft := .armed, policy := some { policy with budget := 255 } }) := by
  refine ⟨by decide +kernel, by decide +kernel, by decide +kernel, by decide +kernel, by decide +kernel,
    fun held ps => ⟨rfl, rfl, rfl, rfl, rfl, atReset held ps⟩, rfl, rfl, by decide +kernel, by decide +kernel,
    fun r q => ⟨rfl, rfl, rfl, rfl⟩, by decide +kernel⟩

/-- The start-up of the drive, whose key job runs. -/
def startingUp : State :=
  { ready with mode := .keyJobs, keys := KeyTable.powerOn,
               bands := put ready.bands 3 { openFlags with readLocked := true, writeLocked := true },
               engine := { Engine.idle with running := some (.startup, .startupKey [0, 1, 5]) } }

theorem witness_StartupLoadsOpenBands :
    (let s := { startingUp with
       startup := { startingUp.startup with restored := .armed, lost := [3] },
       wipe := { startingUp.wipe with ring := put startingUp.wipe.ring 0 (some
         { cause := some .owner, pass := 1, written := 0, refused := 0, ended := .abandoned, unread := true, overrun := false }) } }
     s.engine.running = some (.startup, .startupKey [0, 1, 5]) ∧ needsDraw s = false ∧ s.link.outbound = [] ∧
       theft s ≠ s.startup.restored ∧ (s.wipe.ring.get 0).isSome = true ∧ s.startup.lost ≠ []) ∧
    (openKey startingUp 1).isSome = true := by decide +kernel

/-- The first start, whose draw job runs. -/
def firstStart : State :=
  { State.reset with
    mode := .keyJobs, supplyOk := true, w := firstWorking working.identity,
    startup := { Startup.none with firstStart := true },
    engine := { Engine.idle with running := some (.startup, .startupDraw) } }

theorem witness_FirstStartOpensEveryBand : firstStart.engine.running = some (.startup, .startupDraw) ∧
    firstStart.startup.firstStart = true ∧ firstStart.entropyFailed = false ∧ firstStart.w = firstWorking working.identity ∧
    ((List.range 34).map fun n => BitVec.ofNat 256 (n + 1)).length = 34 ∧ firstStart.ks.queue = [] ∧ firstStart.ks.room = [] ∧
    firstStart.ks.writer = none ∧ ∀ p : PageId, p ≠ 0 → firstStart.ks.pages.get p = .blank := by decide +kernel
theorem witness_TickCounts :
    let s := { watched .armed policy ready with
      backoff := put (Vector.replicate 8 0) 1 1, laneA := awaiting (segment 1 .read 0 1 4 0) 1 }
    s.mode = .ready ∧ s.twu.meterOn = false ∧ timedOut .a s = false ∧ timedOut .b s = false ∧ theft s ≠ .suspect ∧
      checkinAsserted s = false := by decide +kernel
theorem witness_TickFiltersTamperAndGrace : theft ready = .dormant ∧
    ∀ n ∈ [1, 589825, 589826], ({ watched .suspect policy ready with twu := { ready.twu with grace := n } } : State).twu.grace > 0 ∧
      theft (watched .suspect policy ready) = .suspect := by decide +kernel
theorem witness_MissedCheckinSuspects :
    let s := { watched .armed policy ready with twu := { ready.twu with counter := 32768 } }
    linkUp s = true ∧ theft s = .armed ∧ s.w.watch.policy = some policy ∧ inSet policy.enabled .checkin = true ∧
      watchPeriod policy.periodIndex ≤ s.twu.counter ∧ policy.graceSeconds ≠ 0 := by decide +kernel
theorem witness_GraceEndsInAlarmOrWipe : ∀ a : Action,
    let p := { policy with action := a }
    let s := watched .suspect p ready
    linkUp s = true ∧ theft s = .suspect ∧ s.twu.grace = 0 ∧ s.w.watch.policy = some p ∧ ScrubInWiping s :=
  fun _ => ⟨rfl, rfl, rfl, rfl, calm _ rfl rfl rfl rfl⟩
theorem witness_TetherMeterSamples :
    (∀ n ∈ [65503, 3000], ∀ first, ∀ run ∈ [0, 2],
      let s := { tethered n run with twu := { (tethered n run).twu with meterFirst := first } }
      s.mode = .ready ∧ s.twu.meterOn = true ∧ s.divider ≤ 31 ∧ s.twu.meterCount + (31 - s.divider) < 65535) ∧
    goodSample (tethered 3000 0) (3000 + 31) ≠ (tethered 3000 0).twu.tetherLost ∧
    goodSample (tethered 65503 2) (65503 + 31) = (tethered 65503 2).twu.tetherLost ∧
    (tethered 65503 2).twu.tetherRun + 1 < (tethered 65503 2).w.config.filterLength ∧
    (let s := tethered 65503 3
     s.mode = .ready ∧ s.twu.meterOn = true ∧ s.twu.tetherLost = false ∧ theft s = .dormant ∧
       s.w.config.filterLength ≤ s.twu.tetherRun + 1 ∧ s.twu.meterCount < 65535 ∧
       65535 ≤ s.twu.meterCount + (32 - s.divider)) ∧ ScrubInWiping (tethered 65503 3) := by
  refine ⟨?_, ?_, ?_, ?_, ?_, calm _ rfl rfl rfl rfl⟩ <;> decide +kernel
theorem witness_InboundDiscards : linkUp startingUp = false ∧
    requestOf (.coverClose 1) = some (.link, { id := 1, body := .coverClose }) ∧
    decodeMessage ready.w.identity.largeSectors [7, 0, 0, 0] = none := by decide +kernel

/-- A COMPLETION waits to be sent. -/
def sending : State :=
  { ready with dq := [{ readAt 4 .read 0 1 with stage := .completing }],
               link := { ready.link with outbound := [.completion
                 { tag := 4, status := .ok, processed := 1, refused := 0, firstRefusal := none } true, .fetch 1 0 1 1] } }

theorem witness_SendTakesHead : linkUp sending = true ∧ sending.link.inbound = [] ∧ sending.link.outbound =
    .completion { tag := 4, status := .ok, processed := 1, refused := 0, firstRefusal := none } true :: [.fetch 1 0 1 1] := by
  decide +kernel
theorem witness_LinkResetEndsTheLinksWork : linkUp scrubbing = true ∧ scrubbing.wipe.running = true ∧ linkUp sending = true := by
  decide +kernel

/-- One sector past the capacity is refused; the last sector, and an order's whole range, are admitted. -/
theorem witness_DescriptorAdmission : LinkTakes ready ∧ LinkTakes scrubbing ∧
    admission 0 4 0 2000000 1 0 ready = some .outOfRange ∧ admission 0 4 0 1999999 1 0 ready = none ∧
    admission 2 4 0 512 256 2 scrubbing = none := by unfold LinkTakes; decide +kernel
theorem witness_PiecesAreCut :
    let t := readAt 4 .read 614390 20
    t.progress < transferEnd t ∧ 614400 ∈ cutPoints t.kind ready ∧ t.progress < 614400 ∧ t.kind ≠ .scrub ∧
      RangesApart ready ∧ t.progress ≤ 614399 ∧ 614399 < pieceEnd t ready := by
  unfold RangesApart; decide +kernel
theorem witness_AllowedPieceIsGuarded :
    decide33 (readAt 4 .read 614390 20) ready = .allowed (.band 1) ∧
    decide33 (readAt 4 .write 614400 20) ready = .allowed (.band 0) ∧
    decide33 (readAt 4 .read 2047 1)
      { ready with w := { working with config := { working.config with coverLength := 2048 } },
                   bands := put ready.bands 0 { openFlags with readLocked := true, writeLocked := true } } = .allowed .cover ∧
    decide33 { readAt 4 .scrub 256 256 with order := some 1 } scrubbing = .allowed .fill := by decide +kernel

/-- Band 1 read-locked under a transfer of its last ten sectors and ten more. -/
def refusing : State :=
  translating (readAt 4 .read 614390 20) { ready with bands := put ready.bands 1 { openFlags with readLocked := true } }

theorem witness_LanePlanCoversOnce : ready.w.config.mode ≠ .stripe ∧ (inMode .split 1000000 ready).w.config.mode ≠ .stripe ∧
    (inMode .stripe 0 ready).w.config.mode = .stripe := by decide +kernel
theorem witness_RefusedPieceCounts :
    let t := readAt 4 .read 614390 20
    refusing.stu.piece = none ∧ refusing.stu.current = some t.tag ∧ transfer refusing t.tag = some t ∧
      decide33 t refusing = .refused .locked ∧ t.order = none ∧ t.progress < transferEnd t := by decide +kernel
theorem witness_AllowedPieceIsFetched : ∀ k ∈ [Kind.read, .write],
    let t := readAt 4 k 614400 256
    let s := translating t ready
    s.stu.piece = none ∧ s.stu.current = some t.tag ∧ transfer s t.tag = some t ∧ decide33 t s = .allowed (.band 0) ∧
      t.kind ≠ .scrub ∧ t.progress < transferEnd t ∧ pieceEnd t s - t.progress ≤ 256 ∧ s.w.config.mode = .single ∧
      s.laneA = Lane.idle := by decide +kernel
theorem witness_PausedSegmentJoinsItsQueue :
    let t := readAt 17 .read 1100000 1024
    paused.stu.paused = true ∧ paused.stu.current = some 17 ∧ transfer paused 17 = some t ∧
      (paused.stu.piece.bind fun x => x.plan[x.next]?) = (lanePlan t ready (.band 3) 1024)[2]? ∧
      (lanePlan t ready (.band 3) 1024)[2]?.map Prod.fst = some .a ∧
      (lane .a paused).inFlight = some (segment 1 .read 0 1 4 0) ∧ (lane .a paused).queue.length = 15 := by decide +kernel

/-- A segment of two sectors of band 0, nothing done, under way on a lane. -/
def underWay (l : LaneId) (d : Direction) (k : Kind) : State :=
  setLane l (awaiting (segment 12 d 1000000 1 3 1) 256)
    { ready with dq := [{ readAt 12 k 1000000 3 with progress := 1000003, processed := 1, stage := .translated }] }

theorem witness_AwaitedSectorIsTransformed : ∀ l ∈ [LaneId.a, .b], ∀ x ∈ [(Direction.read, Kind.read), (.write, .write)],
    let g := segment 12 x.1 1000000 1 3 1
    let s := underWay l x.1 x.2
    let t := { readAt 12 x.2 1000000 3 with progress := 1000003, processed := 1, stage := .translated }
    LinkTakes s ∧ (lane l s).inFlight = some g ∧ (lane l s).state = .awaiting ∧ g.done + 1 < g.count ∧ 0 < g.stride ∧
      (List.replicate 512 (0 : Byte)).length = sectorSize s ∧ (entry s g.key).key = some (.media 7 11 3) ∧
      (entry s g.key).epoch = g.epoch ∧ transfer s g.tag = some t ∧ t.processed + 1 + t.refused < t.count ∧
      (l = .b → matching .a g.direction g.tag 1000001 s = none) ∧ g.direction = x.1 ∧
      (1000001 : BitVec 48).toNat = g.media + g.done * g.stride ∧
      (1000001 : BitVec 48).toNat = g.drive + g.done * g.stride := by unfold LinkTakes; decide +kernel
/-- The same at the segment's last sector, in a transfer of `n` sectors. -/
def lastUnderWay (l : LaneId) (d : Direction) (k : Kind) (n : Nat) : State :=
  setLane l (awaiting (segment 12 d 1000000 1 3 2) 256)
    { ready with dq := [{ readAt 12 k 1000000 n with progress := 1000003, processed := 2, stage := .translated }] }

/-- The hypotheses on a segment's last sector. -/
def lastAwaited (l : LaneId) (d : Direction) (k : Kind) (n : Nat) : Bool :=
  let g := segment 12 d 1000000 1 3 2
  let s := lastUnderWay l d k n
  linkUp s && s.link.inbound.isEmpty && s.link.outbound.length < 64 && decide ((lane l s).inFlight = some g) &&
    decide ((lane l s).state = .awaiting) && g.done + 1 = g.count && (lane l s).queue.isEmpty && 0 < g.stride &&
    decide ((entry s g.key).key = some (.media 7 11 3)) && decide ((entry s g.key).epoch = g.epoch) &&
    ((transfer s g.tag).any fun t => t.order.isNone && decide (t.stage ≠ .completing) &&
      decide (t.processed + 1 + t.refused ≤ t.count)) &&
    (decide (l = .a) || (matching .a g.direction g.tag 1000002 s).isNone)

theorem witness_AwaitedSectorIsTransformed_last :
    ([LaneId.a, .b].all fun l => [3, 5].all fun n => lastAwaited l .read .read n && lastAwaited l .write .write n) = true := by
  decide +kernel
theorem witness_FillSectorIsMade :
    let g := { segment 7 .fill 256 1 256 100 with key := .fill }
    let t := { readAt 7 .scrub 256 256 with order := some 1, progress := 512, stage := .translated }
    (∀ n ∈ [63, 64], (lane .a (filling n)).inFlight = some g ∧ (lane .a (filling n)).state = .filling) ∧ g.direction = .fill ∧
      64 ≤ (filling 64).link.outbound.length ∧ (filling 63).link.outbound.length < 64 ∧ (lane .a (filling 63)).timer = none ∧
      g.done + 1 < g.count ∧ (entry (filling 63) g.key).key = some (.fill 1) ∧ (entry (filling 63) g.key).epoch = g.epoch ∧
      transfer (filling 63) g.tag = some t ∧ t.processed + 1 + t.refused < t.count ∧ (lane .a (filling 63)).queue = [] ∧
      (let f := { g with done := 255 }
       let s := setLane .a { lane .a (filling 63) with inFlight := some f } (filling 63)
       (lane .a s).inFlight = some f ∧ (lane .a s).state = .filling ∧ f.done + 1 = f.count ∧ (lane .a s).queue = [] ∧
         s.link.outbound.length < 64 ∧ transfer s f.tag = some t) := by decide +kernel

/-- A READ segment under way; the sector one past its end, and every sector of a WRITE, match nothing. -/
theorem witness_UnmatchedSectorDiscarded :
    let s := underWay .a .read .read
    LinkTakes s ∧
    (∀ l g, (lane l s).inFlight = some g → (lane l s).state = .awaiting → g.direction = .read → g.tag = 12 →
      ∀ i, i < g.count → (1000003 : BitVec 48).toNat ≠ g.media + i * g.stride) ∧
    (∀ l g, (lane l s).inFlight = some g → (lane l s).state = .awaiting → g.direction = .write → g.tag = 12 →
      ∀ i, i < g.count → (1000003 : BitVec 48).toNat ≠ g.drive + i * g.stride) ∧
    ∀ l g, (lane l s).inFlight = some g → 0 < g.stride := by
  have ha : (lane .a (underWay .a .read .read)).inFlight = some (segment 12 .read 1000000 1 3 1) := by decide +kernel
  have hb : (lane .b (underWay .a .read .read)).inFlight = none := by decide +kernel
  refine ⟨by unfold LinkTakes; decide +kernel, ?_, ?_, ?_⟩ <;> intro l g h <;> cases l <;>
    first
    | (rw [hb] at h; cases h)
    | (rw [ha] at h; cases h; decide +kernel)
/-- A sector of the segment under way that is not the awaited one, address 1,000,002. -/
def outOfOrder (l : LaneId) (d : Direction) (k : Kind) : Bool :=
  let g := segment 12 d 1000000 1 3 1
  let s := underWay l d k
  decide ((lane l s).inFlight = some g) && decide ((lane l s).state = .awaiting) && (lane l s).queue.isEmpty &&
    0 < g.stride && ((transfer s g.tag).any fun t => t.order.isNone) &&
    (decide (l = .a) || (matching .a g.direction g.tag 1000002 s).isNone) && decide (2 < g.count) && decide (2 ≠ g.done) &&
    decide (g.media + 2 * g.stride = 1000002) && decide (g.drive + 2 * g.stride = 1000002)

theorem witness_UnmatchedSectorDiscarded_order :
    ([LaneId.a, .b].all fun l => outOfOrder l .read .read && outOfOrder l .write .write) = true := by decide +kernel
theorem witness_DataTimeoutEndsSegment : (∀ l ∈ [LaneId.a, .b],
    let g := segment 12 .read 1000000 1 3 1
    let s := setLane l (awaiting g 0) (underWay l .read .read)
    (lane l s).inFlight = some g ∧ (lane l s).state = .awaiting ∧ (lane l s).timer = some 0 ∧ (lane l s).queue = [] ∧
      (transfer s g.tag).isSome = true ∧ (transfer s g.tag).bind Transfer.order = none ∧
      (lane l (underWay l .read .read)).timer ≠ some 0) ∧
    ∀ l ∈ [LaneId.a, .b],
      let g := { segment 12 .read 1100000 1 3 1 with key := .band 3 }
      let s := setLane l (awaiting g 9) (underWay l .read .read)
      linkUp s = true ∧ (lane l s).inFlight = some g ∧ (lane l s).queue = [] ∧
        (∀ j ∈ [LaneId.a, .b], j ≠ l → (lane j s).inFlight = none ∧ (lane j s).queue = []) ∧ g.key = .band 3 ∧
        lockActs s 3 = true ∧ (record s 3).relock.getLsbD 0 = true ∧ (record s 3).rle = true ∧ closed (flags s 3) = false ∧
        (transfer s g.tag).isSome = true ∧ (transfer s g.tag).bind Transfer.order = none := by decide +kernel
theorem witness_CompletionAccountsForEverySector :
    let s := underWay .a .read .read
    let t := { readAt 12 .read 1000000 3 with progress := 1000003, processed := 1, stage := .translated }
    transfer s 12 = some t ∧ t.order = none ∧ t.stage ≠ .completing ∧ t.processed + t.refused + 2 = t.count ∧
      t.processed + t.refused + 1 ≠ t.count := by decide +kernel
theorem witness_ScrubRefusalClosesItsOrder : LinkTakes scrubbing ∧
    (∀ i : OrderSlot, (1 : Byte).toNat = i.val → ∀ x, scrubbing.wipe.orders.get i = some x → x.answered = true) ∧
    (∀ i : OrderSlot, (4 : Byte).toNat = i.val → ∀ x, scrubbing.wipe.orders.get i = some x → x.answered = true) ∧
    (3 : Byte).toNat = (3 : OrderSlot).val ∧
    scrubbing.wipe.orders.get 3 = some { pass := 1, first := 768, count := 256, answered := false } ∧
    scrubbing.wipe.running = true ∧ scrubbing.wipe.issuePoint < scrubEnd scrubbing ∧
    ∀ j : OrderSlot, j ≠ 3 → (scrubbing.wipe.orders.get j).isSome = true := by
  have h1 : scrubbing.wipe.orders.get 1 = some { pass := 1, first := 256, count := 256, answered := true } := by decide +kernel
  refine ⟨by unfold LinkTakes; decide +kernel, ?_, ?_, by decide +kernel⟩
  · intro i hi x hx
    have : i = 1 := by apply Fin.ext; exact hi.symm
    subst this; rw [h1] at hx; cases hx; rfl
  · intro i hi; exfalso; have := i.isLt; simp at hi; omega

/-- A scrub whose last open order is slot 0's, the issue point at E. -/
def lastOrder (p : Plan) : State :=
  { scrubbing with
    w := { scrubbing.w with plan := p },
    wipe := { scrubbing.wipe with
      issuePoint := 2131072,
      orders := put (Vector.replicate 4 none) 0 (some { pass := 1, first := 2130816, count := 256, answered := false }) } }

theorem witness_ScrubRefusalClosesItsOrder_end : (∀ p, ScrubInWiping (lastOrder p) ∧ (lastOrder p).w.plan = p) ∧
    let s := lastOrder { Plan.blank with cause := some .owner, phase := .scrub, passes := .times 1, pass := 1 }
    LinkTakes s ∧ s.wipe.orders.get 0 = some { pass := 1, first := 2130816, count := 256, answered := false } ∧
      s.wipe.running = true ∧ scrubEnd s ≤ s.wipe.issuePoint ∧ (∀ j : OrderSlot, j ≠ 0 → s.wipe.orders.get j = none) := by
  refine ⟨fun _ => ⟨atWork _ rfl rfl (.inr rfl) fun _ => rfl, rfl⟩, ?_⟩
  unfold LinkTakes; decide +kernel

/-- The requests of the statements below: one for each kind that presents a secret over the link, all well formed. -/
def secretRequests : List Instr :=
  [.unlock 1 (some 2) (some 9) (some { bands := 8, directions := 3 }),
   .setCred 1 (some 9) (some { target := 2, hard := 3, free := 2, base := 1, cap := 60 }) (some 4),
   .setCred 1 (some 9) (some { target := 0, hard := 8, free := 0, base := 60, cap := 86400 }) (some 4),
   .grant 1 (some 9) (some { target := 7, bands := 8 }) (some 9), .revoke 1 (some 9) (some { target := 1, bands := 65535 }),
   .bandSet 1 (some 9) (some { band := 3, enables := 3, relock := 1, start := 1048576, length := 551424 }),
   .bandErase 1 (some 9) (some 15), .driveSet 1 (some 9) none (some { length := 8, band := 1 }) none, .coverOpen 1 (some 9),
   .watchArm 1 (some 9) (some { indicators := 8, period := 0, grace := 0, action := 0, passes := 0, budget := 4 }),
   .wipeNow 1 (some 9) (some 1)]

/-- The hypotheses of ChargeBeforeVerify. -/
def charges (c : Instr) (s : State) : Bool :=
  match requestOf c with
  | some (p, e) =>
    match slotPresented e.body with
    | some i =>
      linkUp s && s.link.inbound.isEmpty && s.link.outbound.length < 64 && (box p s).isNone &&
        (mailboxCheck p e.body s).isNone && (ownerCheck e.body s).isNone && (flowRefusal e.body i s).isNone &&
        count s i < (cred s i).hard
    | none => false
  | none => false

/-- The ADMIN slot at its hard limit. -/
def saturatedSlot : State :=
  { ready with w := { working with counts := put working.counts 0 32, creds := put working.creds 0 { credSet 0 with hard := 32 } } }

theorem witness_ChargeBeforeVerify : secretRequests.all (fun c => charges c ready) = true ∧
    charges (.tokenUnlock 1 (some 9) (some { bands := 8, directions := 3 })) ready = true ∧
    charges (.watchDisarm 1 (some 9)) (watched .armed policy ready) = true ∧
    charges (.watchRecover 1 (some 9)) (watched .alarm policy ready) = true ∧
    charges (.remoteWipe 1 (some 9)) (watched .armed policy ready) = true ∧
    charges (.scrubStop 1 (some 9)) scrubbing = true ∧ (∀ t : Theft, ScrubInWiping (watched t policy ready)) ∧
    ScrubInWiping scrubbing := by
  refine ⟨by decide +kernel, by decide +kernel, by decide +kernel, by decide +kernel, by decide +kernel, by decide +kernel,
    fun _ => calm _ rfl rfl rfl rfl, atWork _ rfl rfl (.inr rfl) fun _ => rfl⟩
theorem witness_ChargeBeforeVerify_flow :
    (count saturatedSlot 0 = (cred saturatedSlot 0).hard ∧ LinkTakes saturatedSlot ∧ saturatedSlot.linkBox = none ∧
      mailboxCheck .link (.coverOpen (some 9)) saturatedSlot = none ∧ ownerCheck (.coverOpen (some 9)) saturatedSlot = none ∧
      flowRefusal (.coverOpen (some 9)) 0 saturatedSlot = none) ∧
    slotPresented (.coverOpen (some 9)) = some 0 ∧ slotPresented (.unlock (some 2) (some 9) none) = some 2 ∧
    theft (watched .alarm policy ready) = .alarm ∧ theft (watched .wiping policy ready) = .wiping ∧
    theft (watched .wiped policy ready) = .wiped ∧ theft ready = .dormant := by unfold LinkTakes; decide +kernel
theorem witness_RefusalCostsNothing :
    requestOf (.coverOpen 1 (some 8)) = some (.link, { id := 1, body := .coverOpen (some 8) }) ∧ PortTakes .link ready ∧
    box .link { ready with linkBox := some (heldBy .coverClose) } ≠ none ∧ box .link ready = none ∧
    mailboxCheck .link (.coverOpen (some 8)) (watched .wiping policy ready) = some .denied ∧
    mailboxCheck .link (.coverOpen (some 8)) ready = none ∧
    ownerCheck (.bandErase (some 9) (some 16)) ready = some .badArgument ∧ ownerCheck (.coverOpen (some 8)) ready = none ∧
    slotPresented (.coverOpen (some 8)) = some 0 ∧
    flowRefusal (.coverOpen (some 8)) 0 { ready with backoff := put ready.backoff 0 1 } = some .wait := by
  unfold PortTakes LinkTakes; decide +kernel
theorem witness_PlainRequestsAct :
    LinkTakes ready ∧ ready.linkBox = none ∧ theft ready ≠ .wiping ∧ (∀ p : Port, PortTakes p ready ∧ box p ready = none) ∧
    (let s := { ready with w := { working with creds := put working.creds 0 { credSet 0 with state := .blank } } }
     LinkTakes s ∧ s.linkBox = none ∧ theft s ≠ .wiping ∧ theft s ≠ .alarm ∧ (cred s 0).state = .blank ∧ (4 : Secret) ≠ 0 ∧
       s.supplyOk = true ∧ s.entropyFailed = false) := by
  refine ⟨by unfold LinkTakes; decide +kernel, by decide +kernel, by decide +kernel, ?_, by unfold LinkTakes; decide +kernel⟩
  intro p
  cases p <;> exact ⟨by simp only [PortTakes]; first | (unfold LinkTakes; decide +kernel) | decide +kernel, by decide +kernel⟩
theorem witness_RevertWipesUnderItsCode : LinkTakes ready ∧ ready.linkBox = none ∧ theft ready ≠ .wiping ∧
    ready.supplyOk = true ∧ (76 : Secret) ≠ ready.w.identity.revertCode ∧ (77 : Secret) = ready.w.identity.revertCode ∧
    ScrubInWiping ready :=
  ⟨⟨rfl, rfl, by decide⟩, rfl, by decide, rfl, by decide, by decide, calm _ rfl rfl rfl rfl⟩
theorem witness_BackoffDelayFormula :
    3 ≤ figures.free ∧ figures.free < 4 ∧ ((1 : SlotId) ≠ 0 ∨ 4 < figures.hard) ∧ 4 - figures.free - 1 < 17 ∧
      17 ≤ 21 - figures.free - 1 ∧ (credSet 0).free < 32 ∧ (credSet 0).hard ≤ 32 ∧ ready.held = none := by decide +kernel

/-- A verify job runs for a request of the link with the right secret or the wrong one. -/
def verifying (body : Body) (s : State) : State := linkJob .verify body s

theorem witness_MismatchHasNoEffectOfItsKind : ∀ n : Nat,
    let body := Body.unlock (some 2) (some 8) (some { bands := 8, directions := 3 })
    let s := verifying body { ready with w := { working with counts := put working.counts 2 n } }
    Running .link .verify (heldBy body) s ∧ slotPresented (heldBy body).env.body = some 2 ∧ (cred s 2).state ≠ .empty ∧
      verifies (cred s 2) (secretPresented body) = false ∧ ScrubInWiping s :=
  fun _ => ⟨⟨rfl, rfl⟩, rfl, show SlotState.set ≠ .empty by decide, rfl, calm _ rfl rfl rfl rfl⟩

/-- The hypotheses that the statements of a match share, for a body and the state its job runs in. -/
def matched (body : Body) (s : State) : Bool :=
  match slotPresented body with
  | some i =>
    decide ((verifying body s).engine.running = some (.mailbox .link, .verify)) &&
      decide (box .link (verifying body s) = some (heldBy body)) && decide ((cred (verifying body s) i).state ≠ .empty) &&
      verifies (cred (verifying body s) i) (secretPresented body) && !(verifying body s).entropyFailed
  | none => false

theorem witness_MatchActsByKind : ScrubInWiping ready ∧ ∀ body ∈
    [Body.unlock (some 1) (some 9) (some { bands := 8, directions := 3 }), .tokenUnlock (some 9) (some { bands := 8, directions := 1 }),
     .coverOpen (some 9), .revoke (some 9) (some { target := 2, bands := 8 }),
     .setCred (some 9) (some { target := 2, hard := 10, free := 3, base := 1, cap := 60 }) none,
     .setCred (some 9) (some { target := 0, hard := 10, free := 3, base := 1, cap := 60 }) (some 4),
     .grant (some 9) (some { target := 2, bands := 8 }) (some 9),
     .bandSet (some 9) (some { band := 1, enables := 3, relock := 0, start := 409600, length := 204800 }), ranging,
     .bandErase (some 9) (some 5)], matched body ready = true :=
  ⟨calm _ rfl rfl rfl rfl, by decide +kernel⟩
theorem witness_DriveSetStoresItsGroups :
    matched (.driveSet (some 9) (some { mode := 2, split := 1000000 }) (some { length := 8, band := 1 })
      (some { period := 64, tolerance := 1, filter := 2 })) ready = true ∧
    matched (.driveSet (some 9) none none (some { period := 0, tolerance := 0, filter := 0 })) ready = true ∧
    theft ready = .dormant := by decide +kernel
/-- Between two passes. -/
def passing : State :=
  { scrubbing with
    keys := KeyTable.powerOn,
    wipe := { scrubbing.wipe with activity := .fillJob, running := false, orders := Vector.replicate 4 none },
    engine := { Engine.idle with wipe := some .fillKey } }

theorem witness_MatchedWatchRequests :
    (∀ t : Theft, ScrubInWiping (watched t policy ready)) ∧ ScrubInWiping scrubbing ∧ ScrubInWiping passing ∧
    matched (.scrubStop (some 9)) passing = true ∧ theft passing = .wiping ∧ passing.w.plan.phase = .scrub ∧
    passing.wipe.running = false ∧ passing.w.plan.stop = false ∧
    matched (.watchArm (some 9)
      (some { indicators := 9, period := 0, grace := 0, action := 0, passes := 0, budget := 4 })) ready = true ∧
    theft ready = .dormant ∧ (cred ready 7).state = .set ∧ ready.twu.tetherLost = false ∧ failureSum ready < 4 ∧
    matched (.watchDisarm (some 9)) (watched .armed policy ready) = true ∧
    matched (.remoteWipe (some 9)) (watched .alarm policy ready) = true ∧
    (∀ n ∈ [0, 1, 2, 3], (passesOf n).isSome = true ∧ matched (.wipeNow (some 9) (some n)) (watched .wiped policy ready) = true) ∧
    matched (.scrubStop (some 9)) scrubbing = true ∧ theft scrubbing = .wiping ∧ scrubbing.w.plan.phase = .scrub ∧
    scrubbing.wipe.running = true := by
  refine ⟨fun _ => calm _ rfl rfl rfl rfl, atWork _ rfl rfl (.inr rfl) fun _ => rfl, atWork _ rfl rfl (.inl rfl) nofun, ?_⟩
  decide +kernel
theorem witness_RecoverLeavesAlarm :
    let s := verifying (.watchRecover (some 9)) (watched .alarm policy ready)
    matched (.watchRecover (some 9)) (watched .alarm policy ready) = true ∧ theft s = .alarm ∧ ScrubInWiping s ∧
      linkUp s = true := ⟨by decide +kernel, rfl, calm _ rfl rfl rfl rfl, rfl⟩
theorem witness_UnlockOpensGrantedBands :
    let body := Body.unlock (some 1) (some 9) (some { bands := 8, directions := 1 })
    let ws : List (BandId × Wrap) := [(3, { key := 11, under := .credential 9 5 })]
    ∀ t ∈ [Theft.dormant, .alarm],
      let s := linkJob (.unlock 5 ws) body (watched t policy relocked)
      Running .link (.unlock 5 ws) (heldBy body) s ∧ noOrders s = true ∧ (ws.map Prod.fst).Nodup ∧
        (t = .dormant → barred s = false ∧ (flags s 3).held = false ∧ s.w.secrets.get 3 = some 3) ∧
        (t = .alarm → barred s = true) := by unfold Running; decide +kernel
theorem witness_OwnSetsTheAdminSlot :
    let s := linkJob .own (.own (some 4)) ready
    Running .link .own (heldBy (.own (some 4))) s ∧ s.entropyFailed = false ∧ ScrubInWiping s ∧ theft s = .dormant :=
  ⟨⟨rfl, rfl⟩, rfl, calm _ rfl rfl rfl rfl, rfl⟩
/-- A SET_CRED and a GRANT under way. -/
def setting (target : Byte) : Body :=
  .setCred (some 9) (some { target := target, hard := 10, free := 3, base := 1, cap := 60 }) (some 4)
def granting (secret : Secret) : Body := .grant (some 9) (some { target := 2, bands := 8 }) (some secret)

theorem witness_CredentialJobsReplaceRows :
    Running .link .setCred (heldBy (setting 2)) (linkJob .setCred (setting 2) ready) ∧ slotOf 2 = 2 ∧
    Running .link .setCredAdmin (heldBy (setting 0)) (linkJob .setCredAdmin (setting 0) ready) ∧ slotOf 0 = 0 ∧
    Running .link .grant (heldBy (granting 8)) (linkJob .grant (granting 8) ready) ∧ verifies (cred ready 2) 8 = false ∧
    Running .link .grant (heldBy (granting 9)) (linkJob .grant (granting 9) ready) ∧ verifies (cred ready 2) 9 = true ∧
    (cred ready 2).state = .set ∧ ready.entropyFailed = false ∧ ScrubInWiping ready := by
  refine ⟨⟨rfl, rfl⟩, by decide, ⟨rfl, rfl⟩, by decide, ⟨rfl, rfl⟩, by decide +kernel, ⟨rfl, rfl⟩, by decide +kernel,
    by decide +kernel, rfl, calm _ rfl rfl rfl rfl⟩
theorem witness_BandSetTakesItsSettings : ∀ e ∈ [(0 : Byte), 3],
    let body := Body.bandSet (some 9) (some { band := 1, enables := e, relock := 0, start := 409600, length := 204800 })
    let s := linkJob .bandSet body ready
    Running .link .bandSet (heldBy body) s ∧ noOrders s = true ∧ bandNo 1 = 1 ∧ barred s = false ∧
      s.w.secrets.get 1 = some 3 ∧ (record s 1).rle = false := by unfold Running; decide +kernel
theorem witness_ReplacedSecretHoldsTheBand :
    noOrders ready = true ∧ ready.entropyFailed = false ∧
    Running .link .bandSetRange (heldBy ranging) (linkJob .bandSetRange ranging ready) ∧
    Running .link .bandErase (heldBy (.bandErase (some 9) (some 5)))
      (linkJob .bandErase (.bandErase (some 9) (some 5)) ready) ∧
    bandSetCheck { band := 3, enables := 3, relock := 1, start := 1048576, length := 524288 } ready = none ∧ RangesApart ready := by
  refine ⟨by decide +kernel, rfl, ⟨rfl, rfl⟩, ⟨rfl, rfl⟩, by decide +kernel, by unfold RangesApart; decide +kernel⟩
/-- No key is present; the enables of band 3 close it and those of band 1 leave it open. -/
theorem witness_ReplacedSecretHoldsTheBand_written :
    let s := { ready with keys := { ready.keys with bands := Vector.replicate 16 { key := none, epoch := 2 } } }
    noOrders s = true ∧ present s (.band 1) = false ∧ present s (.band 3) = false ∧ (record s 3).rle = true ∧
      (record s 1).rle = false ∧ barred s = false ∧ hasSecret s 1 = true ∧ barred (watched .alarm policy s) = true := by
  decide +kernel
theorem witness_OpenLoadsAreApplied :
    ScrubInWiping (linkJob .recover (.watchRecover (some 9)) pendingBand) ∧ barred pendingBand = false ∧
    Running .link .recover (heldBy (.watchRecover (some 9))) (linkJob .recover (.watchRecover (some 9)) pendingBand) ∧
    (flags pendingBand 1).pendingLoad = true ∧ (openKey pendingBand 1).isSome = true ∧ (record pendingBand 1).rle = false ∧
    present pendingBand (.band 1) = false ∧
    (let s : State := { pendingBand with engine := { Engine.idle with running := some (.wipe, .openLoad) } }
     s.engine.running = some (.wipe, .openLoad) ∧ ScrubInWiping s) :=
  ⟨calm _ rfl rfl rfl rfl, by decide +kernel, ⟨rfl, rfl⟩, by decide +kernel, by decide +kernel, by decide +kernel,
    by decide +kernel, rfl, calm _ rfl rfl rfl rfl⟩
theorem witness_CheckinComparesTheToken :
    linkUp { ready with twu := { ready.twu with status := .pending } } = true ∧
    (let s := watched .armed policy ready
     linkUp s = true ∧ s.twu.status ≠ .pending ∧ theft s = .armed ∧ (cred s 7).state = .set ∧ backoffOf s 7 = 0 ∧
       s.supplyOk = true) ∧
    ∀ n : Nat, n < 16 → ∀ token : Secret,
      let s := { watched .armed policy ready with
        w := { (watched .armed policy ready).w with counts := put working.counts 7 n },
        engine := { Engine.idle with running := some (.compare, .compare token) } }
      s.engine.running = some (.compare, .compare token) ∧ theft s = .armed ∧ (cred s 7).state = .set ∧ ScrubInWiping s ∧
        verifies (cred s 7) 9 = true ∧ verifies (cred s 7) 8 = false ∧ count s 7 < (cred s 7).hard :=
  ⟨rfl, by decide +kernel, fun n h _ => ⟨rfl, rfl, rfl, calm _ rfl rfl rfl rfl, rfl, rfl, show n < 16 from h⟩⟩
/-- The states of the check-in rows: DORMANT, the slot EMPTY, in its backoff, the supply WARN; and start-up. -/
theorem witness_CheckinComparesTheToken_rows :
    let s := watched .armed policy ready
    theft ready = .dormant ∧
    (cred { s with w := { s.w with creds := put s.w.creds 7 (Credential.fresh 7 .empty) } } 7).state = .empty ∧
    (cred s 7).state = .set ∧ 0 < backoffOf { s with backoff := put s.backoff 7 9 } 7 ∧
    ({ s with supplyOk := false } : State).supplyOk = false ∧ linkUp startingUp = false ∧ sidebandOn startingUp = true := by
  decide +kernel
/-- The Wipe Engine in an activity, the store and the mailboxes at rest. -/
def wiping (a : WipeActivity) : State :=
  { watched .wiping policy ready with wipe := { ready.wipe with activity := a } }

/-- The Wipe Engine in an activity, with a page of its own on the room wait list. -/
def crowded (a : WipeActivity) : State :=
  { wiping a with ks := { ready.ks with
      writer := some { page := 3, content := none, waiters := [] },
      queue := (tab16 fun b => { page := ⟨5 + b.val, by omega⟩, waiters := [] }).toList,
      room := [{ page := 2, waiters := [.wipe] }] } }

theorem witness_WipeMoves : (∀ a, WipeMoves (wiping a) ∧ waits .wipe (wiping a) = false ∧
      waitsFor .wipe watchPage (wiping a) = false ∧ wipeBusy (wiping a) = false ∧ listsWaiter (wiping a).ks.room .wipe = false ∧
      startedIn .link (wiping a) = false ∧ startedIn .side (wiping a) = false ∧ (wiping a).wipe.activity = a) ∧
    (∀ a, a ≠ .scanning → ScrubInWiping (wiping a)) ∧
    ∀ a, WipeMoves (crowded a) ∧ ScrubInWiping (crowded a) ∧ listsWaiter (crowded a).ks.room .wipe = true ∧
      waits .wipe (crowded a) = true :=
  ⟨fun _ => ⟨⟨by rfl, by rfl, by rfl⟩, by rfl, by rfl, by rfl, by rfl, by rfl, by rfl, rfl⟩,
    fun _ _ => atWork _ rfl rfl (.inl rfl) nofun,
    fun _ => ⟨⟨by rfl, by rfl, by rfl⟩, atWork _ rfl rfl (.inl rfl) nofun, by rfl, by rfl⟩⟩
theorem witness_RootSecretIsReplaced :
    (∀ x ∈ [(Job.root, WipeActivity.rootJob), (.rebuildRoot, .rebuildRootJob), (.coverZero, .coverZeroJob)],
      let s := wipeJob x.1 x.2 ready
      s.engine.running = some (.wipe, x.1) ∧ s.wipe.activity = x.2 ∧ s.entropyFailed = false ∧ s.engine.wipe = none) ∧
    reference (wipeJob .root .rootJob ready) rootPage ≠ some (.root 41) := by decide +kernel
theorem witness_RebuildBlanksSlotsAndBands :
    (let s := wipeJob .rebuildAdmin .rebuildAdminJob ready
     s.engine.running = some (.wipe, .rebuildAdmin) ∧ s.wipe.activity = .rebuildAdminJob ∧ s.entropyFailed = false ∧
       theft s = .wiping) ∧
    ∀ b ∈ [(0 : BandId), 14, 15],
      let s := wipeJob (.rebuildBand b) (.rebuildBandJob b) ready
      s.engine.running = some (.wipe, .rebuildBand b) ∧ s.wipe.activity = .rebuildBandJob b ∧ s.entropyFailed = false := by
  decide +kernel
theorem witness_FillKeyBeginsThePass :
    let s := wipeJob .fillKey .fillJob ready
    s.engine.running = some (.wipe, .fillKey) ∧ s.wipe.activity = .fillJob ∧ s.entropyFailed = false ∧ linkUp s = true ∧
      noOrders s = true := by decide +kernel
/-- The fill job of a pass resumed at a watermark. -/
def resumedAt (n : Nat) : State :=
  let s := wipeJob .fillKey .fillJob ready
  { s with w := { s.w with plan := { s.w.plan with watermark := n } } }

theorem witness_FillKeyBeginsThePass_end : ∀ n, (resumedAt n).engine.running = some (.wipe, .fillKey) ∧
    (resumedAt n).wipe.activity = .fillJob ∧ (resumedAt n).entropyFailed = false ∧ ScrubInWiping (resumedAt n) ∧
    (resumedAt n).w.plan.watermark = n ∧ scrubEnd (resumedAt 0) = 2131072 :=
  fun _ => ⟨rfl, rfl, rfl, atWork _ rfl rfl (.inl rfl) nofun, rfl, by decide +kernel⟩

/-- A queue whose first page stands in the store as it is, and whose second does not. -/
def queued : State :=
  { ready with ks := { ready.ks with
      pages := put ready.ks.pages 47 (.intact (.attempt 0)),
      queue := [{ page := 47, waiters := [] }, { page := 46, waiters := [.wipe] }, { page := 45, waiters := [] }] } }

theorem witness_WriteCompletes_writer : queued.linkBox = none ∧ queued.sideBox = none ∧ queued.wipe.activity = .idle ∧
    engineQuiet queued = true ∧ queued.ks.writer = none ∧ queued.supplyOk = true ∧
    pageOf queued 47 = committed queued 47 ∧ pageOf queued 46 ≠ committed queued 46 := by decide +kernel
theorem witness_WriteCompletes : ∀ m ∈ [Mode.ready, .writerWait],
    let x : Writing := { page := 47, content := some (.attempt 6), waiters := [] }
    let s := { ready with
      mode := m,
      ks := { ready.ks with
        pages := put ready.ks.pages 0 (.intact (.identity working.identity)), writer := some x } }
    s.ks.writer = some x ∧ s.mode = m ∧ x.page ≠ 0 ∧ s.ks.pages.get 0 = .intact (.identity working.identity) := by decide +kernel
theorem witness_LocksLockTheirBands : ScrubInWiping ready ∧ LinkTakes ready ∧ ready.linkBox = none ∧ theft ready ≠ .wiping ∧
    65536 ≤ (65536 : BitVec 32).toNat ∧ (65535 : BitVec 32).toNat < 65536 ∧ linkUp ready = true ∧ noOrders ready = true ∧
    LinkTakes scrubbing ∧ scrubbing.linkBox = none ∧ theft scrubbing = .wiping ∧ linkUp startingUp = false ∧
    sidebandOn startingUp = true := by
  refine ⟨calm _ rfl rfl rfl rfl, ?_⟩
  unfold LinkTakes; decide +kernel

/-- The pointer at the ends of each range of locations. -/
def pointed (v : Byte) : State := { ready with psp := { ready.psp with pointer := v } }

theorem witness_WindowWrites : sidebandOn State.reset = true ∧ sidebandOn { State.reset with mode := .off } = false ∧
    sidebandOn ready = true ∧ (pointed 0x10).psp.pointer.toNat = 0x10 + (0 : Fin 32).val ∧
    (pointed 0x2F).psp.pointer.toNat = 0x10 + (31 : Fin 32).val ∧ (pointed 0x80).psp.pointer.toNat = 0x80 + (0 : Fin 64).val ∧
    (pointed 0xBF).psp.pointer.toNat = 0x80 + (63 : Fin 64).val ∧ (pointed 6).psp.pointer.toNat < 7 ∧
    9 ≤ (pointed 9).psp.pointer.toNat ∧ 0x30 ≤ (pointed 0x30).psp.pointer.toNat ∧ (pointed 0x6F).psp.pointer.toNat < 0x70 ∧
    0x72 ≤ (pointed 0x72).psp.pointer.toNat ∧ (pointed 0x7F).psp.pointer.toNat < 0x80 ∧
    0xC0 ≤ (pointed 0xC0).psp.pointer.toNat := by decide +kernel
theorem witness_WindowReads : sidebandOn ready = true ∧ itemAt (pointed 0x78).psp.pointer.toNat = some (.header, 0) ∧
    itemAt (pointed 0x7F).psp.pointer.toNat = some (.header, 7) ∧
    ({ pointed 0x7F with psp := { (pointed 0x7F).psp with latch := some (.header, [7, 2, 1, 0, 0, 0, 8, 0]) } } : State).psp.latch =
      some (.header, [7, 2, 1, 0, 0, 0, 8, 0]) ∧
    (∀ xs, (pointed 0x7F).psp.latch ≠ some (.header, xs)) ∧ linkUp ready = true ∧ linkUp startingUp = false ∧
    sidebandOn startingUp = true := by
  refine ⟨by decide +kernel, by decide +kernel, by decide +kernel, by decide +kernel, fun _ => nofun, rfl, rfl, by decide +kernel⟩

/-! ### The clauses of ticks, of failed draws, of the inbound hold, of lane plans and of the submit byte -/

/-- A request that waits for its band secret page while a job runs, with `n` pages queued behind a write. -/
def replacing (body : Body) (n : Nat) : State :=
  { ready with
    linkBox := some { heldBy body with stage := .secretWrite (.media 7 11 31) none },
    engine := { Engine.idle with running := some (.compare, .compare 9) },
    ks := { ready.ks with
      writer := some { page := 38, content := none, waiters := [] },
      queue := (tab16 fun b => { page := ⟨21 + b.val, by omega⟩, waiters := [] }).toList.take n } }

theorem witness_QuietSettles_secret : (∀ n ∈ [0, 16],
    let s := replacing ranging n
    storeQuiet s = true ∧ boxQuiet .side s = true ∧ s.wipe.activity = .idle ∧ s.wipe.toHand = none ∧
      s.engine.running.isSome = true ∧ waits (.request .link) s = false ∧ noOrders s = true ∧
      roomClear (roomTouched s (secretWritten ranging (.media 7 11 31) none s)) (secretWritten ranging (.media 7 11 31) none s) =
        decide (n = 0)) := by decide +kernel

/-- Start-up's draw job runs, with the secret of band 2 lost. -/
def drawing : State :=
  { startingUp with
    w := { working with secrets := put working.secrets 2 none },
    bands := put ready.bands 2 { openFlags with readLocked := true, writeLocked := true },
    engine := { Engine.idle with running := some (.startup, .startupDraw) } }

theorem witness_FirstStartOpensEveryBand_lost : drawing.engine.running = some (.startup, .startupDraw) ∧
    drawing.startup.firstStart = false ∧ drawing.entropyFailed = false ∧ bareBands drawing = [2] ∧ drawing.link.outbound = [] ∧
    hasSecret drawing 1 = true ∧ barred drawing = false ∧ (record drawing 2).rle = false ∧
    present { drawing with keys := KeyTable.powerOn } (.band 2) = false ∧ (record drawing 2).openWrap.isSome = true ∧
    (none : Draw) ∈ [none] ∧ [(none : Draw)].length = (bareBands drawing).length := by decide +kernel
theorem witness_FirstStartOpensEveryBand_entropy :
    firstStart.engine.running = some (.startup, .startupDraw) ∧ firstStart.startup.firstStart = true ∧
    firstStart.link.outbound = [] ∧ (none : Draw) ∈ List.replicate 34 none ∧ (List.replicate 34 (none : Draw)).length = 34 ∧
    (let s := lineReset none (put (Vector.replicate 53 .blank) 0 (.intact (.identity working.identity)))
     s.mode = .resetHeld ∧ s.supplySeenOk = true ∧ s.ks.writer = none ∧
       s.ks.pages.get 0 = .intact (.identity working.identity) ∧ (∀ p : PageId, p ≠ 0 → s.ks.pages.get p = .blank) ∧
       ScrubInWiping s) :=
  ⟨rfl, rfl, rfl, by decide, rfl, rfl, rfl, rfl, by decide +kernel, by decide +kernel, atReset _ _⟩

/-- What the clauses of a TICK ask: ready, no lane timer at its end, no check-in due. -/
def ticks (meter : Bool) (s : State) : Bool :=
  decide (s.mode = .ready) && s.twu.meterOn == meter && !timedOut .a s && !timedOut .b s && !checkinAsserted s

theorem witness_TickFiltersTamperAndGrace_tick : ticks false ready = true ∧ theft ready = .dormant ∧
    (let s := { watched .armed policy ready with twu := { ready.twu with tamperOpposite := true } }
     ticks false s = true ∧ theft s = .armed ∧ s.w.watch.policy = some policy ∧ inSet policy.enabled .tamper = true ∧
       policy.graceSeconds ≠ 0 ∧ s.w.watch.latch = false ∧ s.twu.tamperOpen = false ∧ s.twu.tamperOpposite = true) ∧
    ∀ n ∈ [1, 589825, 589826],
      let s := { watched .suspect policy ready with twu := { ready.twu with grace := n } }
      ticks false s = true ∧ theft s = .suspect ∧ 0 < s.twu.grace := by decide +kernel
theorem witness_MissedCheckinSuspects_tick :
    let s := { watched .armed policy ready with twu := { ready.twu with counter := 32768 } }
    s.twu.meterOn = false ∧ timedOut .a s = false ∧ timedOut .b s = false := by decide +kernel
theorem witness_GraceEndsInAlarmOrWipe_tick : ∀ a : Action,
    let s := watched .suspect { policy with action := a } ready
    s.twu.meterOn = false ∧ timedOut .a s = false ∧ timedOut .b s = false :=
  fun _ => ⟨rfl, by rfl, by rfl⟩
theorem witness_TetherMeterSamples_tick : (∀ n ∈ [0, 65502, 65503], ∀ run ∈ [0, 3], ∀ lost,
    let s := { tethered n run with twu := { (tethered n run).twu with tetherLost := lost } }
    ticks true s = true ∧ theft s = .dormant ∧ s.divider ≤ 32) ∧
    (tethered 65502 0).twu.meterCount + (32 - (tethered 65502 0).divider) < 65535 ∧
    65535 ≤ (tethered 65503 3).twu.meterCount + (32 - (tethered 65503 3).divider) ∧
    ∀ n run, ScrubInWiping (tethered n run) := by
  refine ⟨by decide +kernel, by decide +kernel, by decide +kernel, fun _ _ => calm _ rfl rfl rfl rfl⟩
theorem witness_DataTimeoutEndsSegment_tick : ∀ l ∈ [LaneId.a, .b],
    let s := setLane l (awaiting (segment 12 .read 1000000 1 3 1) 0) (underWay l .read .read)
    s.mode = .ready ∧ s.twu.meterOn = false ∧ (∀ k ∈ [LaneId.a, .b], k ≠ l → timedOut k s = false) ∧ theft s ≠ .suspect ∧
      checkinAsserted s = false := by decide +kernel

/-- The outbound queue holds a number of messages, and a message of the front-end waits. -/
def keptBack (n : Nat) : State :=
  { ready with link := { ready.link with outbound := List.replicate n (.fetch 1 0 1 1), inbound := [.scrubRefuse 3] } }

theorem witness_SendTakesHead_hold : messageOf (.coverClose 1) = some (.request { id := 1, body := .coverClose }) ∧
    messageOf (.scrubRefuse 1) = some (.scrubRefuse 1) ∧ linkUp (keptBack 64) = true ∧
    64 ≤ (keptBack 64).link.outbound.length ∧ ready.link.outbound.length < 64 ∧ ready.link.inbound = [] ∧
    (keptBack 64).link.outbound = .fetch 1 0 1 1 :: List.replicate 63 (.fetch 1 0 1 1) ∧
    (keptBack 65).link.outbound = .fetch 1 0 1 1 :: List.replicate 64 (.fetch 1 0 1 1) ∧
    (keptBack 64).link.inbound = .scrubRefuse 3 :: [] ∧ linkUp (keptBack 65) = true := by decide +kernel

/-- Both lanes have a segment in flight and a number of segments queued. -/
def laden (n : Nat) (s : State) : State :=
  let l := { awaiting (segment 1 .read 0 1 4 0) 9 with queue := List.replicate n (segment 1 .read 0 1 4 0) }
  { s with laneA := l, laneB := l }

/-- The plan of a piece of band 3 in STRIPE: a share for each lane of each chunk. -/
def striped : List (LaneId × Segment) := lanePlan (readAt 17 .read 1100000 1024) (inMode .stripe 0 ready) (.band 3) 1024

theorem witness_AllowedPieceIsFetched_fill :
    let t := { readAt 7 .scrub 256 256 with order := some 1 }
    let s := translating t scrubbing
    s.stu.piece = none ∧ s.stu.current = some t.tag ∧ transfer s t.tag = some t ∧ t.kind = .scrub ∧ t.progress < transferEnd t ∧
      pieceEnd t s - t.progress ≤ 256 ∧ s.w.config.mode = .single ∧ s.laneA = Lane.idle ∧ present s .fill = true := by
  decide +kernel
theorem witness_AllowedPieceIsFetched_plan : (∀ n ∈ [0, 14, 15],
    let t := readAt 17 .read 1100000 1024
    let s := laden n (translating t (inMode .stripe 0 ready))
    s.stu.piece = none ∧ s.stu.current = some t.tag ∧ transfer s t.tag = some t ∧ decide33 t s = .allowed (.band 3) ∧
      t.progress < transferEnd t ∧ (lane .a s).inFlight.isSome = true ∧ (lane .b s).inFlight.isSome = true ∧
      pieceEnd t s - t.progress = 1024 ∧ lanePlan t s (.band 3) 1024 = striped ∧ (lane .a s).queue.length = n ∧
      (lane .b s).queue.length = n) ∧
    striped.map shape = [(.a, 1100000, 2, 256), (.b, 1100001, 2, 256), (.a, 1100512, 2, 256), (.b, 1100513, 2, 256)] ∧
    14 + (striped.filter fun y => y.1 = .a).length ≤ 16 ∧ 15 + ((striped.take 2).filter fun y => y.1 = .a).length = 16 ∧
    15 + ((striped.take 2).filter fun y => y.1 = .b).length ≤ 16 := by decide +kernel

/-- The last sector of a scrub transfer of order 0 on lane A. -/
def lastFill (s : State) : State :=
  { s with
    dq := [{ readAt 7 .scrub 0 256 with order := some 0, progress := 256, processed := 255, stage := .translated }],
    laneA := { queue := [], inFlight := some { segment 7 .fill 0 1 256 255 with key := .fill }, state := .filling,
               timer := none } }

/-- What the clause of a fill sector that closes its order asks, but for the other slots. -/
def closing (s : State) : Bool :=
  let g := { segment 7 .fill 0 1 256 255 with key := .fill }
  decide ((lane .a s).inFlight = some g) && decide ((lane .a s).state = .filling) && s.link.outbound.length < 64 && linkUp s &&
    (lane .a s).queue.isEmpty && decide ((entry s g.key).key = some (.fill 1)) && decide ((entry s g.key).epoch = g.epoch) &&
    ((transfer s g.tag).any fun t => decide (t.processed + 1 + t.refused = t.count) && decide (t.stage ≠ .completing) &&
      decide (t.order = some 0)) && (s.wipe.orders.get 0).isSome && s.wipe.running

theorem witness_FillSectorIsMade_closes :
    (closing (lastFill scrubbing) = true ∧ (lastFill scrubbing).wipe.issuePoint < scrubEnd (lastFill scrubbing) ∧
      ∀ j : OrderSlot, j ≠ 0 → ((lastFill scrubbing).wipe.orders.get j).isSome = true) ∧
    (∀ p, ScrubInWiping (lastFill (lastOrder p))) ∧
    let s := lastFill (lastOrder { Plan.blank with cause := some .owner, phase := .scrub, passes := .times 1, pass := 1 })
    closing s = true ∧ scrubEnd s ≤ s.wipe.issuePoint ∧ ∀ j : OrderSlot, j ≠ 0 → s.wipe.orders.get j = none :=
  ⟨by decide +kernel, fun _ => atWork _ rfl rfl (.inr rfl) fun _ => rfl, by decide +kernel⟩
theorem witness_PlainRequestsAct_own :
    LinkTakes (watched .alarm policy ready) ∧ theft (watched .alarm policy ready) = .alarm ∧ LinkTakes ready ∧
    ready.linkBox = none ∧ theft ready ≠ .wiping ∧ theft ready ≠ .alarm ∧ (cred ready 0).state ≠ .blank ∧
    let s := { ready with w := { working with creds := put working.creds 0 (Credential.fresh 0 .blank) } }
    LinkTakes s ∧ theft s ≠ .alarm ∧ (cred s 0).state = .blank ∧ ({ s with supplyOk := false } : State).supplyOk = false ∧
      s.supplyOk = true ∧ ({ s with entropyFailed := true } : State).entropyFailed = true := by
  unfold LinkTakes; decide +kernel
theorem witness_RevertWipesUnderItsCode_supply :
    let s := { ready with supplyOk := false }
    LinkTakes s ∧ s.linkBox = none ∧ theft s ≠ .wiping ∧ s.supplyOk = false := by unfold LinkTakes; decide +kernel
theorem witness_MatchActsByKind_entropy : ScrubInWiping { ready with entropyFailed := true } ∧
    (∀ body ∈ [Body.setCred (some 9) (some { target := 2, hard := 10, free := 3, base := 1, cap := 60 }) (some 4), ranging,
      .bandErase (some 9) (some 5), .bandSet (some 9) (some { band := 1, enables := 3, relock := 0, start := 409600, length := 204800 })],
      matched body ready = true) ∧
    rangeChange { band := 3, enables := 3, relock := 1, start := 1048576, length := 524288 } ready = true ∧
    rangeChange { band := 1, enables := 3, relock := 0, start := 409600, length := 204800 } ready = false :=
  ⟨calm _ rfl rfl rfl rfl, by decide +kernel⟩
theorem witness_ReplacedSecretHoldsTheBand_page :
    (∀ body ∈ [ranging, .bandErase (some 9) (some 5)],
      let s := replacing body 0
      s.ks.writer = some { page := 38, content := none, waiters := [] } ∧ s.ks.queue = [] ∧ s.ks.room = [] ∧
        s.mode ≠ .writerWait ∧ noOrders s = true ∧ s.wipe.activity = .idle ∧ s.wipe.toHand = none ∧ engineQuiet s = true ∧
        boxQuiet .side { s with ks := { s.ks with writer := none } } = true) ∧
    Running .link .setCred (heldBy (setting 2)) (linkJob .setCred (setting 2) ready) := ⟨by decide +kernel, rfl, rfl⟩

/-- The request buffer holds a kind, the pointer stands at the submit byte. -/
def submits (kind : Byte) (s : State) : State :=
  { s with psp := { s.psp with pointer := 0x70, buffer := put s.psp.buffer 2 kind } }

theorem witness_WindowWrites_submit : sidebandOn (pointed 7) = true ∧ (pointed 7).psp.pointer = 7 ∧
    (pointed 8).psp.pointer = 8 ∧ (pointed 0x71).psp.pointer = 0x71 ∧ (submits 0x14 ready).psp.pointer = 0x70 ∧
    sidebandOn (submits 0x14 ready) = true ∧ linkUp (submits 0x14 ready) = true ∧ linkUp (submits 0x14 startingUp) = false ∧
    sidebandOn (submits 0x14 startingUp) = true ∧
    requestOf (.statusQuery .side 0) = some (.side, bufferEnvelope (submits 0x14 ready)) ∧
    box .side { submits 0x14 ready with sideBox := some (heldBy .statusQuery) } ≠ none ∧
    box .side (submits 0x55 ready) = none ∧
    mailboxCheck .side (bufferEnvelope (submits 0x55 ready)).body (submits 0x55 ready) = some .badArgument := by decide +kernel

/-- A state under a policy in a theft state with a cause, some ticks of grace left. -/
def caused (t : Theft) (c : Option Indicator) (p : Policy) (s : State) : State :=
  { watched t p s with
    w := { s.w with watch := { s.w.watch with theft := t, policy := some p, cause := c } }, twu := { s.twu with grace := 100 } }

/-- Line reset ends with WIPING restored: in ROOT, and in an owner's scrub, which start-up abandons. -/
theorem witness_LineResetKeepsBackoffs_wiping :
    (∀ x ∈ [(Phase.root, Theft.wiping), (.scrub, .wiped)],
      let q := { Plan.blank with phase := x.1, cause := some .owner, passes := .times 2, pass := 1 }
      runs (.resetnRelease false true) (lineReset none (wipingPages (.intact (.root 7)) q))
        (fun t => decide (t.startup.restored = .wiping) && decide (theft t = x.2)) = true) := by decide +kernel
theorem witness_TickFiltersTamperAndGrace_alarm :
    (∀ a ∈ [Action.lockdown, .wipe], ∀ x ∈ [(Theft.armed, 0), (.suspect, 600)],
      let p := { policy with action := a, graceSeconds := x.2 }
      let s := caused x.1 (some .checkin) p { ready with twu := { ready.twu with tamperOpposite := true } }
      ticks false s = true ∧ theft s = x.1 ∧ s.w.watch.policy = some p ∧ inSet p.enabled .tamper = true ∧
        s.w.watch.latch = false ∧ s.twu.tamperOpen = false ∧ s.twu.tamperOpposite = true ∧
        (x.1 = .armed → p.graceSeconds = 0) ∧ 0 < s.twu.grace ∧ s.w.watch.cause ≠ some .tamper) ∧
    (let s := caused .suspect (some .tamper) policy { ready with twu := { ready.twu with tamperOpposite := true } }
     ticks false s = true ∧ theft s = .suspect ∧ 0 < s.twu.grace ∧ s.w.watch.cause = some .tamper) ∧
    ∀ t c p, ScrubInWiping (caused t c p { ready with twu := { ready.twu with tamperOpposite := true } }) :=
  ⟨by decide +kernel, by decide +kernel, fun _ _ _ => calm _ rfl rfl rfl rfl⟩
theorem witness_MissedCheckinSuspects_alarm :
    (∀ a ∈ [Action.lockdown, .wipe], ∀ x ∈ [(Theft.armed, 0), (.suspect, 600)],
      let p := { policy with action := a, graceSeconds := x.2 }
      let s := caused x.1 (some .tether) p { ready with twu := { ready.twu with counter := 32768 } }
      linkUp s = true ∧ s.w.watch.policy = some p ∧ inSet p.enabled .checkin = true ∧
        watchPeriod p.periodIndex ≤ s.twu.counter ∧ theft s = x.1 ∧ (x.1 = .armed → p.graceSeconds = 0) ∧
        s.w.watch.cause ≠ some .checkin ∧ s.twu.meterOn = false ∧ timedOut .a s = false ∧ timedOut .b s = false) ∧
    (let s := caused .suspect (some .checkin) policy { ready with twu := { ready.twu with counter := 32768 } }
     theft s = .suspect ∧ s.w.watch.cause = some .checkin) ∧
    ∀ t c p, ScrubInWiping (caused t c p { ready with twu := { ready.twu with counter := 32768 } }) :=
  ⟨by decide +kernel, by decide +kernel, fun _ _ _ => calm _ rfl rfl rfl rfl⟩

/-- The meter one sample before its run is full, the filter as given, in a theft state with a cause under a policy. -/
def filtering (count : Nat) (lost : Bool) (t : Theft) (c : Option Indicator) (p : Policy) : State :=
  let s := caused t c p (tethered count 3)
  { s with twu := { s.twu with tetherLost := lost } }

/-- The sample that fills the run: an edge at cycle 31 with a good and with a bad sample, and an overflow in the tick's last and
in its first cycle. -/
theorem witness_TetherMeterSamples_fills :
    (∀ t ∈ [Theft.dormant, .armed, .suspect, .alarm, .wiping, .wiped], ∀ n ∈ [3000, 2900, 65503, 65534], ∀ lost : Bool,
      ∀ c ∈ [none, some Indicator.tether], ∀ p ∈ [policy, { policy with graceSeconds := 0 }, { policy with enabled := 13 }],
      let s := filtering n lost t c p
      s.mode = .ready ∧ s.twu.meterOn = true ∧ s.twu.meterFirst = false ∧ s.divider = 0 ∧ s.twu.tetherLost = lost ∧
        s.w.config.filterLength ≤ s.twu.tetherRun + 1 ∧ s.twu.meterCount = n ∧ theft s = t ∧ n < 65535 ∧
        s.w.watch.policy = some p ∧ s.w.watch.cause = c ∧
        goodSample s (n + (31 - s.divider)) = decide (n = 3000) ∧
        decide (65535 ≤ s.twu.meterCount + (32 - s.divider)) = decide (65503 ≤ n)) ∧
    (∀ n lost t c p, ScrubInWiping (filtering n lost t c p)) ∧
    (∀ latch, anyAsserted
      (let s := filtering 3000 false .suspect (some .tether) policy
       { s with divider := 31, w := { s.w with watch := { s.w.watch with latch := latch } },
                twu := { s.twu with meterCount := 0, tetherRun := 0 } }) = latch) ∧
    inSet policy.enabled .tether = true ∧ policy.graceSeconds ≠ 0 ∧
    enabled (filtering 3000 true .suspect (some .tether) policy) .tether = true ∧
    enabled (filtering 2900 false .armed none { policy with enabled := 13 }) .tether = false :=
  ⟨by decide +kernel, fun _ _ _ _ _ => calm _ rfl rfl rfl rfl, by decide +kernel, by decide +kernel, by decide +kernel,
    by decide +kernel, by decide +kernel⟩

/-- A compare under way with a token, in a theft state under a policy. -/
def comparing (token : Secret) (t : Theft) (c : Option Indicator) (p : Policy) (latch : Bool) : State :=
  let s := caused t c p ready
  { s with w := { s.w with watch := { s.w.watch with latch := latch } },
           engine := { Engine.idle with running := some (.compare, .compare token) } }

/-- SUSPECT, where a match returns to ARMED and where the tamper latch keeps it; BUDGET not enabled; the results discarded. -/
theorem witness_CheckinComparesTheToken_suspect :
    (∀ token t latch, let s := comparing token t (some .checkin) policy latch
      s.engine.running = some (.compare, .compare token) ∧ theft s = t ∧ (cred s 7).state = .set ∧ ScrubInWiping s) ∧
    StaysSuspect (comparing 9 .suspect (some .checkin) policy true) 0 ∧
    ¬StaysSuspect (comparing 9 .suspect (some .checkin) policy false) 0 ∧
    (∀ latch, runs .checkinCompareComplete (comparing 9 .suspect (some .checkin) policy latch)
      (fun t => decide (failureSum t = 0)) = true) ∧
    enabled (comparing 8 .suspect (some .checkin) { policy with enabled := 7 } false) .budget = false ∧
    theft (comparing 9 .dormant none policy false) ≠ .armed ∧ theft (comparing 9 .dormant none policy false) ≠ .suspect ∧
    (let s := comparing 9 .armed none policy false
     (cred { s with w := { s.w with creds := put s.w.creds 7 (Credential.fresh 7 .empty) } } 7).state ≠ .set) := by
  refine ⟨fun _ _ _ => ⟨rfl, rfl, rfl, calm _ rfl rfl rfl rfl⟩, ⟨policy, rfl, .inr (.inl ⟨rfl, rfl⟩)⟩, ?_, by decide +kernel,
    rfl, by decide, by decide, by decide +kernel⟩
  rintro ⟨p, h, x⟩
  obtain rfl : policy = p := Option.some.inj h
  revert x
  decide +kernel

/-- A part in line reset whose page 0 is lost. -/
theorem witness_LineResetKeepsBackoffs_identity :
    let s := lineReset none (Vector.replicate 53 .torn)
    s.mode = .resetHeld ∧ s.supplySeenOk = true ∧ s.ks.writer = none ∧ ∀ i : Identity, s.ks.pages.get 0 ≠ .intact (.identity i) :=
  ⟨rfl, rfl, rfl, nofun⟩
/-- The key job ends with the band secret 5 to draw, and at a first start. -/
theorem witness_StartupLoadsOpenBands_draws :
    needsDraw { startingUp with w := { working with secrets := put working.secrets 5 none } } = true ∧
    (let s := { firstStart with engine := { Engine.idle with running := some (.startup, .startupKey []) } }
     s.engine.running = some (.startup, .startupKey []) ∧ needsDraw s = true) := by decide +kernel
/-- The statuses of a refused piece: ALARM and WIPING, a cover WRITE without the permit, a closed band and an absent key. -/
theorem witness_RefusedPieceCounts_statuses :
    let t := readAt 4 .read 614390 20
    let w := readAt 4 .write 2047 1
    let covered := { ready with w := { working with config := { working.config with coverLength := 2048 } },
                                bands := put ready.bands 0 { openFlags with readLocked := true, writeLocked := true } }
    decide33 t (watched .wiping policy ready) = .refused .wiping ∧ decide33 t (watched .alarm policy ready) = .refused .alarm ∧
    decide33 w covered = .refused .covered ∧ decide33 w { covered with coverPermit := true } = .allowed .cover ∧
    decide33 { t with kind := .write } { ready with bands := put ready.bands 1 { openFlags with writeLocked := true } } =
      .refused .locked ∧
    decide33 t { ready with keys := KeyTable.powerOn } = .refused .locked ∧
    (∀ x : Theft, let s := translating t (watched x policy ready)
      s.stu.piece = none ∧ s.stu.current = some t.tag ∧ transfer s t.tag = some t) ∧
    t.order = none ∧ t.progress < transferEnd t := by
  refine ⟨by decide +kernel, by decide +kernel, by decide +kernel, by decide +kernel, by decide +kernel, by decide +kernel,
    fun _ => ⟨rfl, rfl, by rfl⟩, rfl, by decide⟩
/-- A timer at its end before a queued segment of another transfer, whose key check fails with each status; and a segment under
way as the grace ends. -/
theorem witness_DataTimeoutEndsSegment_queued :
    (∀ l ∈ [LaneId.a, .b], ∀ x ∈ [(Theft.dormant, false, TStatus.locked), (.alarm, false, .alarm), (.wiping, false, .wiping),
        (.dormant, true, .reconfigured)],
      let g := segment 12 .read 1000000 1 3 1
      let q := { segment 13 .read 500000 1 9 0 with epoch := 7 }
      let s := setLane l { awaiting g 0 with queue := [q] } { watched x.1 policy ready with
        dq := [readAt 12 .read 1000000 3, readAt 13 .read 500000 9], keys := if x.2.1 then ready.keys else KeyTable.powerOn }
      (lane l s).inFlight = some g ∧ (lane l s).state = .awaiting ∧ (lane l s).timer = some 0 ∧ (lane l s).queue = [q] ∧
        transfer s g.tag = some (readAt 12 .read 1000000 3) ∧ transfer s q.tag = some (readAt 13 .read 500000 9) ∧
        q.tag ≠ g.tag ∧ keyCheck s q.key q.epoch = some x.2.2) ∧
    (∀ a ∈ [Action.lockdown, .wipe], ∀ l ∈ [LaneId.a, .b],
      let g := segment 12 .read 1000000 1 3 1
      let p := { policy with action := a }
      let s := watched .suspect p (setLane l (awaiting g 9) (underWay l .read .read))
      linkUp s = true ∧ theft s = .suspect ∧ s.twu.grace = 0 ∧ s.w.watch.policy = some p ∧ (lane l s).inFlight = some g ∧
        (lane l s).queue = [] ∧ (∀ j ∈ [LaneId.a, .b], j ≠ l → (lane j s).inFlight = none ∧ (lane j s).queue = []) ∧
        g.key = .band 0 ∧ (transfer s g.tag).isSome = true ∧ (transfer s g.tag).bind Transfer.order = none) ∧
    ∀ p l t, ScrubInWiping (watched .suspect p (setLane l t (underWay l .read .read))) := by
  refine ⟨by decide +kernel, by decide +kernel, fun p l t => ?_⟩
  cases l <;> exact calm _ rfl rfl rfl rfl
/-- SUSPECT by TETHER under a policy that enables it alone, the filter LOST. -/
def untethered : State :=
  { watched .suspect { policy with enabled := 2 } (tethered 0 0) with twu := { (tethered 0 0).twu with tetherLost := true, grace := 9 } }

/-- DRIVE_SET in ARMED; in SUSPECT with the tether turned off, which returns to ARMED, and with a change that leaves it LOST. -/
theorem witness_DriveSetStoresItsGroups_suspect :
    let off := Body.driveSet (some 9) none none (some { period := 0, tolerance := 0, filter := 0 })
    let on := Body.driveSet (some 9) none none (some { period := 64, tolerance := 1, filter := 2 })
    matched off (watched .armed policy ready) = true ∧ matched off untethered = true ∧ theft untethered = .suspect ∧
    matched on untethered = true ∧
    runs .verifyJobComplete (verifying off untethered) (fun t => !anyAsserted t) = true ∧
    runs .verifyJobComplete (verifying on untethered) anyAsserted = true ∧
    ScrubInWiping (verifying off untethered) ∧ ScrubInWiping (verifying on untethered) :=
  ⟨by decide +kernel, by decide +kernel, rfl, by decide +kernel, by decide +kernel, by decide +kernel, calm _ rfl rfl rfl rfl,
    calm _ rfl rfl rfl rfl⟩
/-- A check-in overdue in SUSPECT. -/
def overdue : State :=
  let s := watched .suspect policy ready
  { s with twu := { s.twu with counter := 32768 } }

/-- WATCH_ARM by theft state, with each check failing; WATCH_DISARM, REMOTE_WIPE, WIPE_NOW and SCRUB_STOP where they change
nothing. -/
theorem witness_MatchedWatchRequests_endings :
    let arm (n : BitVec 8) := Body.watchArm (some 9)
      (some { indicators := n, period := 0, grace := 0, action := 0, passes := 0, budget := 4 })
    let noPlatform : State := { ready with w := { working with creds := put working.creds 7 (Credential.fresh 7 .empty) } }
    let failed : State := { ready with w := { working with counts := put working.counts 2 9 } }
    (∀ t, ScrubInWiping (verifying (arm 1) (watched t policy ready))) ∧ ScrubInWiping (verifying (arm 1) overdue) ∧
    (∀ t ∈ [Theft.dormant, .armed, .suspect, .alarm, .wiping, .wiped],
      matched (arm 9) (watched t policy ready) = true ∧ matched (.watchDisarm (some 9)) (watched t policy ready) = true ∧
      matched (.remoteWipe (some 9)) (watched t policy ready) = true ∧
      matched (.wipeNow (some 9) (some 0)) (watched t policy ready) = true) ∧
    ¬MatchKeepsSuspect (watched .suspect policy ready) 0 ∧ MatchKeepsSuspect overdue 0 ∧
    (∀ s ∈ [overdue, watched .suspect policy ready],
      runs .verifyJobComplete (verifying (arm 9) s) (fun t => decide (failureSum t = 0)) = true) ∧
    matched (arm 1) noPlatform = true ∧ (cred noPlatform 7).state ≠ .set ∧
    (let s : State := { tethered 0 0 with twu := { (tethered 0 0).twu with tetherLost := true } }
     matched (arm 2) s = true ∧ s.twu.tetherLost = true) ∧
    (matched (arm 8) failed = true ∧
      runs .verifyJobComplete (verifying (arm 8) failed) (fun t => decide (4 ≤ failureSum t)) = true) ∧
    (∀ s ∈ [scrubbing, passing], matched (.scrubStop (some 9)) { s with w := { s.w with plan := { s.w.plan with stop := true } } } = true) ∧
    matched (.scrubStop (some 9)) (watched .wiped policy ready) = true := by
  refine ⟨fun _ => calm _ rfl rfl rfl rfl, calm _ rfl rfl rfl rfl, by decide +kernel, ?_,
    ⟨policy, rfl, .inl ⟨rfl, by decide⟩⟩, by decide +kernel⟩
  rintro ⟨p, h, x⟩
  obtain rfl : policy = p := Option.some.inj h
  revert x
  decide +kernel
theorem witness_OwnSetsTheAdminSlot_entropy :
    let s := linkJob .own (.own (some 4)) { ready with entropyFailed := true }
    Running .link .own (heldBy (.own (some 4))) s ∧ ScrubInWiping s ∧ s.entropyFailed = true :=
  ⟨⟨rfl, rfl⟩, calm _ rfl rfl rfl rfl, rfl⟩
theorem witness_OpenLoadsAreApplied_barred : ∀ t ∈ [Theft.alarm, .wiping],
    let s := linkJob .recover (.watchRecover (some 9)) (watched t policy pendingBand)
    Running .link .recover (heldBy (.watchRecover (some 9))) s ∧ barred s = true ∧ noOrders s = true ∧ ScrubInWiping s := by
  refine fun t h => ⟨⟨rfl, rfl⟩, ?_, by rfl, calm _ rfl rfl rfl rfl⟩
  revert h; revert t; decide +kernel
/-- REBUILD's jobs without a value, and with the ES FAILED. -/
theorem witness_RebuildBlanksSlotsAndBands_entropy :
    (let s := wipeJob .rebuildAdmin .rebuildAdminJob { ready with entropyFailed := true }
     s.engine.running = some (.wipe, .rebuildAdmin) ∧ s.wipe.activity = .rebuildAdminJob ∧ s.entropyFailed = true) ∧
    let s := wipeJob (.rebuildBand 4) (.rebuildBandJob 4) ready
    s.engine.running = some (.wipe, .rebuildBand 4) ∧ s.wipe.activity = .rebuildBandJob 4 := by decide +kernel

/-- A state in a theft state with a cause under a policy, with `n` failures in slot 2 and none elsewhere. -/
def nearing (n : Nat) (t : Theft) (c : Option Indicator) (p : Policy) : State :=
  let s := caused t c p ready
  { s with w := { s.w with counts := put s.w.counts 2 n } }

/-- A charge by which the failure sum reaches the limit of 10, in ARMED with and without a grace period, in SUSPECT of another
cause and of BUDGET; one that disables slot 2, with TAMPER asserted or not; BUDGET not enabled; another theft state. -/
theorem witness_ChargeBeforeVerify_budget :
    let c := Instr.unlock 1 (some 2) (some 9) (some { bands := 8, directions := 3 })
    let swift := { policy with graceSeconds := 0 }
    let latched : State :=
      let s := nearing 15 .suspect (some .budget) policy
      { s with w := { s.w with watch := { s.w.watch with latch := true } } }
    let ends (s : State) (t : Theft) (b : Bool) : Bool :=
      charges c s && runs c s fun x => decide (theft x = t) && (decide (10 ≤ failureSum x) == b)
    (∀ n t i p, ScrubInWiping (nearing n t i p)) ∧
    (inSet policy.enabled .budget && decide (failureSum (nearing 9 .armed none policy) = 9 ∧ failureSum latched = 15)) = true ∧
    ∀ row ∈ [(nearing 9 .armed none policy, Theft.suspect, true), (nearing 9 .armed none swift, .alarm, true),
      (nearing 9 .suspect (some .tamper) policy, .alarm, true), (nearing 9 .suspect (some .budget) policy, .suspect, true),
      (nearing 15 .suspect (some .budget) policy, .armed, false), (latched, .suspect, false),
      (nearing 15 .armed none policy, .armed, false), (nearing 10 .armed none policy, .armed, true),
      (nearing 9 .armed none { policy with enabled := 7 }, .armed, true),
      (nearing 9 .dormant none policy, .dormant, true)], ends row.1 row.2.1 row.2.2 = true :=
  ⟨fun _ _ _ _ => calm _ rfl rfl rfl rfl, by decide +kernel⟩

theorem witness_CheckinComparesTheToken_budget :
    let failed (n : Nat) (t : Theft) (i : Option Indicator) (p : Policy) (latch : Bool) : State :=
      let s := comparing 8 t i p latch
      { s with w := { s.w with counts := put s.w.counts 7 n } }
    let ends (s : State) (t : Theft) (b : Bool) : Bool :=
      !verifies (cred s 7) 8 &&
        runs .checkinCompareComplete s fun x => decide (theft x = t) && (decide (10 ≤ failureSum x) == b)
    (∀ n t i p latch, let s := failed n t i p latch
      s.engine.running = some (.compare, .compare 8) ∧ theft s = t ∧ (cred s 7).state = .set ∧ ScrubInWiping s) ∧
    ∀ row ∈ [(failed 9 .armed none policy false, Theft.suspect, true),
      (failed 9 .armed none { policy with graceSeconds := 0 } false, .alarm, true),
      (failed 9 .suspect (some .tamper) { policy with action := .wipe } false, .wiping, true),
      (failed 9 .suspect (some .budget) policy false, .suspect, true),
      (failed 15 .suspect (some .budget) policy false, .armed, false),
      (failed 15 .suspect (some .budget) policy true, .suspect, false),
      (failed 9 .armed none { policy with enabled := 7 } false, .armed, true)], ends row.1 row.2.1 row.2.2 = true :=
  ⟨fun _ _ _ _ _ => ⟨rfl, rfl, rfl, calm _ rfl rfl rfl rfl⟩, by decide +kernel⟩

/-- L of an active cover, S of a SPLIT drive for a READ and for a SCRUB, and the edges of band 1 cut the pieces of runs across them.
-/
theorem witness_PiecesAreCut_points :
    let covered : State :=
      { ready with w := { working with config := { working.config with coverLength := 2048 } },
                   bands := put ready.bands 0 { openFlags with readLocked := true, writeLocked := true } }
    let split := inMode .split 1000000 ready
    (0 < covered.w.config.coverLength ∧ (flags covered covered.w.config.coverBand).readLocked = true ∧
      (readAt 4 .read 2047 2).progress < covered.w.config.coverLength ∧ (readAt 4 .read 2047 2).kind ≠ .scrub ∧
      pieceEnd (readAt 4 .read 2047 2) covered = 2048 ∧ pieceEnd (readAt 4 .scrub 2047 2) covered = 2049) ∧
    (split.w.config.mode = .split ∧ (readAt 4 .read 999999 2).progress < split.w.config.split ∧
      pieceEnd (readAt 4 .read 999999 2) split = 1000000 ∧ pieceEnd (readAt 4 .scrub 999999 2) split = 1000000) ∧
    (record ready 1).length ≠ 0 ∧ pieceEnd (readAt 4 .read 409599 9) ready = 409600 ∧
    pieceEnd (readAt 4 .write 614399 2) ready = 614400 := by decide +kernel

/-- A READ admitted by an idle STU, beside a transfer that is wholly translated; behind one under translation; and behind one
that a STU without a current transfer takes first. -/
theorem witness_DescriptorAdmission_take :
    let done : State := { ready with dq := [{ readAt 9 .read 0 5 with stage := .translated, progress := 5 }] }
    let busy := translating (readAt 9 .read 0 5) ready
    let older : State := { ready with dq := [{ readAt 9 .read 0 5 with stage := .queued }] }
    (∀ s ∈ [ready, done, busy, older], linkUp s = true ∧ s.link.inbound = [] ∧ s.link.outbound.length < Config.holdLimit ∧
      admission 0 4 1 0 1 0 s = none) ∧
    ready.stu.current = none ∧ (∀ t ∈ done.dq, t.stage = .queued → transferEnd t ≤ t.progress) ∧ busy.stu.current ≠ none ∧
    older.dq.find? (fun y => decide (y.progress < transferEnd y) && decide (y.stage = .queued)) =
      some { readAt 9 .read 0 5 with stage := .queued } := by decide +kernel

/-- Every location, ready and during start-up; the records' first bytes; a result; a part whose sideband is off. -/
theorem witness_WindowReads_locations :
    let starting (v : Byte) : State := { startingUp with psp := { startingUp.psp with pointer := v } }
    let x : Machine.Result :=
      { cause := some .owner, pass := 1, written := 1200, refused := 96, ended := .stopped, unread := true, overrun := false }
    let stored : State := { ready with wipe := { ready.wipe with ring := put ready.wipe.ring 3 (some x) } }
    (∀ v, (pointed v).psp.pointer = v ∧ sidebandOn (pointed v) = true ∧ linkUp (pointed v) = true ∧
      (starting v).psp.pointer = v ∧ sidebandOn (starting v) = true ∧ linkUp (starting v) = false) ∧
    (pointed 0x30).psp.pointer.toNat = 0x30 + 16 * (0 : OrderSlot).val ∧
    (pointed 0x60).psp.pointer.toNat = 0x30 + 16 * (3 : OrderSlot).val ∧
    itemAt (pointed 0x0A).psp.pointer.toNat = some (.failureSum, 0) ∧ (∀ r, Item.failureSum ≠ .record r) ∧
    stored.wipe.ring.get 3 = some x ∧ stored.wipe.ring.get 0 = none ∧ linkUp stored = true ∧
    itemBytes stored (.record 3) = [1, 0x32, 1, 0, 0xB0, 4, 0, 0, 0, 0, 0x60, 0, 0, 0, 0, 0] ∧
    sidebandOn { State.reset with mode := .off } = false :=
  have on : sidebandOn ready = true ∧ sidebandOn startingUp = true := by decide +kernel
  ⟨fun _ => ⟨rfl, on.1, rfl, rfl, on.2, rfl⟩, by decide +kernel, by decide +kernel, by decide +kernel,
    nofun, by decide +kernel, by decide +kernel, by decide +kernel, by decide +kernel, by decide +kernel⟩

/-! ### Kept-back jobs, pages that wait for room, and TICK with the meter on -/

/-- A job of the Wipe Engine is kept back, while a job of the Wipe Engine or of a compare runs, with a page waiting for room or
without one. -/
def handingBack (j : Job) (wipes crowd : Bool) : State :=
  let s := if crowd then crowded .doneWait else wiping .idle
  { s with wipe := { s.wipe with toHand := some j },
           engine := { Engine.idle with running := some (if wipes then (.wipe, .root) else (.compare, .compare 9)) } }

theorem witness_QuietSettles_kept :
    (∀ j ∈ [Job.openLoad, .root], ∀ wipes crowd : Bool, let s := handingBack j wipes crowd
      WipeMoves s ∧ s.engine.running ≠ none ∧ s.wipe.toHand = some j ∧ wipeBusy s = wipes ∧ wipeWantsRoom s = crowd) ∧
    ∀ j ∈ [Job.openLoad, .root], ∀ wipes : Bool, wipeQuiet (handingBack j wipes false) = true ∧
      wipeQuiet { handingBack j wipes true with wipe := { ready.wipe with toHand := some j } } = true := by
  unfold WipeMoves; decide +kernel

/-- A request whose charge has been written, its credential page still on the room wait list or not. -/
theorem witness_QuietSettles_room : ∀ clear : Bool,
    let s := setBox .link (some { heldBy .coverClose with stage := .charged, room := [if clear then 39 else 2] })
      (handingBack .root false true)
    storeQuiet s = true ∧ boxQuiet .side s = true ∧ s.engine.running ≠ none ∧ waits (.request .link) s = false ∧
      roomClear [if clear then 39 else 2] s = clear ∧ boxQuiet .link s = !clear := by decide +kernel

/-- The zero-bytes job of ROOT, with its page's room to come and there. -/
theorem witness_RootSecretIsReplaced_zero :
    (∀ crowd : Bool, let s := if crowd then crowded .coverZeroWait else wiping .coverZeroWait
      WipeMoves s ∧ s.wipe.activity = .coverZeroWait ∧ listsWaiter s.ks.room .wipe = crowd ∧ wipeBusy s = false) ∧
    reference (wipeJob .root .rootJob { ready with ks := { ready.ks with
      pages := put ready.ks.pages rootPage (.intact (.root 7)) } }) rootPage ≠ none := by
  unfold WipeMoves; decide +kernel

/-- Every place of the store write queue is taken, behind a write. -/
def fullStore (s : State) : State :=
  { s with ks := { (crowded .idle).ks with room := [] } }

/-- A charge that disables its slot with no place free: the attempt page and the credential page wait for room. -/
theorem witness_ChargeBeforeVerify_room :
    let c := Instr.unlock 1 (some 2) (some 9) (some { bands := 8, directions := 3 })
    let s := fullStore (nearing 15 .dormant none policy)
    charges c s = true ∧ ScrubInWiping s ∧
      runs c s (fun x => (box .link x).any fun h => decide (h.room = [attemptPage 2, credPage 2])) = true :=
  ⟨by decide +kernel, calm _ rfl rfl rfl rfl, by decide +kernel⟩

/-- R135: with every place of the queue taken, the request that starts a wipe is answered in that act. -/
theorem witness_MatchedWatchRequests_full :
    (∀ body ∈ [Body.remoteWipe (some 9), .wipeNow (some 9) (some 1)],
      let s := fullStore (watched .armed policy ready)
      matched body s = true ∧ runs .verifyJobComplete (verifying body s) (fun x => x.linkBox.isNone) = true) ∧
    (∀ body, ScrubInWiping (verifying body (fullStore (watched .armed policy ready)))) ∧
    LinkTakes (fullStore ready) ∧ runs (.revert 1 (some 77)) (fullStore ready) (fun x => x.linkBox.isNone) = true :=
  ⟨by decide +kernel, fun _ => calm _ rfl rfl rfl rfl, ⟨rfl, rfl, by decide⟩, by decide +kernel⟩

/-- Line reset ends with a journal that names an owner's wipe of two passes: the watch page lost, and the root secret lost or
not, by phase. -/
theorem witness_LineResetKeepsBackoffs_lost :
    let q (p : Phase) : Plan := { Plan.blank with phase := p, cause := some .owner, passes := .times 2, pass := 1 }
    (∀ p ∈ [Phase.root, .rebuild, .scrub], ∀ root ∈ [Stored.torn, .intact (.root 7)],
      let pages := put (wipingPages root (q p)) 3 .torn
      pages.get 0 = .intact (.identity working.identity) ∧ pages.get watchPage = .torn ∧
        pages.get journalPage = .intact (.journal (q p)) ∧ pages.get rootPage = root ∧
        runs (.resetnRelease false true) (lineReset none pages) (fun t =>
          decide (t.startup.restored = .wiping) && (t.wipe.abandon || decide (theft t = .wiped))) = true) := by decide +kernel

/-- TICK where a check-in is overdue and moves nothing: SUSPECT by CHECKIN, and ARMED with CHECKIN not enabled. -/
theorem witness_TickCounts_overdue :
    let late (t : Theft) (p : Policy) : State :=
      caused t (some .checkin) p { ready with twu := { ready.twu with counter := 32768, tamperOpposite := true } }
    (∀ x ∈ [(Theft.suspect, policy), (.armed, { policy with enabled := 6 })], let s := late x.1 x.2
      s.mode = .ready ∧ s.twu.meterOn = false ∧ timedOut .a s = false ∧ timedOut .b s = false ∧ checkinAsserted s = true ∧
        theft s = x.1 ∧ 0 < s.twu.grace) ∧
    CheckinIdle (late .suspect policy) ∧ CheckinIdle (late .armed { policy with enabled := 6 }) ∧ CheckinIdle ready :=
  ⟨by decide +kernel, .inr (.inr (.inr ⟨rfl, rfl⟩)), .inr (.inl (by decide +kernel)), .inl (by decide +kernel)⟩

/-- TICK with the meter on in every theft state, before its top and at it, the filter as given; in WIPING without orders, and
with the orders of a pass under way. -/
theorem witness_TetherMeterSamples_ticks :
    (∀ t ∈ [Theft.armed, .suspect, .alarm, .wiping, .wiped], ∀ n ∈ [65502, 65503], ∀ lost : Bool,
      let s := filtering n lost t (some .checkin) policy
      ticks true s = true ∧ theft s = t ∧ 0 < s.twu.grace ∧ s.divider = 0 ∧ noOrders s = true ∧ s.twu.tetherLost = lost ∧
        decide (65535 ≤ s.twu.meterCount + (32 - s.divider)) = decide (n = 65503)) ∧
    (∀ n lost t c p, ScrubInWiping (filtering n lost t c p) ∧ CheckinIdle (filtering n lost .wiping c p) ∧
      LanesSettled (filtering n lost t c p)) ∧
    let s : State := { scrubbing with
      w := { scrubbing.w with config := (tethered 0 3).w.config }, twu := (tethered 65503 3).twu,
      laneA := { awaiting { segment 7 .fill 0 1 256 9 with key := .fill } 0 with state := .filling, timer := none } }
    noOrders s = false ∧ LanesSettled s ∧ ScrubInWiping s ∧ theft s = .wiping ∧ ticks true s = true := by
  refine ⟨by decide +kernel, fun n lost t c p => ⟨calm _ rfl rfl rfl rfl,
    .inr (.inr (.inl ⟨show Theft.wiping ≠ _ by decide, show Theft.wiping ≠ _ by decide⟩)), fun l => ?_⟩, by decide +kernel,
    fun l => ?_, atWork _ rfl rfl (.inr rfl) fun _ => rfl, rfl, by decide +kernel⟩
  · cases l <;> rfl
  · cases l <;> rfl

end Sys2Proof.Tests
end

