-- ==== Sys2Proof/Proofs/LanePlan.lean ====
section
/-! SUPPORT. The lane plan of a piece (R37, R38): how the runs and the shares of a piece are laid out, which addresses they
hold, and the statement about the plan. -/

namespace Sys2Proof.Machine

/-! ## Lists of addresses -/

theorem map_add_mul_range (a n stride : Nat) :
    ((List.range n).map fun i => a + i * stride) = List.range' a n stride := by
  apply List.ext_getElem <;> simp [Nat.mul_comm]

/-- The blocks of `w` sectors of a piece, by index: the first, and those of the rest. -/
theorem range_ceilDiv_eq_cons {w n : Nat} (hw : 0 < w) (hn : 0 < n) :
    List.range ((n + (w - 1)) / w) = 0 :: (List.range ((n - w + (w - 1)) / w)).map (· + 1) := by
  have step : (n + (w - 1)) / w = (n - w + (w - 1)) / w + 1 := by
    rcases Nat.le_total w n with h | h
    · rw [← Nat.add_div_right _ hw]; congr 1; omega
    · rw [Nat.sub_eq_zero_of_le h, Nat.zero_add, Nat.div_eq_of_lt (a := w - 1) (by omega),
        show n + (w - 1) = n - 1 + w by omega, Nat.add_div_right _ hw, Nat.div_eq_of_lt (by omega)]
  rw [step, List.range_succ_eq_map]

/-- Cutting a piece: the addresses of its first block of at most `w` sectors, then those of the rest. -/
theorem range'_min_append (a n w : Nat) : List.range' a (min w n) ++ List.range' (a + w) (n - w) = List.range' a n := by
  rcases Nat.le_total n w with last | more
  · simp [last]
  · rw [Nat.min_eq_left more, List.range'_append_1, Nat.add_sub_cancel' more]

/-- The addresses of one parity, then those of the other, are the addresses of the run (R38). -/
theorem range'_perm_by_parity : ∀ c k : Nat,
    (List.range' c ((k + 1) / 2) 2 ++ List.range' (c + 1) (k / 2) 2).Perm (List.range' c k)
  | _, 0 => by simp
  | _, 1 => by simp
  | c, k + 2 => by
    have ih := range'_perm_by_parity (c + 2) k
    have larger : (k + 2 + 1) / 2 = (k + 1) / 2 + 1 := by omega
    have smaller : (k + 2) / 2 = k / 2 + 1 := by omega
    rw [larger, smaller]
    simp only [List.range'_succ, List.cons_append]
    exact (List.perm_middle.trans (ih.cons _)).cons _

/-! ## Runs of 256 (R37) -/

@[simp] theorem runs256_zero (fuel a : Nat) : runs256 fuel a 0 = [] := by cases fuel <;> rfl

theorem runs256_of_pos (fuel a : Nat) {n : Nat} (h : 0 < n) :
    runs256 (fuel + 1) a n = (a, min 256 n) :: runs256 fuel (a + 256) (n - 256) :=
  if_neg (Nat.ne_of_gt h)

theorem runs256_eq_map_range (fuel a n : Nat) (enough : n ≤ 256 * fuel) :
    runs256 fuel a n = (List.range ((n + 255) / 256)).map fun j => (a + 256 * j, min 256 (n - 256 * j)) := by
  induction fuel generalizing a n with
  | zero =>
    obtain rfl : n = 0 := by omega
    simp
  | succ fuel ih =>
    rcases Nat.eq_zero_or_pos n with rfl | pos
    · simp
    · rw [runs256_of_pos fuel a pos, ih _ _ (by omega), range_ceilDiv_eq_cons (w := 256) (by decide) pos]
      simp only [List.map_cons, List.map_map]
      congr 1
      refine List.map_congr_left fun j _ => ?_
      simp only [Function.comp_apply, Prod.mk.injEq]
      omega

/-- The runs hold the piece's addresses in their order. -/
theorem runs256_addresses (fuel a n : Nat) (enough : n ≤ 256 * fuel) :
    ((runs256 fuel a n).flatMap fun x => List.range' x.1 x.2) = List.range' a n := by
  induction fuel generalizing a n with
  | zero =>
    obtain rfl : n = 0 := by omega
    simp
  | succ fuel ih =>
    rcases Nat.eq_zero_or_pos n with rfl | pos
    · simp
    · rw [runs256_of_pos fuel a pos, List.flatMap_cons, ih _ _ (by omega)]
      exact range'_min_append a n 256

theorem runs256_count {fuel a n : Nat} (enough : n ≤ 256 * fuel) {x : Nat × Nat} (h : x ∈ runs256 fuel a n) :
    0 < x.2 ∧ x.2 ≤ 256 := by
  rw [runs256_eq_map_range fuel a n enough] at h
  obtain ⟨j, hj, rfl⟩ := List.mem_map.mp h
  have := List.mem_range.mp hj
  dsimp only
  omega

/-! ## Shares of chunks of 512 (R38) -/

theorem chunkShares_addresses (c k : Nat) :
    ((chunkShares c k).flatMap fun x => List.range' x.2.1 x.2.2 2).Perm (List.range' c k) := by
  have all : ((chunkShares c k).flatMap fun x => List.range' x.2.1 x.2.2 2) =
      List.range' c ((k + 1) / 2) 2 ++ List.range' (c + 1) (k / 2) 2 := by
    by_cases h : k / 2 = 0 <;> simp [chunkShares, h]
  exact all ▸ range'_perm_by_parity c k

theorem chunkShares_of_pos (c : Nat) {k : Nat} (pos : 0 < k) : chunkShares c k =
    (parityLane c, c, (k + 1) / 2) :: if k = 1 then [] else [(parityLane (c + 1), c + 1, k / 2)] := by
  have : k / 2 = 0 ↔ k = 1 := by omega
  simp only [chunkShares, this]

theorem chunkShares_count {c k : Nat} (pos : 0 < k) (small : k ≤ 512) {x : LaneId × Nat × Nat}
    (h : x ∈ chunkShares c k) : 0 < x.2.2 ∧ x.2.2 ≤ 256 := by
  rw [chunkShares_of_pos c pos, List.mem_cons] at h
  rcases h with rfl | h
  · dsimp only; omega
  · split at h
    · cases h
    · rw [List.mem_singleton.mp h]; dsimp only; omega

@[simp] theorem stripeShares_zero (fuel a : Nat) : stripeShares fuel a 0 = [] := by cases fuel <;> rfl

theorem stripeShares_of_pos (fuel a : Nat) {n : Nat} (h : 0 < n) :
    stripeShares (fuel + 1) a n = chunkShares a (min 512 n) ++ stripeShares fuel (a + 512) (n - 512) :=
  if_neg (Nat.ne_of_gt h)

theorem stripeShares_eq_flatMap_range (fuel a n : Nat) (enough : n ≤ 512 * fuel) :
    stripeShares fuel a n =
      (List.range ((n + 511) / 512)).flatMap fun j => chunkShares (a + 512 * j) (min 512 (n - 512 * j)) := by
  induction fuel generalizing a n with
  | zero =>
    obtain rfl : n = 0 := by omega
    simp
  | succ fuel ih =>
    rcases Nat.eq_zero_or_pos n with rfl | pos
    · simp
    · rw [stripeShares_of_pos fuel a pos, ih _ _ (by omega), range_ceilDiv_eq_cons (w := 512) (by decide) pos,
        List.flatMap_cons, List.flatMap_map]
      congr 1
      refine List.flatMap_congr fun j _ => ?_
      exact congrArg₂ chunkShares (by omega) (by omega)

/-- The shares hold the piece's addresses, each once. -/
theorem stripeShares_addresses (fuel a n : Nat) (enough : n ≤ 512 * fuel) :
    ((stripeShares fuel a n).flatMap fun x => List.range' x.2.1 x.2.2 2).Perm (List.range' a n) := by
  induction fuel generalizing a n with
  | zero =>
    obtain rfl : n = 0 := by omega
    simp
  | succ fuel ih =>
    rcases Nat.eq_zero_or_pos n with rfl | pos
    · simp
    · rw [stripeShares_of_pos fuel a pos, List.flatMap_append, ← range'_min_append a n 512]
      exact (chunkShares_addresses _ _).append (ih _ _ (by omega))

theorem stripeShares_count {fuel a n : Nat} (enough : n ≤ 512 * fuel) {x : LaneId × Nat × Nat}
    (h : x ∈ stripeShares fuel a n) : 0 < x.2.2 ∧ x.2.2 ≤ 256 := by
  rw [stripeShares_eq_flatMap_range fuel a n enough] at h
  obtain ⟨j, hj, hx⟩ := List.mem_flatMap.mp h
  have := List.mem_range.mp hj
  exact chunkShares_count (by omega) (by omega) hx

/-! ## The plan -/

section

variable {t : Transfer} {s : State} (k : KeyName) (n : Nat)

theorem lanePlan_of_stripe (h : s.w.config.mode = .stripe) : lanePlan t s k n =
    (stripeShares (n / 512 + 1) t.progress n).map fun x => (x.1, segmentOf t s k x.2.1 2 x.2.2) := by
  unfold lanePlan; rw [h]

theorem lanePlan_of_ne_stripe (h : s.w.config.mode ≠ .stripe) : lanePlan t s k n =
    (runs256 (n / 256 + 1) t.progress n).map fun x => (wholeLane t s, segmentOf t s k x.1 1 x.2) := by
  unfold lanePlan
  split
  · contradiction
  · rfl

theorem lanePlan_addresses :
    ((lanePlan t s k n).flatMap fun x => List.range' x.2.drive x.2.count x.2.stride).Perm
      (List.range' t.progress n) := by
  by_cases h : s.w.config.mode = .stripe
  · rw [lanePlan_of_stripe k n h, List.flatMap_map]
    exact stripeShares_addresses _ _ _ (by omega)
  · rw [lanePlan_of_ne_stripe k n h, List.flatMap_map]
    exact .of_eq (runs256_addresses _ _ _ (by omega))

/-- Every entry of a plan is a segment of the transfer under the piece's key, of 1 to 256 sectors (R37 to R39). -/
theorem lanePlan_segment {k : KeyName} {n : Nat} {x : LaneId × Segment} (hx : x ∈ lanePlan t s k n) :
    ∃ a m, x.2 = segmentOf t s k a (if s.w.config.mode = .stripe then 2 else 1) m ∧ 0 < m ∧ m ≤ 256 := by
  by_cases h : s.w.config.mode = .stripe
  · rw [lanePlan_of_stripe k n h] at hx
    obtain ⟨y, hy, rfl⟩ := List.mem_map.mp hx
    exact ⟨y.2.1, y.2.2, by rw [if_pos h], stripeShares_count (by omega) hy⟩
  · rw [lanePlan_of_ne_stripe k n h] at hx
    obtain ⟨y, hy, rfl⟩ := List.mem_map.mp hx
    exact ⟨y.1, y.2, by rw [if_neg h], runs256_count (by omega) hy⟩

theorem lanePlan_lane_of_ne_stripe {k : KeyName} {n : Nat} (h : s.w.config.mode ≠ .stripe) {x : LaneId × Segment}
    (hx : x ∈ lanePlan t s k n) : x.1 = wholeLane t s := by
  rw [lanePlan_of_ne_stripe k n h] at hx
  obtain ⟨y, -, rfl⟩ := List.mem_map.mp hx
  rfl

theorem lanePlan_runs_of_ne_stripe (h : s.w.config.mode ≠ .stripe) :
    (lanePlan t s k n).map (fun x => (x.2.drive, x.2.count)) =
      (List.range ((n + 255) / 256)).map fun j => (t.progress + 256 * j, min 256 (n - 256 * j)) := by
  rw [lanePlan_of_ne_stripe k n h, List.map_map, ← runs256_eq_map_range (n / 256 + 1) _ _ (by omega)]
  exact List.map_id _

theorem lanePlan_shares_of_stripe (h : s.w.config.mode = .stripe) :
    (lanePlan t s k n).map (fun x => (x.1, x.2.drive, x.2.count)) =
      (List.range ((n + 511) / 512)).flatMap fun j => chunkShares (t.progress + 512 * j) (min 512 (n - 512 * j)) := by
  rw [lanePlan_of_stripe k n h, List.map_map, ← stripeShares_eq_flatMap_range (n / 512 + 1) _ _ (by omega)]
  exact List.map_id _

end

/-- Settles O27, from the plan's addresses, its segments and its layout in each lane mode, which rest on inductions over the
runs of 256 and the chunks of 512. -/
theorem lanePlanCoversOnce : Obligations.LanePlanCoversOnce := by
  unfold Obligations.LanePlanCoversOnce
  intro t s k n
  refine ⟨?addresses, ?segments, fun h => ⟨?lane, lanePlan_runs_of_ne_stripe k n h⟩, fun h => ?shares⟩
  case addresses =>
    simp only [map_add_mul_range, ← List.range'_eq_map_range]
    exact lanePlan_addresses k n
  case segments =>
    intro x hx
    obtain ⟨a, m, seg, pos, small⟩ := lanePlan_segment hx
    rw [seg]
    exact ⟨pos, small, rfl, rfl, rfl, rfl, rfl, rfl⟩
  case lane =>
    intro x hx
    rw [lanePlan_lane_of_ne_stripe h hx]
    rfl
  case shares =>
    rw [lanePlan_shares_of_stripe k n h]
    refine List.flatMap_congr fun j hj => ?_
    have := List.mem_range.mp hj
    exact chunkShares_of_pos _ (by omega)

end Sys2Proof.Machine
end

