-- ==== Sys2Proof/Proofs/Backoff.lean ====
section
/-! SUPPORT. The backoff of a slot: the delay that a failure count gives (R105), and the backoffs that start-up restores (R96). -/

namespace Sys2Proof.Machine

/-! ## The delay for a failure count (R105) -/

section

variable {i : SlotId} {c : Credential} {f : Nat}

theorem backoffDelay_of_le_free (h : f ≤ c.free) : backoffDelay i c f = 0 := if_pos h

/-- The ADMIN slot at its hard limit has the cap, whatever the formula gives. -/
theorem backoffDelay_of_admin_limit (above : c.free < f) (admin : i = 0) (limit : c.hard ≤ f) :
    backoffDelay i c f = c.cap * 1024 := by
  simp [backoffDelay, Config.ticksPerSecond, Nat.not_le.mpr above, admin, limit]

/-- Any other slot, and the ADMIN slot below its hard limit, have the formula's delay. -/
theorem backoffDelay_of_formula (above : c.free < f) (h : i ≠ 0 ∨ f < c.hard) :
    backoffDelay i c f =
      if 17 ≤ f - c.free - 1 then c.cap * 1024 else min (c.base * 2 ^ (f - c.free - 1)) c.cap * 1024 := by
  have noLimit : ¬ (i = 0 ∧ c.hard ≤ f) := fun ⟨admin, limit⟩ => h.elim (· admin) (Nat.not_lt.mpr limit)
  simp [backoffDelay, Config.ticksPerSecond, Nat.not_le.mpr above, noLimit]

end

/-! ## The backoffs at step 7 of start-up (R96) -/

section

variable {s : State} (i : SlotId)

@[simp] theorem backoffOf_backoffStep : backoffOf (backoffStep s) i = restoredBackoff s i := get_tab8 _ i

/-- Power-on, which holds nothing from before, starts the full delay afresh; a count within the free attempts needs no case of
its own, since its delay is 0. -/
theorem restoredBackoff_of_held_none (powerOn : s.held = none) :
    restoredBackoff s i =
      if i ≠ 0 ∧ (cred s i).state = .disabled then 0 else backoffDelay i (cred s i) (count s i) := by
  by_cases within : count s i ≤ (cred s i).free
  · simp [restoredBackoff, within, backoffDelay_of_le_free within]
  · simp [restoredBackoff, within, powerOn]

end

/-- Settles O41, from the delay's cases and the backoffs that power-on restores. -/
theorem backoffDelayFormula : Obligations.BackoffDelayFormula := by
  unfold Obligations.BackoffDelayFormula
  refine ⟨fun i c f => ⟨backoffDelay_of_le_free, backoffDelay_of_admin_limit, fun above h => ⟨?capped, ?power⟩⟩, ?restored⟩
  case capped =>
    intro large
    rw [backoffDelay_of_formula above h, if_pos large]
  case power =>
    intro small
    rw [backoffDelay_of_formula above h, if_neg (Nat.not_le.mpr small)]
  case restored =>
    intro i s powerOn
    rw [backoffOf_backoffStep, restoredBackoff_of_held_none i powerOn]

end Sys2Proof.Machine
end

/-! SUPPORT. The statements of the family: the laws that every step keeps, what each command does, and the lemmas about the model
that they need. -/

namespace Sys2Proof.Machine

/-! # The laws of the device as a relation between two states, and the acts of the store that keep it -/

/-! ## The parts of the state that each law speaks of -/

/-- The clauses of `ScrubInWiping` that hold in every mode. -/
structure ScrubOrderly (s : State) : Prop where
  orders : noOrders s = false → s.wipe.running = true
  scanning : s.wipe.running = true → s.wipe.activity = .scanning
  wiping : s.wipe.activity ≠ .idle → s.wipe.activity ≠ .doneWait → theft s = .wiping

def keyView (s : State) := (s.keys.bands, s.bands, s.w.watch.theft)
def slotView (s : State) := (s.w.counts, s.w.creds, s.backoff)
def storeView (s : State) := (s.ks.queue, s.ks.room)
def trafficView (s : State) := (s.dq, s.laneA.queue, s.laneB.queue)
def scrubView (s : State) := (s.wipe.orders, s.wipe.running, s.wipe.activity, s.w.watch.theft)
def placeView (s : State) := (s.mode, s.pending)

section

variable {s t : State}

theorem LiveKeysGuarded.congr (h : keyView t = keyView s) (k : LiveKeysGuarded s) : LiveKeysGuarded t := by
  simp only [keyView, Prod.mk.injEq] at h
  obtain ⟨hk, hb, ht⟩ := h
  have same : barred t = barred s := by unfold barred theft; rw [ht]
  intro b hp
  rw [same]
  simpa only [flags, hb] using k b (by simpa only [present, entry, hk] using hp)

theorem SlotsLimited.congr (h : slotView t = slotView s) (k : SlotsLimited s) : SlotsLimited t := by
  simp only [slotView, Prod.mk.injEq] at h
  obtain ⟨hc, hd, hb⟩ := h
  simpa only [SlotsLimited, count, cred, backoffOf, hc, hd, hb] using k

theorem StoreOrdered.congr (h : storeView t = storeView s) (k : StoreOrdered s) : StoreOrdered t := by
  simp only [storeView, Prod.mk.injEq] at h
  obtain ⟨hq, hr⟩ := h
  simpa only [StoreOrdered, hq, hr] using k

theorem TrafficBounded.congr (h : trafficView t = trafficView s) (k : TrafficBounded s) : TrafficBounded t := by
  simp only [trafficView, Prod.mk.injEq] at h
  obtain ⟨hd, ha, hb⟩ := h
  simpa only [TrafficBounded, hd, ha, hb] using k

theorem ScrubOrderly.congr (h : scrubView t = scrubView s) (k : ScrubOrderly s) : ScrubOrderly t := by
  simp only [scrubView, Prod.mk.injEq] at h
  obtain ⟨ho, hr, ha, ht⟩ := h
  obtain ⟨k1, k2, k3⟩ := k
  constructor <;> simpa only [noOrders, theft, ho, hr, ha, ht] using ‹_›

end

/-! ## What every act keeps -/

/-- One state becomes another under the laws but for the Wipe Engine's: each that holds of the first holds of the second, the
commands that wait stay, and a start-up that has loaded its pages goes on. -/
structure Orderly (s t : State) : Prop where
  keys : LiveKeysGuarded s → LiveKeysGuarded t
  slots : SlotsLimited s → SlotsLimited t
  store : StoreOrdered s → StoreOrdered t
  traffic : TrafficBounded s → TrafficBounded t
  pending : t.pending = s.pending
  counting : counting s = true → counting t = true

/-- One state becomes another under every law. -/
structure Lawful (s t : State) : Prop extends Orderly s t where
  scrub : ScrubOrderly s → ScrubOrderly t

theorem Orderly.refl (s : State) : Orderly s s := ⟨id, id, id, id, rfl, id⟩

theorem Lawful.refl (s : State) : Lawful s s := ⟨.refl s, id⟩

section

variable {s t u : State}

theorem Orderly.trans (h : Orderly s t) (k : Orderly t u) : Orderly s u where
  keys := k.keys ∘ h.keys
  slots := k.slots ∘ h.slots
  store := k.store ∘ h.store
  traffic := k.traffic ∘ h.traffic
  pending := k.pending.trans h.pending
  counting := k.counting ∘ h.counting

theorem Lawful.trans (h : Lawful s t) (k : Lawful t u) : Lawful s u :=
  ⟨h.toOrderly.trans k.toOrderly, k.scrub ∘ h.scrub⟩

theorem Orderly.after (k : Orderly t u) (h : Orderly s t) : Orderly s u := h.trans k

theorem Lawful.after (k : Lawful t u) (h : Lawful s t) : Lawful s u := h.trans k

theorem Lawful.ite {c : Prop} [Decidable c] (h : c → Lawful s t) (k : ¬c → Lawful s u) : Lawful s (if c then t else u) := by
  split
  · exact h ‹_›
  · exact k ‹_›

theorem pending_of_place (h : placeView t = placeView s) : t.pending = s.pending := congrArg Prod.snd h

theorem counting_of_place (h : placeView t = placeView s) (k : counting s = true) : counting t = true := by
  have mode : t.mode = s.mode := congrArg Prod.fst h
  rwa [counting, mode]

/-- What no law but the Wipe Engine's speaks of may change. -/
theorem Orderly.frame (hk : keyView t = keyView s) (hs : slotView t = slotView s) (hq : storeView t = storeView s)
    (ht : trafficView t = trafficView s) (hp : placeView t = placeView s) : Orderly s t :=
  ⟨.congr hk, .congr hs, .congr hq, .congr ht, pending_of_place hp, counting_of_place hp⟩

theorem Orderly.ofKeys (hk : LiveKeysGuarded s → LiveKeysGuarded t) (hs : slotView t = slotView s)
    (hq : storeView t = storeView s) (ht : trafficView t = trafficView s) (hp : placeView t = placeView s) : Orderly s t :=
  ⟨hk, .congr hs, .congr hq, .congr ht, pending_of_place hp, counting_of_place hp⟩

/-- What no law speaks of may change. -/
theorem Lawful.frame (hk : keyView t = keyView s) (hs : slotView t = slotView s) (hq : storeView t = storeView s)
    (ht : trafficView t = trafficView s) (hw : scrubView t = scrubView s) (hp : placeView t = placeView s) : Lawful s t :=
  ⟨.frame hk hs hq ht hp, .congr hw⟩

theorem Lawful.ofKeys (hk : LiveKeysGuarded s → LiveKeysGuarded t) (hs : slotView t = slotView s)
    (hq : storeView t = storeView s) (ht : trafficView t = trafficView s) (hw : scrubView t = scrubView s)
    (hp : placeView t = placeView s) : Lawful s t :=
  ⟨.ofKeys hk hs hq ht hp, .congr hw⟩

theorem Lawful.ofSlots (hs : SlotsLimited s → SlotsLimited t) (hk : keyView t = keyView s)
    (hq : storeView t = storeView s) (ht : trafficView t = trafficView s) (hw : scrubView t = scrubView s)
    (hp : placeView t = placeView s) : Lawful s t :=
  ⟨⟨.congr hk, hs, .congr hq, .congr ht, pending_of_place hp, counting_of_place hp⟩, .congr hw⟩

theorem Lawful.ofStore (hq : StoreOrdered s → StoreOrdered t) (hk : keyView t = keyView s)
    (hs : slotView t = slotView s) (ht : trafficView t = trafficView s) (hw : scrubView t = scrubView s)
    (hp : placeView t = placeView s) : Lawful s t :=
  ⟨⟨.congr hk, .congr hs, hq, .congr ht, pending_of_place hp, counting_of_place hp⟩, .congr hw⟩

/-- A change of the traffic alone, whose bounds are those of the state from which the act began. -/
theorem Lawful.thenTraffic (h : Lawful s t) (ht : TrafficBounded s → TrafficBounded u) (hk : keyView u = keyView t)
    (hs : slotView u = slotView t) (hq : storeView u = storeView t) (hw : scrubView u = scrubView t)
    (hp : placeView u = placeView t) : Lawful s u :=
  ⟨⟨.congr hk ∘ h.keys, .congr hs ∘ h.slots, .congr hq ∘ h.store, ht, (pending_of_place hp).trans h.pending,
    counting_of_place hp ∘ h.counting⟩, .congr hw ∘ h.scrub⟩

theorem Lawful.ofTraffic (ht : TrafficBounded s → TrafficBounded t) (hk : keyView t = keyView s)
    (hs : slotView t = slotView s) (hq : storeView t = storeView s) (hw : scrubView t = scrubView s)
    (hp : placeView t = placeView s) : Lawful s t :=
  (Lawful.refl s).thenTraffic ht hk hs hq hw hp

theorem Lawful.ofScrub (hw : ScrubOrderly s → ScrubOrderly t) (hk : keyView t = keyView s) (hs : slotView t = slotView s)
    (hq : storeView t = storeView s) (ht : trafficView t = trafficView s) (hp : placeView t = placeView s) : Lawful s t :=
  ⟨.frame hk hs hq ht hp, hw⟩

end

/-! ## The store -/

theorem map_page_mergeEntry (p : PageId) (ws : List Waiter) (es : List QEntry) :
    (mergeEntry p ws es).map QEntry.page = es.map QEntry.page := by
  induction es with
  | nil => rfl
  | cons e es ih => unfold mergeEntry; split <;> simp [ih]

theorem length_mergeEntry (p : PageId) (ws : List Waiter) (es : List QEntry) :
    (mergeEntry p ws es).length = es.length := by
  have h := congrArg List.length (map_page_mergeEntry p ws es)
  rwa [List.length_map, List.length_map] at h

theorem onList_iff {es : List QEntry} {p : PageId} : onList es p = true ↔ p ∈ es.map QEntry.page := by
  simp only [onList, List.any_eq_true, decide_eq_true_eq, List.mem_map]

section

variable {s : State}

theorem queuePage_storeOrdered (p : PageId) (ws : List Waiter) (h : StoreOrdered s) : StoreOrdered (queuePage p ws s) := by
  obtain ⟨len, nodup, full⟩ := h
  have merged (es : List QEntry) (he : mergeEntry p ws es ≠ []) : es ≠ [] := fun h0 => he (by rw [h0]; rfl)
  unfold queuePage
  split
  · exact ⟨by simpa [length_mergeEntry] using len, by simpa [map_page_mergeEntry] using nodup,
      by simpa [length_mergeEntry] using full⟩
  · rename_i hq
    split
    · exact ⟨len, by simpa [map_page_mergeEntry] using nodup, fun hr => full (merged _ hr)⟩
    · rename_i hr
      have fresh : p ∉ (s.ks.queue ++ s.ks.room).map QEntry.page := by
        rw [List.map_append, List.mem_append, not_or]
        exact ⟨fun h => hq (onList_iff.mpr h), fun h => hr (onList_iff.mpr h)⟩
      split
      · split
        · rename_i room
          have empty : s.ks.room = [] := by
            by_contra hne
            exact absurd (full hne) (Nat.ne_of_lt room)
          refine ⟨by simpa using room, ?_, fun hne => absurd empty hne⟩
          simp only [empty, List.append_nil] at nodup fresh
          simpa only [empty, List.append_nil, List.map_append, List.map_cons, List.map_nil, List.concat_eq_append] using nodup.concat fresh
        · rename_i noRoom
          refine ⟨len, ?_, fun _ => Nat.le_antisymm len (Nat.not_lt.mp noRoom)⟩
          show ((s.ks.queue ++ (s.ks.room ++ [QEntry.mk p ws])).map QEntry.page).Nodup
          rw [← List.append_assoc, List.map_append]
          simpa only [List.map_cons, List.map_nil, List.concat_eq_append] using nodup.concat fresh
      · split
        · split <;> exact ⟨len, nodup, full⟩
        · exact ⟨len, nodup, full⟩

theorem skipCancelled_suffix (es : List QEntry) : skipCancelled s es <:+ es := by
  induction es with
  | nil => exact List.suffix_rfl
  | cons e es ih =>
    unfold skipCancelled
    split
    · exact ih.trans (List.suffix_cons e es)
    · exact List.suffix_rfl

/-- Entries dealt into the queue and the list behind it are in order where no two name one page. -/
theorem storeOrdered_of_dealt {es : List QEntry} (nodup : (es.map QEntry.page).Nodup)
    (hq : s.ks.queue = es.take Config.storeRoom) (hr : s.ks.room = es.drop Config.storeRoom) : StoreOrdered s := by
  refine ⟨by simp [hq], by rw [hq, hr, List.take_append_drop]; exact nodup, fun hne => ?_⟩
  rw [hr, ne_eq, List.drop_eq_nil_iff] at hne
  simp [hq]; omega

theorem serviceStore_storeOrdered (h : StoreOrdered s) : StoreOrdered (serviceStore s) := by
  obtain ⟨-, nodup, -⟩ := h
  unfold serviceStore
  dsimp only
  split
  · exact storeOrdered_of_dealt nodup rfl rfl
  · split
    · have left := (skipCancelled_suffix (s := s) (s.ks.queue ++ s.ks.room)).sublist
      split
      · exact storeOrdered_of_dealt (es := []) List.nodup_nil rfl rfl
      · rename_i e es he
        rw [he] at left
        exact storeOrdered_of_dealt (nodup.sublist (((List.sublist_cons_self e es).trans left).map _)) rfl rfl
    · exact storeOrdered_of_dealt nodup rfl rfl

theorem queuePage_lawful (p : PageId) (ws : List Waiter) (s : State) : Lawful s (queuePage p ws s) :=
  .ofStore (queuePage_storeOrdered p ws) (by simp [keyView]) (by simp [slotView]) (by simp [trafficView])
    (by simp [scrubView]) (by simp [placeView])

theorem queuePages_lawful (ps : List PageId) (ws : List Waiter) (s : State) : Lawful s (queuePages ps ws s) := by
  induction ps generalizing s with
  | nil => exact .refl s
  | cons p ps ih => exact (queuePage_lawful p ws s).trans (ih _)

theorem serviceStore_lawful (s : State) : Lawful s (serviceStore s) :=
  .ofStore serviceStore_storeOrdered (by simp [keyView]) (by simp [slotView]) (by simp [trafficView])
    (by simp [scrubView]) (by simp [placeView])

theorem completeWrite_lawful (s : State) : Lawful s (completeWrite s) := by
  unfold completeWrite
  split
  · exact .frame rfl rfl rfl rfl rfl rfl
  · exact .refl s

end

/-! # The acts on bands and live keys keep the laws -/

/-! ## The bands and their live keys -/

/-- A band's flags and entry are as R14 asks in a state: a present entry is that of a band not closed, outside ALARM and WIPING. -/
def PairGuarded (s : State) (x : BandFlags × LiveKey) : Prop := x.2.key.isSome = true → closed x.1 = false ∧ barred s = false

theorem LiveKeysGuarded.pair {s : State} (h : LiveKeysGuarded s) (b : BandId) : PairGuarded s (bandPair s b) := h b

theorem removed_absent (e : LiveKey) : (removed e).key.isSome = false := by
  unfold removed
  split <;> simp_all

theorem loaded_present (k : MediaKey) (e : LiveKey) : (loaded k e).key = some k := by
  unfold loaded
  split <;> simp_all

/-- A removed entry asks nothing of its band. -/
theorem PairGuarded.removed (s : State) (f : BandFlags) (e : LiveKey) : PairGuarded s (f, removed e) := fun h => by
  simp [removed_absent] at h

section

variable {s t : State}

theorem PairGuarded.congr {x : BandFlags × LiveKey} (ht : theft t = theft s) (h : PairGuarded s x) : PairGuarded t x := by
  unfold PairGuarded barred at *
  rwa [ht]

theorem liveKeysGuarded_iff : LiveKeysGuarded s ↔ ∀ b, PairGuarded s (bandPair s b) := Iff.rfl

/-- A table of flags and entries that is guarded band for band. -/
theorem tabBands_lawful (f : BandId → BandFlags × LiveKey)
    (h : LiveKeysGuarded s → ∀ b, PairGuarded s (f b)) : Lawful s (tabBands f s) := by
  refine .ofKeys (fun k => liveKeysGuarded_iff.mpr fun b => ?_) rfl rfl rfl rfl rfl
  have same : bandPair (tabBands f s) b = f b := by simp [bandPair, tabBands, flags]
  rw [same]
  exact (h k b).congr rfl

theorem setPair_lawful (b : BandId) (x : BandFlags × LiveKey) (h : LiveKeysGuarded s → PairGuarded s x) :
    Lawful s (setPair b x s) := by
  refine .ofKeys (fun k => liveKeysGuarded_iff.mpr fun c => ?_) rfl rfl rfl rfl rfl
  have pair : bandPair (setPair b x s) c = if b = c then x else bandPair s c := by
    simp only [bandPair, setPair, setBandKey, setFlags, flags, get_put]
    split <;> rfl
  rw [pair]
  split
  · exact (h k).congr rfl
  · exact (k.pair c).congr rfl

theorem lockPair_guarded (h : LiveKeysGuarded s) (b : BandId) : PairGuarded s (lockPair s b) := by
  unfold lockPair
  dsimp only
  split
  · exact h.pair b
  · split
    · exact .removed s _ _
    · rename_i open'
      exact fun hk => ⟨by simpa using open', (h b hk).2⟩

theorem lockBands_lawful (sel : BandId → Bool) : Lawful s (lockBands sel s) :=
  tabBands_lawful _ fun h b => by
    split
    · exact lockPair_guarded h b
    · exact h.pair b

theorem relock_lawful (e : Relock) : Lawful s (relock e s) := lockBands_lawful _

theorem lockAll_lawful : Lawful s (lockAll s) := lockBands_lawful _

theorem unlockBand_lawful (b : BandId) (read write : Bool) (k : MediaKey) : Lawful s (unlockBand b read write k s) := by
  unfold unlockBand
  split
  · exact .refl s
  · rename_i acts
    simp only [unlockDiscarded, Bool.or_eq_true, Bool.not_eq_true', not_or, Bool.not_eq_true, Bool.not_eq_false] at acts
    obtain ⟨⟨⟨open', -⟩, -⟩, dir⟩ := acts
    refine setPair_lawful b _ fun _ _ => ⟨?_, open'⟩
    rcases dir with rfl | rfl <;> simp [unlockPair, unlockFlag, closed]

/-- What a band brought to its enables is guarded by: its key stays or is loaded only where its flags leave it open. -/
theorem settlePair_guarded (b : BandId) (k : Option MediaKey) : PairGuarded s (settlePair s b k) := by
  unfold settlePair
  dsimp only
  split
  · exact .removed s _ _
  · rename_i acts
    simp only [Bool.or_eq_true, not_or, Bool.not_eq_true] at acts
    obtain ⟨⟨open', -⟩, notClosed⟩ := acts
    split
    · exact fun _ => ⟨notClosed, open'⟩
    · split
      · exact fun _ => ⟨notClosed, open'⟩
      · exact fun hk => absurd hk ‹_›

theorem settleBand_lawful (b : BandId) (k : Option MediaKey) : Lawful s (settleBand b k s) :=
  setPair_lawful b _ fun _ => settlePair_guarded b k

theorem holdClosed_lawful (b : BandId) : Lawful s (holdClosed b s) := setPair_lawful b _ fun _ => .removed s _ _

theorem awaitBands_lawful : Lawful s (awaitBands s) :=
  tabBands_lawful _ fun h b => by
    unfold awaitPair
    dsimp only
    split
    · exact h.pair b
    · split <;> exact .removed s _ _

theorem applyOpenLoads_lawful : Lawful s (applyOpenLoads s) :=
  tabBands_lawful _ fun h b => by
    unfold openLoadPair
    split
    · exact settlePair_guarded b _
    · exact h.pair b

theorem setBandKey_lawful (b : BandId) (e : LiveKey) (h : e.key = (s.keys.bands.get b).key) :
    Lawful s (setBandKey b e s) := by
  refine .ofKeys (fun k => liveKeysGuarded_iff.mpr fun c => ?_) rfl rfl rfl rfl rfl
  have same : (bandPair (setBandKey b e s) c).2.key = (bandPair s c).2.key := by
    simp only [bandPair, setBandKey, get_put]
    split
    · rename_i hc; rw [h, hc]
    · rfl
  intro hk
  rw [same] at hk
  exact k c hk

theorem bumpRange_lawful (b : BandId) : Lawful s (bumpRange b s) := by
  have h := setBandKey_lawful (s := s) b (bumped (s.keys.bands.get b)) rfl
  unfold bumpRange
  exact .ite (fun _ => h) fun _ => h.trans (setBandKey_lawful 0 _ rfl)

theorem setFlags_lawful (b : BandId) (f : BandFlags) (h : closed f = closed (flags s b)) : Lawful s (setFlags b f s) := by
  refine .ofKeys (fun k => liveKeysGuarded_iff.mpr fun c hc => ?_) rfl rfl rfl rfl rfl
  have same : closed (bandPair (setFlags b f s) c).1 = closed (bandPair s c).1 := by
    simp only [bandPair, setFlags, flags, get_put]
    split
    · rename_i hc; rw [h, hc]; rfl
    · rfl
  rw [same]
  exact k c hc

theorem unhold_lawful (b : BandId) : Lawful s (unhold b s) := setFlags_lawful b _ rfl

end

/-! # The acts of the theft watch and the Wipe Engine keep the laws -/

/-! ## The theft state and the Wipe Engine -/

theorem noOrders_iff {s : State} : noOrders s = true ↔ ∀ i, s.wipe.orders.get i = none := by
  refine ⟨noOrders_get, fun h => ?_⟩
  simp [noOrders, h]

section

variable {s t : State}

/-- With no pass running no order is open. -/
theorem ScrubOrderly.noOrders (h : ScrubOrderly s) (stopped : s.wipe.running = false) : noOrders s = true := by
  by_contra open'
  simpa [stopped] using h.orders (by simpa using open')

/-- No pass is running while the Wipe Engine does not scan. -/
theorem ScrubOrderly.stopped (h : ScrubOrderly s) (ha : s.wipe.activity ≠ .scanning) : s.wipe.running = false := by
  by_contra run
  exact ha (h.scanning (by simpa using run))

/-- Outside WIPING no pass is running. -/
theorem ScrubOrderly.resting (h : ScrubOrderly s) (ht : theft s ≠ .wiping) : s.wipe.running = false :=
  h.stopped fun scan => ht (h.wiping (by simp [scan]) (by simp [scan]))

/-- With no pass running the Wipe Engine's law is about its activity alone. -/
theorem ScrubOrderly.of_stopped (stopped : t.wipe.running = false) (orders : Machine.noOrders t = true)
    (wiping : t.wipe.activity ≠ .idle → t.wipe.activity ≠ .doneWait → theft t = .wiping) : ScrubOrderly t :=
  ⟨by simp [orders], by simp [stopped], wiping⟩

/-- The Wipe Engine, with no pass running, turns to another activity. -/
theorem wipe_lawful {x : WipeEngine} (orders : x.orders = s.wipe.orders) (running : x.running = s.wipe.running)
    (stopped : ScrubOrderly s → s.wipe.running = false)
    (wiping : ScrubOrderly s → x.activity ≠ .idle → x.activity ≠ .doneWait → theft s = .wiping) :
    Lawful s { s with wipe := x } :=
  .ofScrub (fun h => .of_stopped (running.trans (stopped h))
    (by have := h.noOrders (stopped h); simpa only [Machine.noOrders, orders] using this) (wiping h)) rfl rfl rfl rfl rfl

theorem setActivity_lawful (a : WipeActivity) (stopped : ScrubOrderly s → s.wipe.running = false)
    (wiping : ScrubOrderly s → a ≠ .idle → a ≠ .doneWait → theft s = .wiping) : Lawful s (setActivity a s) :=
  wipe_lawful rfl rfl stopped wiping

/-- A Wipe Engine that waits for something or runs a job turns to its next activity. -/
theorem setActivity_lawful_of_active (a : WipeActivity) (hi : s.wipe.activity ≠ .idle) (hd : s.wipe.activity ≠ .doneWait)
    (hs : s.wipe.activity ≠ .scanning) : Lawful s (setActivity a s) :=
  setActivity_lawful a (fun h => h.stopped hs) fun h _ _ => h.wiping hi hd

theorem setPlan_lawful (p : Plan) : Lawful s (setPlan p s) := .frame rfl rfl rfl rfl rfl rfl

theorem journalWait_lawful : Lawful s (journalWait s) := queuePage_lawful _ _ s

theorem journalQueue_lawful : Lawful s (journalQueue s) := queuePage_lawful _ _ s

theorem raise_lawful (x : BitVec 4) : Lawful s (raise x s) := .frame rfl rfl rfl rfl rfl rfl

theorem hand_lawful (m : OutMsg) : Lawful s (hand m s) := .frame rfl rfl rfl rfl rfl rfl

theorem announce_lawful : Lawful s (announce s) := .ite (fun _ => .frame rfl rfl rfl rfl rfl rfl) fun _ => .refl s

/-! ### Changes of the theft state -/

theorem bandsAs_frame (old new : Theft) (s : State) :
    bandsAs old new s = { s with bands := (bandsAs old new s).bands,
                                 keys := { s.keys with bands := (bandsAs old new s).keys.bands } } := by
  unfold bandsAs
  split
  · rfl
  · rfl
  · rfl
  · split <;> rfl

theorem shutBands_guarded (s : State) : LiveKeysGuarded (shutBands s) := fun b h => by
  simp [present, entry, shutBands, tabBands, shutPair, removed_absent] at h

/-- The state of a change of the theft state before its watch page is queued. -/
def theftMoved (t : Theft) (s : State) : State :=
  bandsAs (theft s) t { s with w := { s.w with watch := watchAs t s.w.watch }, twu := countersAs t s.twu }

theorem theftCore_eq (t : Theft) (s : State) : theftCore t s = queuePage watchPage (watchWaiters t) (theftMoved t s) := rfl

theorem theftMoved_guarded (t : Theft) (h : LiveKeysGuarded s) : LiveKeysGuarded (theftMoved t s) := by
  have kept (ha : t ≠ .alarm) (hw : t ≠ .wiping) :
      LiveKeysGuarded { s with w := { s.w with watch := watchAs t s.w.watch }, twu := countersAs t s.twu } :=
    fun b hb => ⟨(h b hb).1, by simp [barred, theft, watchAs, ha, hw]⟩
  unfold theftMoved bandsAs
  split
  · exact shutBands_guarded _
  · exact shutBands_guarded _
  · exact awaitBands_lawful.keys (kept (by simp) (by simp))
  · split
    · exact awaitBands_lawful.keys (kept ‹_› ‹_›)
    · exact kept ‹_› ‹_›

theorem theftCore_orderly (t : Theft) : Orderly s (theftCore t s) := by
  rw [theftCore_eq]
  refine Orderly.trans (t := theftMoved t s) (.ofKeys (theftMoved_guarded t) ?_ ?_ ?_ ?_)
    (queuePage_lawful _ _ _).toOrderly
  all_goals unfold theftMoved; rw [bandsAs_frame]; rfl

@[simp] theorem theftCore_wipe (t : Theft) : (theftCore t s).wipe = s.wipe := by
  rw [theftCore_eq, queuePage_wipe, theftMoved, bandsAs_frame]

@[simp] theorem theft_theftCore (t : Theft) : theft (theftCore t s) = t := by
  rw [theftCore_eq, theft, queuePage_w, theftMoved, bandsAs_frame]
  rfl

/-- A change from a theft state other than WIPING into one other than WIPING finds the Wipe Engine at rest. -/
theorem theftCore_lawful (t : Theft) (hs : theft s ≠ .wiping) : Lawful s (theftCore t s) := by
  refine ⟨theftCore_orderly t, fun h => .of_stopped (by simpa using h.resting hs) ?_ fun hi hd => ?_⟩
  · simpa [Machine.noOrders] using h.noOrders (h.resting hs)
  · rw [theftCore_wipe] at hi hd
    exact absurd (h.wiping hi hd) hs

/-- A change of the theft page's fields into a state other than ALARM and WIPING, from one other than WIPING. -/
theorem watch_lawful (w : Watch) (u : WatchUnit) (hs : theft s ≠ .wiping) (ha : w.theft ≠ .alarm) (hw : w.theft ≠ .wiping) :
    Lawful s { s with w := { s.w with watch := w }, twu := u } := by
  refine ⟨.ofKeys (fun k b hb => ⟨(k b hb).1, by simp [barred, theft, ha, hw]⟩) rfl rfl rfl rfl, fun h => ?_⟩
  exact .of_stopped (h.resting hs) (h.noOrders (h.resting hs)) fun hi hd => absurd (h.wiping hi hd) hs

theorem suspectCore_lawful (i : Indicator) (n : Nat) (hs : theft s ≠ .wiping) : Lawful s (suspectCore i n s) :=
  (watch_lawful _ _ hs (by simp) (by simp)).trans (queuePage_lawful _ _ _)

/-- WIPING is entered, and the Wipe Engine handed the wipe. -/
theorem wipeBegin_theftCore_lawful (c : Cause) (p : Passes) (hs : theft s ≠ .wiping) :
    Lawful s (wipeBegin c p (theftCore .wiping s)) := by
  refine ⟨(theftCore_orderly .wiping).trans (journalWait_lawful.toOrderly.after (.frame rfl rfl rfl rfl rfl)), fun h => ?_⟩
  have none := h.noOrders (h.resting hs)
  refine .of_stopped ?_ ?_ fun _ _ => ?_
  · simp [wipeBegin, journalWait]
  · simpa [wipeBegin, journalWait, Machine.noOrders] using none
  · simpa [wipeBegin, journalWait, setPlan, theft] using theft_theftCore (s := s) .wiping

/-! ### The Wipe Engine's acts -/

theorem keepBack_lawful (j : Job) : Lawful s (keepBack j s) := .frame rfl rfl rfl rfl rfl rfl

theorem handWipe_lawful (j : Job) : Lawful s (handWipe j s) :=
  .ite (fun _ => keepBack_lawful j) fun _ => .frame rfl rfl rfl rfl rfl rfl

theorem handOpenLoad_lawful : Lawful s (handOpenLoad s) :=
  .ite (fun _ => .ite (fun _ => keepBack_lawful _) fun _ => handWipe_lawful _) fun _ => .refl s

theorem ringResult_lawful (e : Ended) (a b c : Nat) : Lawful s (ringResult e a b c s) := .frame rfl rfl rfl rfl rfl rfl

theorem storeResult_lawful (e : Ended) (a b c : Nat) : Lawful s (storeResult e a b c s) :=
  (ringResult_lawful e a b c).trans (raise_lawful _)

@[simp] theorem announce_wipe : (announce s).wipe = s.wipe := by unfold announce; split <;> rfl

@[simp] theorem keepBack_orders (j : Job) : (keepBack j s).wipe.orders = s.wipe.orders := rfl
@[simp] theorem keepBack_running (j : Job) : (keepBack j s).wipe.running = s.wipe.running := rfl

theorem handOpenLoad_orders : (handOpenLoad s).wipe.orders = s.wipe.orders := by
  unfold handOpenLoad handWipe; repeat' split
  all_goals rfl

theorem handOpenLoad_running : (handOpenLoad s).wipe.running = s.wipe.running := by
  unfold handOpenLoad handWipe; repeat' split
  all_goals rfl

/-- The wipe reaches DONE, with no pass running. -/
theorem goDone_orderly : Orderly s (goDone s) :=
  (((theftCore_orderly .wiped).trans announce_lawful.toOrderly).trans handOpenLoad_lawful.toOrderly).trans
    (.frame rfl rfl rfl rfl rfl)

theorem goDone_scrub (stopped : s.wipe.running = false) (orders : Machine.noOrders s = true) : ScrubOrderly (goDone s) := by
  refine .of_stopped ?_ ?_ fun _ hd => absurd rfl hd
  · simpa [goDone, setActivity, handOpenLoad_running] using stopped
  · simpa [goDone, setActivity, Machine.noOrders, handOpenLoad_orders] using orders

theorem goDone_lawful (stopped : ScrubOrderly s → s.wipe.running = false) : Lawful s (goDone s) :=
  ⟨goDone_orderly, fun h => goDone_scrub (stopped h) (h.noOrders (stopped h))⟩

theorem namePass_orderly (n : Nat) : Orderly s (namePass n s) :=
  journalWait_lawful.toOrderly.after (.frame rfl rfl rfl rfl rfl)

theorem namePass_scrub (n : Nat) (stopped : s.wipe.running = false) (orders : Machine.noOrders s = true)
    (ht : theft s = .wiping) : ScrubOrderly (namePass n s) := by
  refine .of_stopped ?_ ?_ fun _ _ => ?_
  · simpa [namePass, journalWait] using stopped
  · simpa [namePass, journalWait, Machine.noOrders] using orders
  · simpa [namePass, journalWait, theft, setPlan] using ht

theorem namePass_lawful (n : Nat) (stopped : ScrubOrderly s → s.wipe.running = false)
    (ht : ScrubOrderly s → theft s = .wiping) : Lawful s (namePass n s) :=
  ⟨namePass_orderly n, fun h => namePass_scrub n (stopped h) (h.noOrders (stopped h)) (ht h)⟩

/-! ### Scrub orders -/

/-- The orders of a running pass may change. -/
theorem orders_lawful {x : WipeEngine} (run : ScrubOrderly s → s.wipe.running = true) (running : x.running = s.wipe.running)
    (activity : x.activity = s.wipe.activity) : Lawful s { s with wipe := x } :=
  .ofScrub (fun h => ⟨fun _ => running.trans (run h), fun _ => activity.trans (h.scanning (run h)),
    fun hi hd => h.wiping (activity ▸ hi) (activity ▸ hd)⟩) rfl rfl rfl rfl rfl

theorem issueOne_lawful (i : OrderSlot) (run : s.wipe.running = true) : Lawful s (issueOne i s) := by
  unfold issueOne
  split
  · exact .refl s
  · exact .ite (fun _ => (hand_lawful _).after (orders_lawful (fun _ => run) rfl rfl)) fun _ => .refl s

@[simp] theorem issueOne_running (i : OrderSlot) : (issueOne i s).wipe.running = s.wipe.running := by
  unfold issueOne
  split
  · rfl
  · split <;> rfl

theorem issueOrders_lawful : Lawful s (issueOrders s) := by
  refine .ite (fun hr => ?_) fun _ => .refl s
  have run : s.wipe.running = true := (Bool.and_eq_true _ _ ▸ hr).1
  exact (((issueOne_lawful 0 run).trans (issueOne_lawful 1 (by simpa using run))).trans
    (issueOne_lawful 2 (by simpa using run))).trans (issueOne_lawful 3 (by simpa using run))

theorem planTakes_lawful : Lawful s (planTakes s) := setPlan_lawful _

theorem removeFill_lawful : Lawful s (removeFill s) := .frame rfl rfl rfl rfl rfl rfl

theorem loadCover_lawful (k : MediaKey) : Lawful s (loadCover k s) := .frame rfl rfl rfl rfl rfl rfl

theorem checkpoint_lawful (n : Nat) : Lawful s (checkpoint n s) :=
  .ite (fun _ => planTakes_lawful.trans journalQueue_lawful) fun _ => .refl s

@[simp] theorem ringResult_orders (e : Ended) (a b c : Nat) : (ringResult e a b c s).wipe.orders = s.wipe.orders := rfl

/-- A pass that has ended, with its result stored and its FILL entry removed, before what comes next. -/
def passClosed (s : State) : State :=
  let r := storeResult (if s.w.plan.stop then .stopped else .complete) s.w.plan.pass s.wipe.written s.wipe.refused
    (removeFill (planTakes s))
  { r with wipe := { r.wipe with running := false } }

theorem passEnd_eq (s : State) : passEnd s =
    if lastPass (passClosed s).w.plan then goDone (passClosed s)
    else namePass (passAfter (passClosed s).w.plan.pass) (passClosed s) := rfl

theorem passClosed_orderly : Orderly s (passClosed s) := by
  have stored := (storeResult_lawful (if s.w.plan.stop then .stopped else .complete) s.w.plan.pass s.wipe.written
    s.wipe.refused).after (removeFill_lawful.after (planTakes_lawful (s := s)))
  exact stored.toOrderly.trans (.frame rfl rfl rfl rfl rfl)

@[simp] theorem passClosed_orders : (passClosed s).wipe.orders = s.wipe.orders := by
  simp [passClosed, storeResult, planTakes]

@[simp] theorem passClosed_watch : (passClosed s).w.watch = s.w.watch := by
  simp [passClosed, storeResult, planTakes]

/-- A running pass with no order open ends. -/
theorem passEnd_lawful (run : s.wipe.running = true) (orders : Machine.noOrders s = true) : Lawful s (passEnd s) := by
  have none : Machine.noOrders (passClosed s) = true := by simpa [Machine.noOrders] using orders
  rw [passEnd_eq]
  refine .ite (fun _ => ?_) fun _ => ?_
  · exact ⟨goDone_orderly.after passClosed_orderly, fun _ => goDone_scrub rfl none⟩
  · refine ⟨(namePass_orderly _).after passClosed_orderly, fun h => ?_⟩
    have scan := h.scanning run
    exact namePass_scrub _ rfl none (by
      simpa [theft] using h.wiping (by simp [scan]) (by simp [scan]))

theorem endOrIssue_lawful : Lawful s (endOrIssue s) := by
  refine .ite (fun ended => ?_) fun _ => issueOrders_lawful
  simp only [passOver, Bool.and_eq_true] at ended
  exact passEnd_lawful ended.1.1 ended.1.2

theorem orderClose_lawful (i : OrderSlot) (m n : Nat) : Lawful s (orderClose i m n s) := by
  unfold orderClose
  split
  · exact .refl s
  · rename_i o open'
    refine endOrIssue_lawful.after ((checkpoint_lawful _).after (orders_lawful (fun h => h.orders ?_) rfl rfl))
    by_contra none
    have closed' := noOrders_get (by simpa using none) i
    rw [open'] at closed'
    cases closed'

theorem orderRefuse_lawful (slot : Byte) : Lawful s (orderRefuse slot s) := by
  unfold orderRefuse
  refine .ite (fun _ => .refl s) fun _ => ?_
  dsimp only
  split
  · exact .ite (fun _ => .refl s) fun _ => orderClose_lawful _ _ _
  · exact .refl s

theorem ordersReset_lawful : Lawful s (ordersReset s) := by
  refine .ite (fun run => issueOrders_lawful.after (orders_lawful (fun _ => run) rfl rfl)) fun stopped => ?_
  refine .ofScrub (fun h => .of_stopped (by simpa using stopped) (noOrders_iff.mpr fun i => ?_) h.wiping) rfl rfl rfl rfl rfl
  simp

end

/-! # The acts of the data path keep the laws -/

/-! ## The Descriptor Queue -/

section

variable {s t : State}

theorem map_tag_editRecord (tag : Byte) (f : Transfer → Transfer) (hf : ∀ x, (f x).tag = x.tag) (ts : List Transfer) :
    (editRecord tag f ts).map Transfer.tag = ts.map Transfer.tag := by
  induction ts with
  | nil => rfl
  | cons t ts ih => unfold editRecord; split <;> simp [ih, hf]

theorem editTransfer_lawful (tag : Byte) (f : Transfer → Transfer) (hf : ∀ x, (f x).tag = x.tag) :
    Lawful s (editTransfer tag f s) := by
  have tags := map_tag_editRecord tag f hf s.dq
  have len := congrArg List.length tags
  rw [List.length_map, List.length_map] at len
  refine .ofTraffic (fun ⟨room, nodup, a, b⟩ => ⟨?_, ?_, a, b⟩) rfl rfl rfl rfl rfl
  · rwa [editTransfer_dq, len]
  · rwa [editTransfer_dq, tags]

theorem counted_tag (n a : Nat) (x : Option TStatus) (t : Transfer) : (counted n a x t).tag = t.tag := by
  unfold counted; split <;> rfl

theorem account_lawful (tag : Byte) : Lawful s (account tag s) := by
  unfold account
  split
  · exact .refl s
  · refine .ite (fun _ => ?_) fun _ => .refl s
    have handed := (hand_lawful (s := editTransfer tag (fun x => { x with stage := .completing }) s)
      (completionOf ‹_›)).after (editTransfer_lawful tag _ fun _ => rfl)
    dsimp only
    split
    · exact (orderClose_lawful _ _ _).after handed
    · exact handed

theorem report_lawful (tag : Byte) (n a : Nat) (x : Option TStatus) : Lawful s (report tag n a x s) :=
  (account_lawful tag).after (editTransfer_lawful tag _ (counted_tag n a x))

theorem release_sublist (tag : Byte) (ts : List Transfer) : (release tag ts).Sublist ts := by
  induction ts with
  | nil => exact .slnil
  | cons t ts ih =>
    unfold release
    split
    · exact List.sublist_cons_self t ts
    · exact ih.cons_cons t

theorem freedBy_lawful (m : OutMsg) : Lawful s (freedBy m s) := by
  unfold freedBy
  split
  · rename_i c
    have sub := release_sublist c.tag s.dq
    exact .ofTraffic (fun ⟨room, nodup, a, b⟩ => ⟨sub.length_le.trans room, nodup.sublist (sub.map _), a, b⟩)
      rfl rfl rfl rfl rfl
  · exact .refl s

/-! ## The lanes -/

theorem TrafficBounded.lane (h : TrafficBounded s) (l : LaneId) : (lane l s).queue.length ≤ Config.laneRoom := by
  obtain ⟨-, -, a, b⟩ := h
  cases l
  · exact a
  · exact b

/-- A lane is replaced by one whose queue has room. -/
theorem Lawful.setLane {s₀ : State} (h : Lawful s₀ s) (l : LaneId) (x : Lane)
    (hx : TrafficBounded s₀ → x.queue.length ≤ Config.laneRoom) : Lawful s₀ (setLane l x s) := by
  cases l
  · exact h.thenTraffic (fun hb => ⟨(h.traffic hb).1, (h.traffic hb).2.1, hx hb, (h.traffic hb).2.2.2⟩) rfl rfl rfl rfl rfl
  · exact h.thenTraffic (fun hb => ⟨(h.traffic hb).1, (h.traffic hb).2.1, (h.traffic hb).2.2.1, hx hb⟩) rfl rfl rfl rfl rfl

@[simp] theorem servingLane_queue (g : Segment) (q : List Segment) : (servingLane g q).queue = q := by
  unfold servingLane; split <;> rfl

theorem Lawful.startSegment {s₀ : State} (h : Lawful s₀ s) (l : LaneId) (g : Segment) (q : List Segment)
    (hq : TrafficBounded s₀ → q.length ≤ Config.laneRoom) : Lawful s₀ (startSegment l g q s) := by
  have serving := h.setLane l (servingLane g q) (by simpa using hq)
  unfold Machine.startSegment
  dsimp only
  split
  · exact (hand_lawful _).after serving
  · exact (hand_lawful _).after serving
  · exact serving

/-- A lane takes a list of segments that has room in its queue. -/
theorem Lawful.takeFrom {s₀ : State} (h : Lawful s₀ s) (l : LaneId) (q : List Segment)
    (hq : TrafficBounded s₀ → q.length ≤ Config.laneRoom + 1) : Lawful s₀ (takeFrom l q s) := by
  induction q generalizing s with
  | nil => exact h.setLane l _ fun _ => Nat.zero_le _
  | cons g q ih =>
    have room (hb : TrafficBounded s₀) : q.length ≤ Config.laneRoom := Nat.le_of_succ_le_succ (hq hb)
    unfold Machine.takeFrom
    split
    · exact ih (h.trans (report_lawful _ _ _ _)) fun hb => Nat.le_succ_of_le (room hb)
    · exact h.startSegment l g q room

theorem takeNext_lawful (l : LaneId) : Lawful s (takeNext l s) :=
  (Lawful.refl s).takeFrom l _ fun h => Nat.le_succ_of_le (h.lane l)

theorem dropSegment_lawful (l : LaneId) : Lawful s (dropSegment l s) := (Lawful.refl s).setLane l _ fun h => h.lane l

theorem endRefused_lawful (l : LaneId) (g : Segment) (x : TStatus) : Lawful s (endRefused l g x s) :=
  (takeNext_lawful l).after ((report_lawful _ _ _ _).after (dropSegment_lawful l))

theorem laneReact_lawful (l : LaneId) : Lawful s (laneReact l s) := by
  unfold laneReact
  split
  · split
    · exact endRefused_lawful l _ _
    · exact .refl s
  · exact .ite (fun _ => .refl s) fun _ => takeNext_lawful l

theorem lanesReact_lawful : Lawful s (lanesReact s) := (laneReact_lawful .b).after (laneReact_lawful .a)

theorem afterSector_lawful (l : LaneId) (g : Segment) : Lawful s (afterSector l g s) :=
  .ite (fun _ => (Lawful.refl s).setLane l _ (by simpa using fun h => TrafficBounded.lane h l))
    fun _ => (takeNext_lawful l).after (dropSegment_lawful l)

theorem transformChecked_lawful (l : LaneId) (g : Segment) (data : List Byte) : Lawful s (transformChecked l g data s) := by
  unfold transformChecked
  split
  · exact endRefused_lawful l g _
  · split
    · exact (afterSector_lawful l g).after ((report_lawful _ _ _ _).after (hand_lawful _))
    · exact .refl s

theorem laneSector_lawful (l : LaneId) (g : Segment) (a : Nat) (data : List Byte) : Lawful s (laneSector l g a data s) :=
  .ite (fun _ => transformChecked_lawful l g data) fun _ => endRefused_lawful l g _

theorem sectorArrives_lawful (d : Direction) (tag : Byte) (a : Nat) (data : List Byte) :
    Lawful s (sectorArrives d tag a data s) := by
  unfold sectorArrives
  split
  · exact laneSector_lawful _ _ _ _
  · split
    · exact laneSector_lawful _ _ _ _
    · exact .refl s

theorem fillNext_lawful (l : LaneId) : Lawful s (fillNext l s) := by
  unfold fillNext
  split
  · exact .ite (fun _ => .refl s) fun _ => transformChecked_lawful _ _ _
  · exact .refl s

theorem expire_lawful (l : LaneId) : Lawful s (expire l s) := by
  refine .ite (fun _ => ?_) fun _ => .refl s
  split
  · exact endRefused_lawful l _ _
  · exact .refl s

/-! ## Translation -/

theorem stuTake_lawful : Lawful s (stuTake s) := by
  unfold stuTake
  split
  · exact .refl s
  · split
    · refine (editTransfer_lawful _ _ ?_).after (.frame rfl rfl rfl rfl rfl rfl)
      exact fun _ => rfl
    · exact .refl s

/-- An order that is marked answered stays open. -/
theorem markAnswered_lawful (slot : Byte) : Lawful s (markAnswered slot s) := by
  refine .ofScrub (fun h => ⟨fun open' => h.orders ?_, h.scanning, h.wiping⟩) rfl rfl rfl rfl rfl
  by_contra none
  have all := noOrders_iff.mp (Bool.not_eq_false _ ▸ none)
  refine Bool.false_ne_true (open'.symm.trans (noOrders_iff.mpr fun i => ?_))
  simp only [markAnswered, get_put, all, Option.map_none, ite_self]

theorem takeDescriptor_lawful (kind tag stream : Byte) (a n : Nat) (slot : Byte) :
    Lawful s (takeDescriptor kind tag stream a n slot s) := by
  unfold takeDescriptor
  split
  · exact hand_lawful _
  · rename_i passes
    split
    · exact .refl s
    · rename_i k _
      have fresh : outstanding s tag = false := by
        by_contra dup
        simp only [admission] at passes
        split at passes
        · cases passes
        · simp_all
      have room : s.dq.length < Config.dqRoom := by
        by_contra full
        simp only [admission] at passes
        split at passes
        · cases passes
        · simp_all
      have admitted : Lawful s { s with dq := s.dq ++ [newTransfer k tag stream a n slot] } := by
        refine .ofTraffic (fun ⟨_, nodup, la, lb⟩ => ⟨by simpa using room, ?_, la, lb⟩) rfl rfl rfl rfl rfl
        have notIn : tag ∉ s.dq.map Transfer.tag := by simpa [outstanding] using fresh
        show ((s.dq ++ [newTransfer k tag stream a n slot]).map Transfer.tag).Nodup
        have added := nodup.concat notIn
        rw [List.map_append]
        rwa [List.concat_eq_append] at added
      refine stuTake_lawful.after ?_
      split
      · exact (markAnswered_lawful slot).after admitted
      · exact admitted

theorem placeSegment_lawful (l : LaneId) (g : Segment) (room : laneFull l s = false) : Lawful s (placeSegment l g s) := by
  have room' : ((lane l s).queue ++ [g]).length ≤ Config.laneRoom := by
    simp only [laneFull, decide_eq_false_iff_not, Nat.not_le] at room
    simpa using room
  unfold placeSegment
  dsimp only
  split
  · exact (Lawful.refl s).setLane l _ fun _ => room'
  · exact (Lawful.refl s).takeFrom l _ fun _ => Nat.le_succ_of_le room'

theorem placeAll_lawful (xs : List (LaneId × Segment)) (i : Nat) : Lawful s (placeAll xs i s).1 := by
  induction xs generalizing i s with
  | nil => exact .refl s
  | cons x xs ih =>
    unfold placeAll
    split
    · exact .refl s
    · rename_i room
      exact (ih (i + 1)).after (placeSegment_lawful _ _ (by simpa using room))

theorem pieceDone_lawful (tag : Byte) (e last : Nat) : Lawful s (pieceDone tag e last s) := by
  have edited : Lawful s (editTransfer tag (progressed e) { s with stu := { s.stu with piece := none, paused := false } }) := by
    refine (editTransfer_lawful tag _ ?_).after (.frame rfl rfl rfl rfl rfl rfl)
    exact fun _ => rfl
  refine .ite (fun _ => ?_) fun _ => edited
  exact stuTake_lawful.after (edited.trans (.frame rfl rfl rfl rfl rfl rfl))

theorem placePiece_lawful (tag : Byte) (x : Piece) (last : Nat) : Lawful s (placePiece tag x last s) := by
  have placed := placeAll_lawful (s := s) (x.plan.drop x.next) x.next
  unfold placePiece
  split
  · rename_i t _ ht
    rw [ht] at placed
    exact (pieceDone_lawful _ _ _).after placed
  · rename_i t i ht
    rw [ht] at placed
    exact placed.trans (.frame rfl rfl rfl rfl rfl rfl)

theorem translatePiece_lawful (x : Transfer) : Lawful s (translatePiece x s) := by
  unfold translatePiece
  dsimp only
  split
  · exact (account_lawful _).after ((pieceDone_lawful _ _ _).after (editTransfer_lawful _ _ (counted_tag _ _ _)))
  · exact placePiece_lawful _ _ _

theorem translateNext_lawful : Lawful s (translateNext s) := by
  unfold translateNext
  split
  · exact translatePiece_lawful _
  · exact .refl s

theorem resumeTranslation_lawful : Lawful s (resumeTranslation s) := by
  unfold resumeTranslation
  split
  · split
    · exact .ite (fun _ => placePiece_lawful _ _ _) fun _ => .refl s
    · exact .refl s
  · exact .refl s

end

/-! # The theft changes and the charges keep the laws -/

section

variable {s t : State}

/-! ## Changes of the theft state, with all they reach -/

theorem changeTheft_lawful (t : Theft) (hs : theft s ≠ .wiping) : Lawful s (changeTheft t s) :=
  announce_lawful.after (lanesReact_lawful.after (theftCore_lawful t hs))

theorem enterWiping_lawful (c : Cause) (p : Passes) (hs : theft s ≠ .wiping) : Lawful s (enterWiping c p s) :=
  announce_lawful.after (lanesReact_lawful.after (wipeBegin_theftCore_lawful c p hs))

theorem enterAlarm_lawful (hs : theft s ≠ .wiping) : Lawful s (enterAlarm s) := by
  unfold enterAlarm
  split
  · exact .ite (fun _ => enterWiping_lawful _ _ hs) fun _ => changeTheft_lawful _ hs
  · exact changeTheft_lawful _ hs

theorem enterSuspect_lawful (i : Indicator) (hs : theft s ≠ .wiping) : Lawful s (enterSuspect i s) := by
  unfold enterSuspect
  split
  · exact .ite (fun _ => enterAlarm_lawful hs) fun _ => announce_lawful.after (suspectCore_lawful i _ hs)
  · exact .refl s

theorem assertIndicator_lawful (i : Indicator) : Lawful s (assertIndicator i s) := by
  refine .ite (fun _ => ?_) fun _ => .refl s
  split
  · exact enterSuspect_lawful i (by simp [*])
  · exact .ite (fun _ => .refl s) fun _ => enterAlarm_lawful (by simp [*])
  · exact .refl s

theorem suspectCheck_lawful : Lawful s (suspectCheck s) := by
  refine .ite (fun check => changeTheft_lawful _ ?_) fun _ => .refl s
  simp only [Bool.and_eq_true, decide_eq_true_eq] at check
  simp [check.1]

theorem deassertIndicator_lawful (i : Indicator) : Lawful s (deassertIndicator i s) :=
  .ite (fun _ => suspectCheck_lawful) fun _ => .refl s

theorem budgetAfter_lawful (b : Bool) : Lawful s (budgetAfter b s) :=
  .ite (fun _ => .ite (fun _ => .refl s) fun _ => deassertIndicator_lawful _)
    fun _ => .ite (fun _ => assertIndicator_lawful _) fun _ => .refl s

theorem withBudget_lawful (f : State → State) (h : Lawful s (f s)) : Lawful s (withBudget f s) :=
  (budgetAfter_lawful _).after h

/-! ## Tamper, tether, grace, check-in -/

theorem setWatch_lawful (w : Watch) (h : w.theft = theft s) : Lawful s (setWatch w s) := by
  refine .frame ?_ rfl rfl rfl ?_ rfl
  · simp [keyView, h, theft]
  · simp [scrubView, h, theft]

theorem setLatch_lawful : Lawful s (setLatch s) :=
  .ite (fun _ => .refl s) fun _ =>
    (assertIndicator_lawful _).after ((queuePage_lawful _ _ _).after (setWatch_lawful _ rfl))

theorem clearLatch_lawful : Lawful s (clearLatch s) :=
  .ite (fun _ => (queuePage_lawful _ _ _).after (setWatch_lawful _ rfl)) fun _ => .refl s

theorem twu_lawful (u : WatchUnit) : Lawful s { s with twu := u } := .frame rfl rfl rfl rfl rfl rfl

theorem sampleTamper_lawful (high : Bool) : Lawful s (sampleTamper high s) :=
  .ite (fun _ => twu_lawful _) fun _ =>
    .ite (fun _ => .ite (fun _ => setLatch_lawful.after (twu_lawful _)) fun _ => twu_lawful _) fun _ => twu_lawful _

theorem sampleTether_lawful (good : Bool) : Lawful s (sampleTether good s) :=
  .ite (fun _ => .ite
      (fun _ => .ite (fun _ => (deassertIndicator_lawful _).after (twu_lawful _))
        fun _ => (assertIndicator_lawful _).after (lanesReact_lawful.after ((relock_lawful _).after (twu_lawful _))))
      fun _ => twu_lawful _)
    fun _ => twu_lawful _

theorem meterCycles_lawful (n : Nat) : Lawful s (meterCycles n s) :=
  .ite (fun _ => .ite (fun _ => (sampleTether_lawful _).after (twu_lawful _)) fun _ => twu_lawful _) fun _ => .refl s

theorem meterEdge_lawful : Lawful s (meterEdge s) :=
  .ite (fun _ => .ite (fun _ => twu_lawful _) fun _ => (sampleTether_lawful _).after (twu_lawful _)) fun _ => .refl s

theorem meterOverflow_lawful : Lawful s (meterOverflow s) :=
  .ite (fun _ => (sampleTether_lawful _).after (.frame rfl rfl rfl rfl rfl rfl)) fun _ => .refl s

theorem expireGrace_lawful : Lawful s (expireGrace s) := by
  refine .ite (fun due => enterAlarm_lawful ?_) fun _ => .refl s
  simp only [graceDue, Bool.and_eq_true, decide_eq_true_eq] at due
  simp [due.1]

theorem reachPeriod_lawful : Lawful s (reachPeriod s) := .ite (fun _ => assertIndicator_lawful _) fun _ => .refl s

theorem graceCheckpoint_lawful : Lawful s (graceCheckpoint s) := (queuePage_lawful _ _ _).after (setWatch_lawful _ rfl)

theorem tickGrace_lawful : Lawful s (tickGrace s) :=
  .ite (fun _ => .ite (fun _ => graceCheckpoint_lawful.after (twu_lawful _)) fun _ => twu_lawful _) fun _ => .refl s

theorem tickCounter_lawful : Lawful s (tickCounter s) := .ite (fun _ => twu_lawful _) fun _ => .refl s

theorem setStatus_lawful (x : CheckinStatus) : Lawful s (setStatus x s) := twu_lawful _

/-! ## The Credential Unit -/

/-- What R99 and R106 ask of one slot. -/
def SlotLimited (i : SlotId) (n : Nat) (c : Credential) (b : Nat) : Prop :=
  n ≤ c.hard ∧ (i ≠ 0 → 0 < c.hard → n = c.hard → c.state = .disabled) ∧ (0 < b → c.free < n)

theorem slotsLimited_iff : SlotsLimited s ↔ ∀ i, SlotLimited i (count s i) (cred s i) (backoffOf s i) := Iff.rfl

@[simp] theorem count_setCount (i j : SlotId) (n : Nat) : count (setCount i n s) j = if i = j then n else count s j := by
  simp [count, get_put]
@[simp] theorem cred_setCount (i j : SlotId) (n : Nat) : cred (setCount i n s) j = cred s j := rfl
@[simp] theorem backoffOf_setCount (i j : SlotId) (n : Nat) : backoffOf (setCount i n s) j = backoffOf s j := rfl
@[simp] theorem count_setCred (i j : SlotId) (c : Credential) : count (setCred i c s) j = count s j := rfl
@[simp] theorem cred_setCred (i j : SlotId) (c : Credential) : cred (setCred i c s) j = if i = j then c else cred s j := by
  simp [cred, get_put]
@[simp] theorem backoffOf_setCred (i j : SlotId) (c : Credential) : backoffOf (setCred i c s) j = backoffOf s j := rfl
@[simp] theorem count_setBackoff (i j : SlotId) (n : Nat) : count (setBackoff i n s) j = count s j := rfl
@[simp] theorem cred_setBackoff (i j : SlotId) (n : Nat) : cred (setBackoff i n s) j = cred s j := rfl
@[simp] theorem backoffOf_setBackoff (i j : SlotId) (n : Nat) :
    backoffOf (setBackoff i n s) j = if i = j then n else backoffOf s j := by
  simp [backoffOf, get_put]
@[simp] theorem count_queuePage (p : PageId) (ws : List Waiter) (j : SlotId) : count (queuePage p ws s) j = count s j := by
  simp [count]
@[simp] theorem cred_queuePage (p : PageId) (ws : List Waiter) (j : SlotId) : cred (queuePage p ws s) j = cred s j := by
  simp [cred]
@[simp] theorem backoffOf_queuePage (p : PageId) (ws : List Waiter) (j : SlotId) :
    backoffOf (queuePage p ws s) j = backoffOf s j := by
  simp [backoffOf]

theorem mustDisable_iff (i : SlotId) : mustDisable i s = true ↔ i ≠ 0 ∧ count s i = (cred s i).hard := by
  simp [mustDisable]

/-- Two states differ at most in the slots' counts, records and backoffs and in what of them is queued. -/
structure SlotWork (s t : State) : Prop where
  frame : t = { s with ks := t.ks, w := { s.w with counts := t.w.counts, creds := t.w.creds }, backoff := t.backoff }
  store : StoreOrdered s → StoreOrdered t

theorem SlotWork.refl (s : State) : SlotWork s s := ⟨rfl, id⟩

theorem SlotWork.trans {u : State} (h : SlotWork s t) (k : SlotWork t u) : SlotWork s u :=
  ⟨by rw [k.frame, h.frame], k.store ∘ h.store⟩

theorem SlotWork.queue (h : SlotWork s t) (p : PageId) (ws : List Waiter) : SlotWork s (queuePage p ws t) :=
  h.trans ⟨by rw [queuePage_frame], queuePage_storeOrdered p ws⟩

theorem SlotWork.setCount (h : SlotWork s t) (i : SlotId) (n : Nat) : SlotWork s (setCount i n t) :=
  h.trans ⟨rfl, .congr rfl⟩

theorem SlotWork.setCred (h : SlotWork s t) (i : SlotId) (c : Credential) : SlotWork s (setCred i c t) :=
  h.trans ⟨rfl, .congr rfl⟩

theorem SlotWork.setBackoff (h : SlotWork s t) (i : SlotId) (n : Nat) : SlotWork s (setBackoff i n t) :=
  h.trans ⟨rfl, .congr rfl⟩

/-- Work on the slots is lawful where it keeps the slots within their limits. -/
theorem SlotWork.lawful (h : SlotWork s t) (slots : SlotsLimited s → SlotsLimited t) : Lawful s t := by
  have hf := h.frame
  have place : placeView t = placeView s := by rw [hf]; rfl
  exact ⟨⟨.congr (by rw [hf]; rfl), slots, h.store, .congr (by rw [hf]; rfl), pending_of_place place,
    counting_of_place place⟩, .congr (by rw [hf]; rfl)⟩

/-- Work on one slot that keeps it within its limits. -/
theorem SlotWork.lawful_of_slot (h : SlotWork s t) (i : SlotId)
    (others : ∀ j, i ≠ j → count t j = count s j ∧ cred t j = cred s j ∧ backoffOf t j = backoffOf s j)
    (slot : SlotLimited i (count s i) (cred s i) (backoffOf s i) → SlotLimited i (count t i) (cred t i) (backoffOf t i)) :
    Lawful s t :=
  h.lawful fun k => slotsLimited_iff.mpr fun j => by
    by_cases hj : i = j
    · subst hj; exact slot (k i)
    · obtain ⟨hw, hc, hb⟩ := others j hj
      rw [hw, hc, hb]
      exact k j

/-- A slot that is DISABLED with no backoff may stand at its limit. -/
theorem SlotLimited.disabled {i : SlotId} {n b : Nat} {c : Credential} (h : n ≤ c.hard) (hb : b = 0) :
    SlotLimited i n { c with state := .disabled } b :=
  ⟨h, fun _ _ _ => rfl, fun hp => absurd hb (Nat.ne_of_gt hp)⟩

/-- A slot with no failures is within any limits. -/
theorem SlotLimited.zero {i : SlotId} {n b : Nat} {c : Credential} (hn : n = 0) (hb : b = 0) : SlotLimited i n c b :=
  ⟨hn ▸ Nat.zero_le _, fun _ hp he => absurd (hn ▸ he) (Nat.ne_of_lt hp), fun hp => absurd hb (Nat.ne_of_gt hp)⟩

theorem disable_work (i : SlotId) : SlotWork s (disable i s) := (((SlotWork.refl s).setCred i _).setBackoff i 0).queue _ _

@[simp] theorem count_disable (i j : SlotId) : count (disable i s) j = count s j := by simp [disable]
@[simp] theorem cred_disable (i j : SlotId) :
    cred (disable i s) j = if i = j then { cred s i with state := .disabled } else cred s j := by simp [disable]
@[simp] theorem backoffOf_disable (i j : SlotId) : backoffOf (disable i s) j = if i = j then 0 else backoffOf s j := by
  simp [disable]

/-- The count after a charge lies above the count before it and within the limit. -/
theorem raisedCount_le (c : Credential) (n : Nat) : raisedCount c n ≤ c.hard := Nat.min_le_right _ _

theorem le_raisedCount {c : Credential} {n : Nat} (h : n ≤ c.hard) : n ≤ raisedCount c n :=
  Nat.le_min.mpr ⟨Nat.le_succ n, h⟩

/-- The slot's part of a charge: the count rises, and a slot that reaches its limit is disabled, or goes on by `f`. -/
theorem charged_lawful (i : SlotId) (ws : List Waiter) (f : State → State) (work : ∀ t, SlotWork t (f t))
    (others : ∀ t j, i ≠ j → count (f t) j = count t j ∧ cred (f t) j = cred t j ∧ backoffOf (f t) j = backoffOf t j)
    (slot : ∀ t, ¬ mustDisable i t = true → count t i ≤ (cred t i).hard →
      (0 < backoffOf t i → (cred t i).free < count t i) →
      SlotLimited i (count (f t) i) (cred (f t) i) (backoffOf (f t) i)) :
    Lawful s (if mustDisable i (queuePage (attemptPage i) ws (setCount i (raisedCount (cred s i) (count s i)) s)) then
        disable i (queuePage (attemptPage i) ws (setCount i (raisedCount (cred s i) (count s i)) s))
      else f (queuePage (attemptPage i) ws (setCount i (raisedCount (cred s i) (count s i)) s))) := by
  have raised := ((SlotWork.refl s).setCount i (raisedCount (cred s i) (count s i))).queue (attemptPage i) ws
  generalize ht : queuePage (attemptPage i) ws (setCount i (raisedCount (cred s i) (count s i)) s) = t at raised ⊢
  have same (j : SlotId) (hj : i ≠ j) : count t j = count s j ∧ cred t j = cred s j ∧ backoffOf t j = backoffOf s j := by
    subst ht; simp [hj]
  have hn : count t i = raisedCount (cred s i) (count s i) := by subst ht; simp
  have hc : cred t i = cred s i := by subst ht; simp
  have hb : backoffOf t i = backoffOf s i := by subst ht; simp
  split
  · refine (raised.trans (disable_work i)).lawful_of_slot i (fun j hj => ?_) fun _ => ?_
    · simpa [hj] using same j hj
    · simpa using SlotLimited.disabled (i := i) (hn ▸ hc ▸ raisedCount_le _ _) rfl
  · rename_i notLimit
    refine (raised.trans (work t)).lawful_of_slot i (fun j hj => ?_) fun ⟨le, _, hfree⟩ => ?_
    · obtain ⟨h1, h2, h3⟩ := others t j hj
      rw [h1, h2, h3]
      exact same j hj
    · refine slot t notLimit (hn ▸ hc ▸ raisedCount_le _ _) ?_
      rw [hn, hc, hb]
      exact fun hp => (hfree hp).trans_le (le_raisedCount le)

theorem charge_lawful (i : SlotId) (ws : List Waiter) : Lawful s (charge i ws s) :=
  withBudget_lawful _ <| charged_lawful i ws id .refl (fun _ _ _ => ⟨rfl, rfl, rfl⟩) fun _ notLimit le free =>
    ⟨le, fun hi _ he => absurd ((mustDisable_iff i).mpr ⟨hi, he⟩) notLimit, free⟩

theorem backoffAfter_work (i : SlotId) : SlotWork s (backoffAfter i s) := by
  unfold backoffAfter
  split
  · exact .refl s
  · exact (SlotWork.refl s).setBackoff i _

@[simp] theorem count_backoffAfter (i j : SlotId) : count (backoffAfter i s) j = count s j := by
  unfold backoffAfter; split <;> simp
@[simp] theorem cred_backoffAfter (i j : SlotId) : cred (backoffAfter i s) j = cred s j := by
  unfold backoffAfter; split <;> simp
theorem backoffOf_backoffAfter_other {i j : SlotId} (h : i ≠ j) : backoffOf (backoffAfter i s) j = backoffOf s j := by
  unfold backoffAfter; split <;> simp [h]

/-- A backoff set after a failure runs only above the free attempts. -/
theorem backoffAfter_limited {i : SlotId} (le : count s i ≤ (cred s i).hard)
    (limit : i ≠ 0 → 0 < (cred s i).hard → count s i = (cred s i).hard → (cred s i).state = .disabled)
    (free : 0 < backoffOf s i → (cred s i).free < count s i) :
    SlotLimited i (count (backoffAfter i s) i) (cred (backoffAfter i s) i) (backoffOf (backoffAfter i s) i) := by
  rw [count_backoffAfter, cred_backoffAfter]
  refine ⟨le, limit, ?_⟩
  unfold backoffAfter
  split
  · exact free
  · exact fun _ => Nat.not_le.mp ‹_›

theorem mismatchSlot_lawful (i : SlotId) : Lawful s (mismatchSlot i s) := by
  refine withBudget_lawful _ (.ite (fun limit => .ite (fun off => ?_) fun _ => ?_) fun notLimit => ?_)
  · refine ((SlotWork.refl s).setBackoff i 0).lawful_of_slot i (fun j hj => by simp [hj]) fun ⟨le, _, _⟩ => ?_
    simpa using ⟨le, fun _ _ _ => off, by simp⟩
  · refine (disable_work i).lawful_of_slot i (fun j hj => by simp [hj]) fun ⟨le, _, _⟩ => ?_
    simpa using SlotLimited.disabled (i := i) le rfl
  · exact (backoffAfter_work i).lawful_of_slot i (fun j hj => by simp [backoffOf_backoffAfter_other hj])
      fun ⟨le, limit, free⟩ => backoffAfter_limited le limit free

theorem checkinMismatch_lawful : Lawful s (checkinMismatch s) := by
  refine (withBudget_lawful _ (charged_lawful 7 [] (backoffAfter 7) (fun _ => backoffAfter_work 7)
    (fun t j hj => by simp [backoffOf_backoffAfter_other hj]) fun _ notLimit le free => ?_)).after (setStatus_lawful .bad)
  exact backoffAfter_limited le (fun hi _ he => absurd ((mustDisable_iff 7).mpr ⟨hi, he⟩) notLimit) free

theorem clearCount_work (i : SlotId) : SlotWork s (clearCount i s) := (((SlotWork.refl s).setCount i 0).setBackoff i 0).queue _ _

@[simp] theorem count_clearCount (i j : SlotId) : count (clearCount i s) j = if i = j then 0 else count s j := by
  simp [clearCount]
@[simp] theorem cred_clearCount (i j : SlotId) : cred (clearCount i s) j = cred s j := by simp [clearCount]
@[simp] theorem backoffOf_clearCount (i j : SlotId) :
    backoffOf (clearCount i s) j = if i = j then 0 else backoffOf s j := by simp [clearCount]

/-- A slot's count is cleared after any change of its record. -/
theorem clearCount_lawful_after {u : State} (i : SlotId) (work : SlotWork s u)
    (others : ∀ j, i ≠ j → count u j = count s j ∧ cred u j = cred s j ∧ backoffOf u j = backoffOf s j) :
    Lawful s (clearCount i u) :=
  (work.trans (clearCount_work i)).lawful_of_slot i (fun j hj => by simpa [hj] using others j hj)
    fun _ => SlotLimited.zero (by simp) (by simp)

theorem clearCount_lawful (i : SlotId) : Lawful s (clearCount i s) :=
  clearCount_lawful_after i (.refl s) fun _ _ => ⟨rfl, rfl, rfl⟩

/-- A slot takes another record and starts with no failures. -/
theorem clearCount_setCred_lawful (i : SlotId) (c : Credential) : Lawful s (clearCount i (setCred i c s)) :=
  clearCount_lawful_after i ((SlotWork.refl s).setCred i c) fun j hj => by simp [hj]

theorem undisable_work (i : SlotId) : SlotWork s (undisable i s) := by
  unfold undisable
  split
  · exact ((SlotWork.refl s).setCred i _).queue _ _
  · exact .refl s

theorem undisable_others (i j : SlotId) (h : i ≠ j) :
    count (undisable i s) j = count s j ∧ cred (undisable i s) j = cred s j ∧ backoffOf (undisable i s) j = backoffOf s j := by
  unfold undisable; split <;> simp [h]

theorem adminMatch_lawful (i : SlotId) : Lawful s (adminMatch i s) :=
  .ite (fun _ => suspectCheck_lawful.after clearLatch_lawful) fun _ => .refl s

theorem matchSlot_lawful (i : SlotId) : Lawful s (matchSlot i s) :=
  (adminMatch_lawful i).after
    (withBudget_lawful _ (clearCount_lawful_after i (undisable_work i) fun j hj => undisable_others i j hj))

/-- A slot's record takes another row, salt or verifier. -/
theorem setCred_lawful (i : SlotId) (c : Credential) (hard : c.hard = (cred s i).hard) (free : c.free = (cred s i).free)
    (state : c.state = (cred s i).state) : Lawful s (setCred i c s) :=
  ((SlotWork.refl s).setCred i c).lawful_of_slot i (fun j hj => by simp [hj]) fun h => by
    simpa [SlotLimited, hard, free, state] using h

/-- The ADMIN slot's record takes another state too. -/
theorem setCred_admin_lawful (c : Credential) (hard : c.hard = (cred s 0).hard) (free : c.free = (cred s 0).free) :
    Lawful s (setCred 0 c s) :=
  ((SlotWork.refl s).setCred 0 c).lawful_of_slot 0 (fun j hj => by simp [hj]) fun h => by
    simpa [SlotLimited, hard, free] using h

theorem engine_lawful (e : Engine) : Lawful s { s with engine := e } := .frame rfl rfl rfl rfl rfl rfl

theorem strobe_lawful (token : Secret) : Lawful s (strobe token s) :=
  .ite (fun _ => .refl s) fun _ =>
    .ite (fun _ => .frame rfl rfl rfl rfl rfl rfl) fun _ => setStatus_lawful _

theorem checkinMatch_lawful : Lawful s (checkinMatch s) :=
  suspectCheck_lawful.after ((withBudget_lawful _ (clearCount_lawful 7)).after ((setStatus_lawful _).after (twu_lawful _)))

theorem compareDone_lawful (token : Secret) : Lawful s (compareDone token s) :=
  .ite (fun _ => setStatus_lawful _) fun _ => .ite (fun _ => setStatus_lawful _) fun _ =>
    .ite (fun _ => checkinMatch_lawful) fun _ => checkinMismatch_lawful

end

/-! # The requests and their jobs keep the laws -/

section

variable {s t : State}

/-! ## Mailboxes and answers -/

theorem setBox_lawful (p : Port) (h : Option Held) : Lawful s (setBox p h s) := by cases p <;> exact .frame rfl rfl rfl rfl rfl rfl

theorem writeRecord_lawful (r : Response) : Lawful s (writeRecord r s) := .frame rfl rfl rfl rfl rfl rfl

theorem respond_lawful (p : Port) (r : Response) : Lawful s (respond p r s) := by
  cases p
  · exact hand_lawful _
  · exact writeRecord_lawful r

theorem setNext_lawful (p : Port) (x : ReqStage) (room : List PageId) : Lawful s (setNext p x room s) := by
  unfold setNext
  split
  · exact setBox_lawful p _
  · exact .refl s

theorem nextAct_lawful (p : Port) (b : State) (x : ReqStage) : Lawful s (nextAct p b x s) := setNext_lawful p x _

theorem effectAct_lawful (p : Port) (b : State) (x : ReqStage) : Lawful s (effectAct p b x s) :=
  .ite (fun _ => setNext_lawful p x _) fun _ => nextAct_lawful p b x

theorem hold_lawful (p : Port) (e : Envelope) (started : Bool) (x : ReqStage) : Lawful s (hold p e started x s) :=
  setBox_lawful p _

theorem handMailbox_lawful (p : Port) (j : Job) : Lawful s (handMailbox p j s) := by
  cases p <;> exact engine_lawful _

theorem handVerify_lawful (p : Port) : Lawful s (handVerify p s) := by
  unfold handVerify
  split
  · exact (setBox_lawful p _).after (handMailbox_lawful p _)
  · exact .refl s

/-! ## Taking an envelope -/

theorem flow_lawful (p : Port) (e : Envelope) (i : SlotId) : Lawful s (flow p e i s) := by
  unfold flow
  split
  · exact respond_lawful p _
  · exact .ite (fun _ => (handVerify_lawful p).after (hold_lawful p _ _ _))
      fun _ => (nextAct_lawful p _ _).after ((charge_lawful _ _).after (hold_lawful p _ _ _))

theorem lockRequest_lawful (p : Port) (id : BitVec 16) (v : BitVec 32) : Lawful s (lockRequest p id v s) :=
  .ite (fun _ => (respond_lawful p _).after (lanesReact_lawful.after (lockBands_lawful _))) fun _ => respond_lawful p _

theorem ownRequest_lawful (p : Port) (e : Envelope) (new : Secret) : Lawful s (ownRequest p e new s) := by
  unfold ownRequest
  split
  · exact respond_lawful p _
  · exact hold_lawful p _ _ _

theorem theft_hold (p : Port) (e : Envelope) (started : Bool) (x : ReqStage) : theft (hold p e started x s) = theft s := by
  simp [theft, hold]

theorem revertRequest_lawful (p : Port) (e : Envelope) (code : Secret) (hs : theft s ≠ .wiping) :
    Lawful s (revertRequest p e code s) := by
  unfold revertRequest
  split
  · exact respond_lawful p _
  · exact (effectAct_lawful p _ _).after ((enterWiping_lawful _ _ (by rwa [theft_hold])).after (hold_lawful p _ _ _))

theorem coverPermit_lawful (x : Bool) : Lawful s { s with coverPermit := x } := .frame rfl rfl rfl rfl rfl rfl

theorem owner_lawful (p : Port) (e : Envelope) (hs : theft s = .wiping → passesInWiping e.body = true) :
    Lawful s (owner p e s) := by
  obtain ⟨id, body⟩ := e
  unfold owner
  split
  · exact respond_lawful p _
  · cases body
    case lock => exact lockRequest_lawful p _ _
    case own => exact ownRequest_lawful p _ _
    case coverClose => exact (coverPermit_lawful false).trans (respond_lawful p _)
    case revert => exact revertRequest_lawful p _ _ fun hw => Bool.false_ne_true (hs hw)
    case statusQuery => exact respond_lawful p _
    case undefined => exact respond_lawful p _
    all_goals exact flow_lawful p _ _

theorem takeEnvelope_lawful (p : Port) (e : Envelope) : Lawful s (takeEnvelope p e s) := by
  unfold takeEnvelope
  split
  · exact respond_lawful p _
  · split
    · exact respond_lawful p _
    · rename_i passes
      refine owner_lawful p e fun hw => ?_
      by_contra denied
      simp only [mailboxCheck] at passes
      split at passes
      · cases passes
      · split at passes
        · cases passes
        · simp [hw, denied] at passes

/-! ## What a match does -/

theorem clearSlot_lawful (x : LimitArgs) (i : SlotId) : Lawful s (clearSlot x i s) :=
  withBudget_lawful _ <| (queuePage_lawful _ _ _).after <|
    clearCount_setCred_lawful i _

theorem matchSetCred_lawful (x : LimitArgs) (new : Option Secret) : Lawful s (matchSetCred x new s).1 := by
  unfold matchSetCred
  dsimp only
  split
  · split <;> exact .refl s
  · exact clearSlot_lawful x _

theorem matchRevoke_lawful (x : RowArgs) : Lawful s (matchRevoke x s).1 :=
  (queuePage_lawful _ _ _).after (setCred_lawful _ _ rfl rfl rfl)

theorem matchBandSet_lawful (x : BandArgs) : Lawful s (matchBandSet x s).1 := by
  unfold matchBandSet; split <;> exact .refl s

theorem meterResponds_lawful (a b : DriveConfig) : Lawful s (meterResponds a b s) :=
  .ite (fun _ => .refl s) fun _ =>
    .ite (fun _ => (deassertIndicator_lawful _).after (twu_lawful _)) fun _ => twu_lawful _

theorem applyConfig_lawful (c : DriveConfig) : Lawful s (applyConfig c s) :=
  (meterResponds_lawful _ _).after ((queuePage_lawful _ _ _).after (.frame rfl rfl rfl rfl rfl rfl))

theorem armWith_lawful (p : Policy) : Lawful s (armWith p s) := by
  have set : Lawful s (setWatch { s.w.watch with policy := some p } { s with twu := { s.twu with counter := 0 } }) :=
    (twu_lawful (s := s) { s.twu with counter := 0 }).trans (setWatch_lawful _ rfl)
  refine .ite (fun dormant => ?_) fun _ => (queuePage_lawful _ _ _).after set
  exact (changeTheft_lawful _ (by rw [dormant]; simp)).after set

theorem matchWatchArm_lawful (x : WatchArgs) : Lawful s (matchWatchArm x s).1 := by
  unfold matchWatchArm
  split
  · exact .refl s
  · split
    · exact .refl s
    · split
      · exact .refl s
      · exact armWith_lawful _

theorem matchWatchDisarm_lawful : Lawful s (matchWatchDisarm s).1 := by
  unfold matchWatchDisarm
  split
  · exact changeTheft_lawful _ (by simp [*])
  · exact changeTheft_lawful _ (by simp [*])
  · exact .refl s
  · exact .refl s

/-- WATCH_RECOVER clears counts and backoffs of every slot that is not DISABLED. -/
theorem recoverClear_lawful : Lawful s (recoverClear s) := by
  refine .ofSlots (fun h => slotsLimited_iff.mpr fun i => ?_) rfl rfl rfl rfl rfl
  have hn : count (recoverClear s) i = recoveredCount s i := get_tab8 _ i
  have hb : backoffOf (recoverClear s) i = recoveredBackoff s i := get_tab8 _ i
  have hc : cred (recoverClear s) i = cred s i := rfl
  rw [hn, hb, hc]
  unfold recoveredCount recoveredBackoff
  split
  · exact h i
  · exact SlotLimited.zero rfl rfl

theorem matchRecover_lawful : Lawful s (matchRecover s).1 := by
  unfold matchRecover
  split
  · exact .refl s
  · rename_i alarm
    have alarm' : theft (recoverClear s) ≠ .wiping := by
      have same : theft (recoverClear s) = theft s := rfl
      simp only [ne_eq, Decidable.not_not] at alarm
      rw [same, alarm]; simp
    dsimp only
    exact recoverClear_lawful.trans ((changeTheft_lawful _ alarm').trans (queuePages_lawful _ _ _))

theorem matchRemoteWipe_lawful : Lawful s (matchRemoteWipe s).1 := by
  unfold matchRemoteWipe
  split
  · exact enterWiping_lawful _ _ (by simp [*])
  · exact enterWiping_lawful _ _ (by simp [*])
  · exact enterWiping_lawful _ _ (by simp [*])
  · exact .refl s
  · exact .refl s
  · exact .refl s

theorem matchWipeNow_lawful (p : Passes) : Lawful s (matchWipeNow p s).1 := by
  unfold matchWipeNow
  split
  · exact enterWiping_lawful _ _ (by simp [*])
  · exact enterWiping_lawful _ _ (by simp [*])
  · exact enterWiping_lawful _ _ (by simp [*])
  · exact enterWiping_lawful _ _ (by simp [*])
  · exact .refl s
  · exact .refl s

theorem setStop_lawful : Lawful s (setStop s) := journalQueue_lawful.after (setPlan_lawful _)

theorem matchScrubStop_lawful : Lawful s (matchScrubStop s).1 := by
  unfold matchScrubStop
  split
  · split
    · exact setStop_lawful
    · rename_i stopped
      have ended := (storeResult_lawful .stopped s.w.plan.pass s.w.plan.written s.w.plan.refused).after
        (setStop_lawful (s := s))
      refine (goDone_lawful fun _ => ?_).after ended
      have kept : (storeResult .stopped s.w.plan.pass s.w.plan.written s.w.plan.refused (setStop s)).wipe.running =
          s.wipe.running := by
        simp [storeResult, ringResult, setStop, journalQueue]
      rw [kept]
      simpa using stopped
  · exact .refl s

theorem matchKind_lawful (e : Envelope) (i : SlotId) : Lawful s (matchKind e i s).1 := by
  unfold matchKind
  split
  case h_1 | h_2 => exact .refl s
  case h_3 => exact matchSetCred_lawful _ _
  case h_4 => exact .refl s
  case h_5 => exact matchRevoke_lawful _
  case h_6 => exact matchBandSet_lawful _
  case h_7 => exact .refl s
  case h_8 => exact applyConfig_lawful _
  case h_9 => exact coverPermit_lawful true
  case h_10 => exact matchWatchArm_lawful _
  case h_11 => exact matchWatchDisarm_lawful
  case h_12 => exact matchRecover_lawful
  case h_13 => exact matchRemoteWipe_lawful
  case h_14 => exact matchWipeNow_lawful _
  case h_15 => exact matchScrubStop_lawful
  case h_16 => exact .refl s

theorem verified_lawful (p : Port) (h : Held) (i : SlotId) : Lawful s (verified p h i s) :=
  .ite (fun _ => nextAct_lawful p _ _) fun _ =>
    .ite (fun _ => (effectAct_lawful p _ _).after ((matchKind_lawful _ _).after (matchSlot_lawful i)))
      fun _ => (nextAct_lawful p _ _).after (mismatchSlot_lawful i)

/-! ## The effect jobs of requests -/

theorem failEntropy_lawful : Lawful s (failEntropy s) := .frame rfl rfl rfl rfl rfl rfl

theorem noEntropy_lawful (p : Port) : Lawful s (noEntropy p s) := (nextAct_lawful p _ _).after failEntropy_lawful

theorem applyUnlocks_lawful (x : UnlockArgs) (u : WrapUnder) (ws : List (BandId × Wrap)) : Lawful s (applyUnlocks x u ws s) := by
  induction ws generalizing s with
  | nil => exact .refl s
  | cons w ws ih => exact ih.after (unlockBand_lawful _ _ _ _)

theorem unlockDone_lawful (p : Port) (h : Held) (salt : Secret) (ws : List (BandId × Wrap)) :
    Lawful s (unlockDone p h salt ws s) :=
  .ite (fun _ => nextAct_lawful p _ _)
    fun _ => (nextAct_lawful p _ _).after (lanesReact_lawful.after (applyUnlocks_lawful _ _ _))

theorem applyOwn_lawful (new salt : Secret) : Lawful s (applyOwn new salt s) := by
  refine (withBudget_lawful _ (clearCount_lawful 0)).after ((queuePage_lawful _ _ _).after ?_)
  refine .ite (fun wiped => ?_) fun _ => setCred_admin_lawful _ rfl rfl
  exact (changeTheft_lawful _ (by rw [wiped]; simp)).after (setCred_admin_lawful _ rfl rfl)

theorem ownDone_lawful (p : Port) (h : Held) (d : Draw) : Lawful s (ownDone p h d s) := by
  unfold ownDone
  split
  · exact (nextAct_lawful p _ _).after (applyOwn_lawful _ _)
  · exact noEntropy_lawful p

theorem applySetCred_lawful (h : Held) (x : LimitArgs) (new salt : Secret) : Lawful s (applySetCred h x new salt s) := by
  unfold applySetCred
  exact withBudget_lawful _ ((clearCount_setCred_lawful _ _).trans (queuePage_lawful _ _ _))

theorem applySetCredAdmin_lawful (h : Held) (x : LimitArgs) (new salt : Secret) :
    Lawful s (applySetCredAdmin h x new salt s) := by
  unfold applySetCredAdmin
  exact withBudget_lawful _ ((clearCount_setCred_lawful _ _).trans (queuePage_lawful _ _ _))

theorem setCredDone_lawful (p : Port) (h : Held) (d : Draw) : Lawful s (setCredDone p h d s) := by
  unfold setCredDone
  split
  · exact (nextAct_lawful p _ _).after (applySetCred_lawful _ _ _ _)
  · exact noEntropy_lawful p

theorem setCredAdminDone_lawful (p : Port) (h : Held) (d : Draw) : Lawful s (setCredAdminDone p h d s) := by
  unfold setCredAdminDone
  split
  · exact (nextAct_lawful p _ _).after (applySetCredAdmin_lawful _ _ _ _)
  · exact noEntropy_lawful p

theorem grantDone_lawful (p : Port) (h : Held) : Lawful s (grantDone p h s) := by
  unfold grantDone
  split
  · exact .ite (fun _ => nextAct_lawful p _ _) fun _ => .ite (fun _ => nextAct_lawful p _ _) fun _ =>
      .ite (fun _ => nextAct_lawful p _ _) fun _ =>
        (nextAct_lawful p _ _).after ((queuePage_lawful _ _ _).after (setCred_lawful _ _ rfl rfl rfl))
  · exact .refl s

theorem setRecord_lawful (b : BandId) (r : BandRecord) : Lawful s (setRecord b r s) := .frame rfl rfl rfl rfl rfl rfl

theorem setSecret_lawful (b : BandId) (x : Option Secret) : Lawful s (setSecret b x s) := .frame rfl rfl rfl rfl rfl rfl

theorem applyBandSet_lawful (h : Held) (x : BandArgs) : Lawful s (applyBandSet h x s) := by
  refine (queuePage_lawful _ _ _).after (lanesReact_lawful.after ?_)
  exact .ite (fun _ => (settleBand_lawful _ _).after (setRecord_lawful _ _)) fun _ => setRecord_lawful _ _

theorem bandSetDone_lawful (p : Port) (h : Held) : Lawful s (bandSetDone p h s) := by
  unfold bandSetDone
  split
  · exact (nextAct_lawful p _ _).after (applyBandSet_lawful _ _)
  · exact .refl s

theorem replaceSecret_lawful (p : Port) (b : BandId) (z : Secret) (key : MediaKey) (wrap : Option Wrap) :
    Lawful s (replaceSecret p b z key wrap s) :=
  (nextAct_lawful p _ _).after
    ((queuePage_lawful _ _ _).after ((setSecret_lawful _ _).after (lanesReact_lawful.after (holdClosed_lawful b))))

theorem bandSetRangeDone_lawful (p : Port) (h : Held) (d : Draw) : Lawful s (bandSetRangeDone p h d s) := by
  unfold bandSetRangeDone
  split
  · exact replaceSecret_lawful p _ _ _ _
  · exact noEntropy_lawful p

theorem bandEraseDone_lawful (p : Port) (h : Held) (d : Draw) : Lawful s (bandEraseDone p h d s) := by
  unfold bandEraseDone
  split
  · exact replaceSecret_lawful p _ _ _ _
  · exact noEntropy_lawful p

theorem bandRangeWritten_lawful (x : BandArgs) (key : MediaKey) (wrap : Option Wrap) :
    Lawful s (bandRangeWritten x key wrap s) :=
  lanesReact_lawful.after ((settleBand_lawful _ _).after ((unhold_lawful _).after
    ((queuePage_lawful _ _ _).after ((bumpRange_lawful _).after (setRecord_lawful _ _)))))

theorem secretWritten_lawful (body : Body) (key : MediaKey) (wrap : Option Wrap) :
    Lawful s (secretWritten body key wrap s) := by
  unfold secretWritten
  split
  · exact bandRangeWritten_lawful _ _ _
  · exact lanesReact_lawful.after ((settleBand_lawful _ _).after (unhold_lawful _))
  · exact .refl s

theorem openLoadDone_lawful : Lawful s (openLoadDone s) := lanesReact_lawful.after applyOpenLoads_lawful

theorem recoverDone_lawful (p : Port) : Lawful s (recoverDone p s) := (nextAct_lawful p _ _).after openLoadDone_lawful

/-! ## The Wipe Engine's jobs -/

theorem replaceRoot_lawful (r : Secret) : Lawful s (replaceRoot r s) :=
  (queuePage_lawful _ _ _).after (.frame rfl rfl rfl rfl rfl rfl)

/-- An act that leaves the Wipe Engine and the theft state brings the engine from one activity to the next. -/
theorem Lawful.thenActivity {u : State} (h : Lawful s t)
    (same : ScrubOrderly s → theft s = .wiping → noOrders s = true → t.wipe = s.wipe ∧ theft t = theft s)
    (hi : s.wipe.activity ≠ .idle) (hd : s.wipe.activity ≠ .doneWait) (hs : s.wipe.activity ≠ .scanning) {x : WipeEngine}
    (hu : u = { t with wipe := x }) (orders : x.orders = t.wipe.orders) (running : x.running = t.wipe.running) :
    Lawful s u := by
  subst hu
  refine ⟨h.toOrderly.trans (.frame rfl rfl rfl rfl rfl), fun k => ?_⟩
  have hw := k.wiping hi hd
  have stopped := k.stopped hs
  obtain ⟨wipe, theft⟩ := same k hw (k.noOrders stopped)
  rw [wipe] at orders running
  exact .of_stopped (running.trans stopped) (by simpa only [noOrders, orders] using k.noOrders stopped)
    fun _ _ => theft.trans hw

theorem rootDone_lawful (d : Draw) : Lawful s (rootDone d s) := by
  refine .ite (fun active => ?_) fun _ => .refl s
  split
  · exact (replaceRoot_lawful _).thenActivity (fun _ _ _ => by simp [replaceRoot, theft]) (by simp [active])
      (by simp [active]) (by simp [active]) rfl rfl rfl
  · refine Lawful.thenActivity (t := queuePage rootPage [.wipe] (failEntropy { s with w := { s.w with root := none } })) ?_
      (fun _ _ _ => by simp [theft]) (by simp [active]) (by simp [active]) (by simp [active]) rfl rfl rfl
    exact (queuePage_lawful _ _ _).after (.frame rfl rfl rfl rfl rfl rfl)

theorem coverZeroDone_lawful : Lawful s (coverZeroDone s) :=
  .ite (fun active => setActivity_lawful_of_active _ (by simp [active]) (by simp [active]) (by simp [active])) fun _ => .refl s

theorem wipeNoEntropy_lawful (hi : s.wipe.activity ≠ .idle) (hd : s.wipe.activity ≠ .doneWait)
    (hs : s.wipe.activity ≠ .scanning) : Lawful s (wipeNoEntropy s) :=
  (setActivity_lawful_of_active (s := failEntropy s) _ hi hd hs).after failEntropy_lawful

theorem rebuildRootDone_lawful (d : Draw) : Lawful s (rebuildRootDone d s) := by
  refine .ite (fun active => ?_) fun _ => .refl s
  split
  · exact (replaceRoot_lawful _).thenActivity (fun _ _ _ => by simp [replaceRoot, theft]) (by simp [active])
      (by simp [active]) (by simp [active]) rfl rfl rfl
  · exact wipeNoEntropy_lawful (by simp [active]) (by simp [active]) (by simp [active])

end

/-! # What follows at once, the link, the window and a tick keep the laws -/

section

variable {s t : State}

/-- REBUILD's admin job leaves every slot with no failures. -/
theorem rebuildSlots_lawful (salt : Secret) : Lawful s (rebuildSlots salt s) := by
  refine withBudget_lawful _ ((queuePages_lawful _ _ _).after ?_)
  exact .ofSlots (fun _ => slotsLimited_iff.mpr fun i => SlotLimited.zero (get_replicate 0 i) (get_replicate 0 i))
    rfl rfl rfl rfl rfl

/-- In WIPING the failure sum moves nothing, so that REBUILD's admin job leaves the theft state and the Wipe Engine. -/
theorem rebuildSlots_of_wiping (salt : Secret) (hs : theft s = .wiping) :
    (rebuildSlots salt s).wipe = s.wipe ∧ theft (rebuildSlots salt s) = theft s := by
  have same (x : State) (ps : List PageId) (ws : List Waiter) : theft (queuePages ps ws x) = theft x := by simp [theft]
  unfold rebuildSlots
  rw [withBudget_still _ (by simp [theft] at hs ⊢; simp [hs]) (by simp [theft] at hs ⊢; simp [hs])]
  simp [theft]

theorem rebuildAdminDone_lawful (d : Draw) : Lawful s (rebuildAdminDone d s) := by
  refine .ite (fun active => ?_) fun _ => .refl s
  split
  · exact (rebuildSlots_lawful _).thenActivity (fun _ hw _ => rebuildSlots_of_wiping _ hw) (by simp [active])
      (by simp [active]) (by simp [active]) rfl rfl rfl
  · exact wipeNoEntropy_lawful (by simp [active]) (by simp [active]) (by simp [active])

theorem rebuildBand_lawful (b : BandId) (z kb : Secret) : Lawful s (rebuildBand b z kb s) := by
  unfold rebuildBand
  dsimp only
  refine Lawful.trans ?_ (queuePages_lawful _ _ _)
  refine (setSecret_lawful b (some z)).trans ((setRecord_lawful b _).trans (setCred_lawful 0 _ ?_ ?_ ?_)) <;> rfl

theorem rebuildBand_wipe (b : BandId) (z kb : Secret) :
    (rebuildBand b z kb s).wipe = s.wipe ∧ theft (rebuildBand b z kb s) = theft s := by simp [rebuildBand, theft]

theorem rebuildBandDone_lawful (b : BandId) (x y : Draw) : Lawful s (rebuildBandDone b x y s) := by
  refine .ite (fun active => ?_) fun _ => .refl s
  split
  · exact (rebuildBand_lawful b _ _).thenActivity (fun _ _ _ => rebuildBand_wipe b _ _) (by simp [active])
      (by simp [active]) (by simp [active]) rfl rfl rfl
  · exact wipeNoEntropy_lawful (by simp [active]) (by simp [active]) (by simp [active])

theorem passBegin_lawful (k : Secret) (active : s.wipe.activity = .fillJob) : Lawful s (passBegin k s) := by
  unfold passBegin
  dsimp only
  refine endOrIssue_lawful.after ?_
  refine .ofScrub (fun h => ⟨fun _ => rfl, fun _ => rfl, fun _ _ => ?_⟩) rfl rfl rfl rfl rfl
  exact h.wiping (by simp [active]) (by simp [active])

theorem fillKeyDone_lawful (d : Draw) : Lawful s (fillKeyDone d s) := by
  unfold fillKeyDone
  split
  · exact .ite (fun active => passBegin_lawful _ active) fun _ => .refl s
  · exact .ite (fun active => wipeNoEntropy_lawful (by simp [active]) (by simp [active]) (by simp [active]))
      fun _ => failEntropy_lawful

/-! ## What follows at once from every act -/

theorem roomMoved_lawful (p : Port) : Lawful s (roomMoved p s) := by
  unfold roomMoved
  split
  · exact .refl s
  · exact setBox_lawful p _

theorem advanceBox_lawful (p : Port) : Lawful s (advanceBox p s) := by
  unfold advanceBox
  split
  · exact .refl s
  · split
    · exact .ite (fun _ => .refl s) fun _ => handVerify_lawful p
    · exact .ite (fun _ => (handMailbox_lawful p _).trans (setBox_lawful p _)) fun _ => .refl s
    · exact .ite (fun _ => .refl s) fun _ => (secretWritten_lawful _ _ _).trans (nextAct_lawful p _ _)
    · exact .refl s

theorem link_lawful (x : LinkPort) : Lawful s { s with link := x } := .frame rfl rfl rfl rfl rfl rfl

theorem deliver_lawful (p : Port) (r : Response) : Lawful s (deliver p r s) := by
  unfold deliver
  dsimp only
  split
  · split
    · exact (setBox_lawful .link none).trans (link_lawful _)
    · exact (setBox_lawful _ _).trans (respond_lawful _ _)
  · exact (setBox_lawful _ _).trans (respond_lawful _ _)

theorem answerBox_lawful (p : Port) : Lawful s (answerBox p s) := by
  unfold answerBox
  split
  · exact .refl s
  · split
    · exact .ite (fun _ => deliver_lawful p _) fun _ => .refl s
    · exact .refl s

theorem progressBox_lawful (p : Port) : Lawful s (progressBox p s) :=
  (roomMoved_lawful p).trans ((advanceBox_lawful p).trans (answerBox_lawful p))

theorem coverReload_lawful (k : MediaKey) : Lawful s (coverReload k s) := (loadCover_lawful k).trans lanesReact_lawful

/-- With no order open the COVER entry's load leaves the Wipe Engine and the working copy. -/
theorem coverReload_same (k : MediaKey) (h : noOrders s = true) :
    (coverReload k s).wipe = s.wipe ∧ (coverReload k s).w = s.w :=
  have quiet := lanesReact_traffic (s := loadCover k s) h
  ⟨quiet.wipe, quiet.w⟩

theorem rootWritten_lawful (k : MediaKey) (hi : s.wipe.activity ≠ .idle) (hd : s.wipe.activity ≠ .doneWait)
    (hs : s.wipe.activity ≠ .scanning) : Lawful s (rootWritten k s) := by
  have named : Lawful s (journalWait (setPlan { s.w.plan with phase := .rebuild } (coverReload k s))) :=
    (coverReload_lawful k).trans ((setPlan_lawful _).trans journalWait_lawful)
  refine named.thenActivity (fun _ _ none => ?_) hi hd hs rfl rfl rfl
  obtain ⟨wipe, w⟩ := coverReload_same k none
  simp [journalWait, theft, wipe, w]

theorem rebuildRootWritten_lawful (k : MediaKey) (hi : s.wipe.activity ≠ .idle) (hd : s.wipe.activity ≠ .doneWait)
    (hs : s.wipe.activity ≠ .scanning) : Lawful s (rebuildRootWritten k s) := by
  refine (handWipe_lawful _).after ((coverReload_lawful k).thenActivity (fun _ _ none => ?_) hi hd hs rfl rfl rfl)
  obtain ⟨wipe, w⟩ := coverReload_same k none
  exact ⟨wipe, congrArg (fun w => w.watch.theft) w⟩

theorem abandonScrub_lawful (stopped : ScrubOrderly s → s.wipe.running = false) : Lawful s (abandonScrub s) := by
  have stored := storeResult_lawful (s := s) .abandoned (if s.w.plan.pass = 0 then 1 else s.w.plan.pass) s.w.plan.written
    s.w.plan.refused
  refine ⟨stored.toOrderly.trans goDone_orderly, fun h => goDone_scrub ?_ ?_⟩
  · simpa [storeResult, ringResult] using stopped h
  · simpa [storeResult, noOrders] using h.noOrders (stopped h)

theorem rebuildEnds_lawful (hi : s.wipe.activity ≠ .idle) (hd : s.wipe.activity ≠ .doneWait)
    (hs : s.wipe.activity ≠ .scanning) : Lawful s (rebuildEnds s) :=
  .ite (fun _ => goDone_lawful fun h => h.stopped hs) fun _ =>
    .ite (fun _ => abandonScrub_lawful fun h => h.stopped hs) fun _ =>
      namePass_lawful 1 (fun h => h.stopped hs) fun h => h.wiping hi hd

theorem endRebuild_lawful (hi : s.wipe.activity ≠ .idle) (hd : s.wipe.activity ≠ .doneWait)
    (hs : s.wipe.activity ≠ .scanning) : Lawful s (endRebuild s) :=
  .ite (fun _ => .refl s) fun _ => rebuildEnds_lawful hi hd hs

theorem rebuildConfig_lawful : Lawful s (rebuildConfig s) :=
  (queuePage_lawful _ _ _).after (.frame rfl rfl rfl rfl rfl rfl)

theorem rebuildConfigured_lawful (hi : s.wipe.activity ≠ .idle) (hd : s.wipe.activity ≠ .doneWait)
    (hs : s.wipe.activity ≠ .scanning) : Lawful s (rebuildConfigured s) := by
  have set : Lawful s (setActivity .rebuildEnd (rebuildConfig s)) :=
    rebuildConfig_lawful.thenActivity (fun _ _ _ => by simp [rebuildConfig, theft]) hi hd hs rfl rfl rfl
  exact set.trans (endRebuild_lawful (by simp) (by simp) (by simp))

/-- The Wipe Engine hands a job as it turns to the activity of that job. -/
theorem setActivity_handWipe_lawful (j : Job) (a : WipeActivity) (hi : s.wipe.activity ≠ .idle)
    (hd : s.wipe.activity ≠ .doneWait) (hs : s.wipe.activity ≠ .scanning) : Lawful s (handWipe j (setActivity a s)) :=
  (setActivity_lawful_of_active a hi hd hs).trans (handWipe_lawful j)

theorem rebuildBegin_lawful (hi : s.wipe.activity ≠ .idle) (hd : s.wipe.activity ≠ .doneWait)
    (hs : s.wipe.activity ≠ .scanning) : Lawful s (rebuildBegin s) :=
  .ite (fun _ => setActivity_handWipe_lawful _ _ hi hd hs) fun _ => setActivity_handWipe_lawful _ _ hi hd hs

theorem wipedWritten_lawful (hs : s.wipe.activity ≠ .scanning) : Lawful s (wipedWritten s) := by
  have named : Lawful s (journalQueue (setPlan { s.w.plan with phase := .done } s)) :=
    (setPlan_lawful _).trans journalQueue_lawful
  refine ⟨named.toOrderly.trans (.frame rfl rfl rfl rfl rfl), fun h => .of_stopped ?_ ?_ (by simp [wipedWritten])⟩
  · simpa [wipedWritten, journalQueue, setActivity] using h.stopped hs
  · simpa [wipedWritten, journalQueue, setActivity, noOrders] using h.noOrders (h.stopped hs)

theorem progressWipe_lawful : Lawful s (progressWipe s) := by
  unfold progressWipe
  split
  case h_11 => exact .refl s
  all_goals rename_i active
  case h_1 | h_2 | h_6 | h_9 =>
    exact .ite (fun _ => .refl s) fun _ => setActivity_handWipe_lawful _ _ (by simp [active]) (by simp [active]) (by simp [active])
  case h_3 => exact .ite (fun _ => .refl s) fun _ => rootWritten_lawful _ (by simp [active]) (by simp [active]) (by simp [active])
  case h_4 => exact .ite (fun _ => rebuildBegin_lawful (by simp [active]) (by simp [active]) (by simp [active])) fun _ => .refl s
  case h_5 =>
    exact .ite (fun _ => .refl s) fun _ => rebuildRootWritten_lawful _ (by simp [active]) (by simp [active]) (by simp [active])
  case h_7 =>
    exact .ite (fun _ => .refl s) fun _ => rebuildConfigured_lawful (by simp [active]) (by simp [active]) (by simp [active])
  case h_8 => exact endRebuild_lawful (by simp [active]) (by simp [active]) (by simp [active])
  case h_10 => exact .ite (fun _ => .refl s) fun _ => wipedWritten_lawful (by simp [active])

theorem handHeldWipe_lawful : Lawful s (handHeldWipe s) := by
  unfold handHeldWipe
  split
  · exact .ite (fun _ => .refl s) fun _ => .frame rfl rfl rfl rfl rfl rfl
  · exact .refl s

theorem withdraw_lawful (p : Port) : Lawful s (withdraw p s) := by cases p <;> exact engine_lawful _

theorem markStarted_lawful (p : Port) : Lawful s (markStarted p s) := by
  unfold markStarted
  split
  · exact setBox_lawful p _
  · exact .refl s

theorem grantMailbox_lawful (p : Port) (j : Job) : Lawful s (grantMailbox p j s) :=
  (withdraw_lawful p).trans ((engine_lawful _).trans (markStarted_lawful p))

theorem grant_lawful : Lawful s (grant s) := by
  unfold grant
  split
  · exact .refl s
  · split
    · exact engine_lawful _
    · split
      · exact engine_lawful _
      · split
        · exact engine_lawful _
        · split
          · exact grantMailbox_lawful _ _
          · split
            · exact grantMailbox_lawful _ _
            · exact .refl s

/-- What follows at once from an act is lawful. -/
theorem settle_lawful : Lawful s (settle s) :=
  (serviceStore_lawful s).trans ((progressBox_lawful .link).trans ((progressBox_lawful .side).trans
    (progressWipe_lawful.trans ((serviceStore_lawful _).trans (handHeldWipe_lawful.trans grant_lawful)))))

/-! ## The media link and the sideband -/

theorem takeMessage_lawful (m : InMsg) : Lawful s (takeMessage m s) := by
  unfold takeMessage
  split
  · exact takeDescriptor_lawful _ _ _ _ _ _
  · exact .ite (fun _ => sectorArrives_lawful _ _ _ _) fun _ => .refl s
  · exact .ite (fun _ => sectorArrives_lawful _ _ _ _) fun _ => .refl s
  · exact takeEnvelope_lawful _ _
  · exact orderRefuse_lawful _

theorem drain_lawful (ms : List InMsg) : Lawful s (drain ms s) := by
  induction ms generalizing s with
  | nil => exact link_lawful _
  | cons m ms ih => exact .ite (fun _ => link_lawful _) fun _ => (takeMessage_lawful m).trans (settle_lawful.trans ih)

theorem receive_lawful (m : InMsg) : Lawful s (receive m s) := .ite (fun _ => drain_lawful _) fun _ => .refl s

theorem send_lawful : Lawful s (send s) := by
  unfold send
  split
  · exact .refl s
  · exact (link_lawful _).trans ((freedBy_lawful _).trans (drain_lawful _))

theorem resetMailbox_lawful : Lawful s (resetMailbox s) := by
  unfold resetMailbox
  split
  · exact .refl s
  · exact .ite (fun _ => link_lawful _) fun _ => (withdraw_lawful .link).trans (setBox_lawful .link none)

theorem emptyLink_lawful : Lawful s (emptyLink s) :=
  .ofTraffic (fun _ => ⟨Nat.zero_le _, List.nodup_nil, Nat.zero_le _, Nat.zero_le _⟩) rfl rfl rfl rfl rfl

theorem linkReset_lawful : Lawful s (linkReset s) :=
  emptyLink_lawful.trans ((coverPermit_lawful false).trans ((relock_lawful .linkReset).trans (resetMailbox_lawful.trans
    ((link_lawful _).trans ordersReset_lawful))))

theorem receiveBytes_lawful (xs : List Byte) : Lawful s (receiveBytes xs s) := by
  refine .ite (fun _ => ?_) fun _ => .refl s
  split
  · exact .refl s
  · exact linkReset_lawful.trans settle_lawful
  · exact receive_lawful _

theorem psp_lawful (x : Sideband) : Lawful s { s with psp := x } := .frame rfl rfl rfl rfl rfl rfl

theorem markRead_lawful (r : OrderSlot) : Lawful s (markRead r s) :=
  .ite (fun _ => .refl s) fun _ => .frame rfl rfl rfl rfl rfl rfl

theorem latchItem_lawful (i : Item) : Lawful s (latchItem i s) := by
  have latched : Lawful s { s with psp := { s.psp with latch := some (i, itemBytes s i) } } := psp_lawful _
  unfold latchItem
  dsimp only
  split
  · exact latched.trans (markRead_lawful _)
  · exact latched

theorem readEffect_lawful (a : Nat) : Lawful s (readEffect a s) := by
  unfold readEffect
  split
  · exact .ite (fun _ => latchItem_lawful _) fun _ => .refl s
  · exact .ite (fun _ => psp_lawful _) fun _ => .refl s

theorem pointAfter_lawful (a : Nat) : Lawful s (pointAfter a s) := psp_lawful _

theorem beginByte_lawful (a : Nat) : Lawful s (beginByte a s) :=
  (readEffect_lawful a).trans ((pointAfter_lawful a).trans (psp_lawful _))

theorem eventWrite_lawful (v : Byte) : Lawful s (eventWrite v s) :=
  .ite (fun _ => .refl s) fun _ => .ite (fun _ => (relock_lawful _).trans lanesReact_lawful) fun _ =>
    .ite (fun _ => (relock_lawful _).trans lanesReact_lawful) fun _ =>
      .ite (fun _ => lockAll_lawful.trans lanesReact_lawful) fun _ => .refl s

theorem strobeWrite_lawful (v : Byte) : Lawful s (strobeWrite v s) :=
  .ite (fun _ => .ite (fun _ => (psp_lawful _).trans (setStatus_lawful _))
    fun _ => (psp_lawful _).trans ((strobe_lawful _).trans settle_lawful)) fun _ => .refl s

theorem submit_lawful (e : Envelope) : Lawful s (submit e s) :=
  .ite (fun _ => writeRecord_lawful _) fun _ => (takeEnvelope_lawful _ _).trans settle_lawful

theorem writeEffect_lawful (a : Nat) (v : Byte) : Lawful s (writeEffect a v s) :=
  .ite (fun _ => eventWrite_lawful v) fun _ => .ite (fun _ => strobeWrite_lawful v) fun _ =>
    .ite (fun _ => psp_lawful _) fun _ =>
      .ite (fun _ => .ite (fun _ => (psp_lawful _).trans (submit_lawful _)) fun _ => .refl s) fun _ =>
        .ite (fun _ => .ite (fun _ => psp_lawful _) fun _ => .refl s) fun _ =>
          .ite (fun _ => psp_lawful _) fun _ => .refl s

theorem writeByte_lawful (a : Nat) (v : Byte) : Lawful s (writeByte a v s) :=
  (pointAfter_lawful a).trans (writeEffect_lawful a v)

theorem linkRequest_lawful (id : BitVec 16) (body : Body) : Lawful s (linkRequest id body s) := receive_lawful _

theorem sideRequest_lawful (id : BitVec 16) (body : Body) : Lawful s (sideRequest id body s) :=
  .ite (fun _ => (pointAfter_lawful _).trans ((psp_lawful _).trans (submit_lawful _))) fun _ => .refl s

theorem portRequest_lawful (p : Port) (id : BitVec 16) (body : Body) : Lawful s (portRequest p id body s) := by
  cases p
  · exact linkRequest_lawful id body
  · exact sideRequest_lawful id body

/-! ## A tick -/

theorem laneTick_queue (x : Lane) : (laneTick x).queue = x.queue := by unfold laneTick; split <;> rfl

theorem tickCounts_lawful : Lawful s (tickCounts s) := by
  have lowered : Lawful s
      { s with laneA := laneTick s.laneA, laneB := laneTick s.laneB, backoff := tab8 fun i => backoffOf s i - 1 } := by
    refine ⟨⟨.congr rfl, fun h => slotsLimited_iff.mpr fun i => ?_, .congr rfl, .congr ?_, rfl, id⟩, .congr rfl⟩
    · obtain ⟨le, limit, free⟩ := h i
      have down : (tab8 fun i => backoffOf s i - 1).get i = backoffOf s i - 1 := get_tab8 _ i
      refine ⟨le, limit, fun hp => free ?_⟩
      have hp' : 0 < (tab8 fun i => backoffOf s i - 1).get i := hp
      exact Nat.lt_of_lt_of_le (down ▸ hp') (Nat.sub_le _ _)
    · simp [trafficView, laneTick_queue]
  exact lowered.trans (tickCounter_lawful.trans tickGrace_lawful)

theorem takeDue_lawful : Lawful s (takeDue s) :=
  (expire_lawful .a).trans ((expire_lawful .b).trans (expireGrace_lawful.trans reachPeriod_lawful))

theorem tickBlocks_lawful (high : Bool) : Lawful s (tickBlocks high s) :=
  .ite (fun _ => takeDue_lawful.trans ((meterCycles_lawful _).trans (tickCounts_lawful.trans (sampleTamper_lawful high))))
    fun _ => .refl s

theorem passCycles_lawful (cycle : Nat) : Lawful s (passCycles cycle s) :=
  (meterCycles_lawful _).after (.frame rfl rfl rfl rfl rfl rfl)

end

/-! # Start-up keeps the laws -/

section

variable {s t : State}

/-! ## Start-up up to the backoffs (R164 to R180) -/

/-- Steps 1 to 7 of start-up, after the load. -/
def startBase (s : State) : State := backoffStep (keyStep (lockStep (watchStep (lossStep s))))

/-- Start-up's first steps change the store's queue, the watch page, the plan and the Wipe Engine alone of what the laws of the
slots, the store and the traffic speak of. -/
structure LoadWork (s t : State) : Prop where
  counts : t.w.counts = s.w.counts
  creds : t.w.creds = s.w.creds
  store : StoreOrdered s → StoreOrdered t
  traffic : trafficView t = trafficView s
  place : placeView t = placeView s

theorem LoadWork.refl (s : State) : LoadWork s s := ⟨rfl, rfl, id, rfl, rfl⟩

theorem LoadWork.trans {u : State} (h : LoadWork s t) (k : LoadWork t u) : LoadWork s u :=
  ⟨k.counts.trans h.counts, k.creds.trans h.creds, k.store ∘ h.store, k.traffic.trans h.traffic, k.place.trans h.place⟩

theorem LoadWork.after {u : State} (k : LoadWork t u) (h : LoadWork s t) : LoadWork s u := h.trans k

theorem queuePage_load (p : PageId) (ws : List Waiter) : LoadWork s (queuePage p ws s) :=
  ⟨by simp, by simp, queuePage_storeOrdered p ws, by simp [trafficView], by simp [placeView]⟩

theorem queuePages_load (ps : List PageId) (ws : List Waiter) : LoadWork s (queuePages ps ws s) :=
  ⟨by simp, by simp, (queuePages_lawful ps ws s).store, by simp [trafficView], by simp [placeView]⟩

theorem setWatch_load (w : Watch) : LoadWork s (setWatch w s) := ⟨rfl, rfl, .congr rfl, rfl, rfl⟩

theorem storeLossPlan_load : LoadWork s (storeLossPlan s) :=
  (queuePage_load _ _).after ⟨rfl, rfl, .congr rfl, rfl, rfl⟩

theorem lossStep_load : LoadWork s (lossStep s) := by
  unfold lossStep
  split
  · exact .refl s
  · split
    · exact (setWatch_load _).trans ((queuePages_load _ _).trans ((queuePage_load _ _).trans storeLossPlan_load))
    · exact queuePages_load _ _

theorem watchStep_load : LoadWork s (watchStep s) := by
  unfold watchStep
  dsimp only
  split
  · exact ⟨rfl, rfl, .congr rfl, rfl, rfl⟩
  · exact (queuePage_load _ _).after ⟨rfl, rfl, .congr rfl, rfl, rfl⟩

theorem startBase_load : LoadWork s (startBase s) :=
  lossStep_load.trans (watchStep_load.trans ⟨rfl, rfl, .congr rfl, rfl, rfl⟩)

/-- Step 5 leaves every band without a key. -/
theorem startBase_guarded : LiveKeysGuarded (startBase s) := fun b h => by
  simp [startBase, backoffStep, keyStep, handStartup, lockStep, KeyTable.powerOn, present, entry] at h

/-- A restored backoff runs only above the free attempts. -/
theorem restoredBackoff_free {i : SlotId} (h : 0 < restoredBackoff s i) : (cred s i).free < count s i := by
  unfold restoredBackoff at h
  split at h
  · exact absurd h (Nat.lt_irrefl 0)
  · rename_i above
    simp only [Bool.or_eq_true, decide_eq_true_eq, not_or, Nat.not_le] at above
    exact above.1

/-- The counts of loaded slots stand within their limits, a user or platform slot at its limit DISABLED. -/
def CountsLimited (s : State) : Prop :=
  ∀ i, count s i ≤ (cred s i).hard ∧
    (i ≠ 0 → 0 < (cred s i).hard → count s i = (cred s i).hard → (cred s i).state = .disabled)

theorem startBase_slots (h : CountsLimited s) : SlotsLimited (startBase s) := by
  have work := startBase_load (s := s)
  refine slotsLimited_iff.mpr fun i => ?_
  have hn : count (startBase s) i = count s i := congrArg (fun v => v.get i) work.counts
  have hc : cred (startBase s) i = cred s i := congrArg (fun v => v.get i) work.creds
  refine ⟨?_, ?_, fun hp => restoredBackoff_free (s := keyStep (lockStep (watchStep (lossStep s)))) ?_⟩
  · rw [hn, hc]; exact (h i).1
  · rw [hn, hc]; exact (h i).2
  · simpa [startBase] using hp

theorem loadCount_le (hard : Nat) (x : Stored) : loadCount hard x ≤ hard := by
  unfold loadCount
  split <;> omega

theorem limitCred_hard (i : SlotId) (n : Nat) (c : Credential) : (limitCred i n c).hard = c.hard := by
  unfold limitCred; split <;> rfl

theorem limitCred_disabled {i : SlotId} {n : Nat} {c : Credential} (hi : i ≠ 0) (hn : n = c.hard) :
    (limitCred i n c).state = .disabled := by
  simp [limitCred, hi, hn]

theorem loadStep_counts (i : Identity) : CountsLimited (loadStep i s) := by
  unfold loadStep
  split
  · intro k
    have none : (firstWorking i).counts.get k = 0 := get_replicate 0 k
    show (firstWorking i).counts.get k ≤ _ ∧ (_ → _ → (firstWorking i).counts.get k = _ → _)
    rw [none]
    exact ⟨Nat.zero_le _, fun _ hp he => absurd he (Nat.ne_of_lt hp)⟩
  · intro k
    have hc : (loadWorking i s.ks.pages).creds.get k = _ := get_tab8 _ k
    have hn : (loadWorking i s.ks.pages).counts.get k = _ := get_tab8 _ k
    show (loadWorking i s.ks.pages).counts.get k ≤ ((loadWorking i s.ks.pages).creds.get k).hard ∧
      (k ≠ 0 → 0 < ((loadWorking i s.ks.pages).creds.get k).hard →
        (loadWorking i s.ks.pages).counts.get k = ((loadWorking i s.ks.pages).creds.get k).hard →
        ((loadWorking i s.ks.pages).creds.get k).state = .disabled)
    rw [hc, hn, limitCred_hard]
    exact ⟨loadCount_le _ _, fun hk _ he => limitCred_disabled hk he⟩

/-! ### The Wipe Engine in start-up's first steps -/

theorem storeLossPlan_scrub (ht : theft s = .wiping) : ScrubOrderly (storeLossPlan s) := by
  refine .of_stopped ?_ ?_ fun _ _ => ?_
  · simp [storeLossPlan, journalWait, WipeEngine.powerOn]
  · exact noOrders_iff.mpr fun i => by simp [storeLossPlan, journalWait, WipeEngine.powerOn]
  · simpa [storeLossPlan, journalWait, theft, setPlan] using ht

theorem ScrubOrderly.of_powerOn (h : s.wipe = WipeEngine.powerOn) : ScrubOrderly s := by
  refine .of_stopped ?_ ?_ fun hi => ?_
  · rw [h]; rfl
  · exact noOrders_iff.mpr fun i => by rw [h]; simp [WipeEngine.powerOn]
  · rw [h] at hi; exact absurd rfl hi

theorem lossStep_scrub (h : s.wipe = WipeEngine.powerOn) : ScrubOrderly (lossStep s) := by
  unfold lossStep
  split
  · exact .of_powerOn h
  · split
    · exact storeLossPlan_scrub (by simp [theft, watchAs])
    · exact .of_powerOn (by simpa using h)

theorem watchStep_scrub (h : ScrubOrderly s) : ScrubOrderly (watchStep s) := by
  refine .congr ?_ h
  unfold watchStep
  dsimp only
  split
  · rfl
  · simp [scrubView]

theorem startBase_scrub (h : s.wipe = WipeEngine.powerOn) : ScrubOrderly (startBase s) :=
  .congr (s := watchStep (lossStep s)) rfl (watchStep_scrub (lossStep_scrub h))

/-! ### Start-up's steps 8 to 10 -/

theorem storeLossPlan_orderly : Orderly s (storeLossPlan s) :=
  journalWait_lawful.toOrderly.after (.frame rfl rfl rfl rfl rfl)

theorem firstStartFails_lawful : Lawful s (firstStartFails s) :=
  ⟨(theftCore_orderly .wiping).trans storeLossPlan_orderly, fun _ => storeLossPlan_scrub (by simp)⟩

theorem ignoreJournal_lawful : Lawful s (ignoreJournal s) :=
  .ite (fun _ => .refl s) fun _ => (setPlan_lawful _).trans journalQueue_lawful

/-- The Wipe Engine, idle in WIPING, resumes a wipe. -/
theorem resume_lawful {x : WipeEngine} (idle : s.wipe.activity = .idle) (ht : theft s = .wiping)
    (orders : x.orders = s.wipe.orders) (running : x.running = s.wipe.running) : Lawful s { s with wipe := x } :=
  wipe_lawful orders running (fun h => h.stopped (by simp [idle])) fun _ _ _ => ht

theorem resumeRoot_lawful (idle : s.wipe.activity = .idle) (ht : theft s = .wiping) : Lawful s (resumeRoot s) :=
  journalWait_lawful.after ((queuePage_lawful _ _ _).after (resume_lawful idle ht rfl rfl))

theorem resumeRebuild_lawful (idle : s.wipe.activity = .idle) (ht : theft s = .wiping) : Lawful s (resumeRebuild s) :=
  resume_lawful idle ht rfl rfl

theorem resumeScrub_lawful (idle : s.wipe.activity = .idle) (ht : theft s = .wiping) : Lawful s (resumeScrub s) :=
  .ite (fun _ => abandonScrub_lawful fun h => h.stopped (by simp [idle])) fun _ =>
    .ite (fun _ => namePass_lawful 1 (fun h => h.stopped (by simp [idle])) fun _ => ht) fun _ =>
      resume_lawful idle ht rfl rfl

theorem resumeRootLost_lawful (idle : s.wipe.activity = .idle) (ht : theft s = .wiping) : Lawful s (resumeRootLost s) := by
  have needs : Lawful s { s with wipe := { s.wipe with rootNeeds := true } } := .frame rfl rfl rfl rfl rfl rfl
  unfold resumeRootLost
  dsimp only
  split
  · exact needs.trans (resumeRebuild_lawful idle ht)
  · refine needs.trans ((setPlan_lawful _).trans (journalWait_lawful.trans (resumeRebuild_lawful ?_ ?_)))
    · simpa [journalWait] using idle
    · simpa [journalWait, theft] using ht

theorem resumeFresh_lawful (idle : s.wipe.activity = .idle) (ht : theft s = .wiping) : Lawful s (resumeFresh s) := by
  unfold resumeFresh
  dsimp only
  refine Lawful.trans (t := { setPlan (freshPlan .theft (theftPasses s) .root) s with
    wipe := { s.wipe with rootNeeds := s.w.root.isNone } }) (.frame rfl rfl rfl rfl rfl rfl) (resumeRoot_lawful idle ht)

theorem resumeStep_lawful : Lawful s (resumeStep s) := by
  refine .ite (fun _ => ignoreJournal_lawful) fun wiping => .ite (fun _ => .refl s) fun idle => ?_
  simp only [ne_eq, Decidable.not_not] at wiping idle
  refine .ite (fun _ => resumeFresh_lawful idle wiping) fun _ => .ite (fun _ => resumeRootLost_lawful idle wiping) fun _ => ?_
  split
  · exact resumeRoot_lawful idle wiping
  · exact resumeRebuild_lawful idle wiping
  · exact resumeScrub_lawful idle wiping

theorem evaluate_lawful (i : Indicator) : Lawful s (evaluate i s) :=
  .ite (fun _ => assertIndicator_lawful i) fun _ => .refl s

theorem meterStep_lawful : Lawful s (meterStep s) :=
  (twu_lawful _).trans ((evaluate_lawful .checkin).trans ((evaluate_lawful .tether).trans
    ((evaluate_lawful .tamper).trans (evaluate_lawful .budget))))

theorem entropyStep_lawful : Lawful s (entropyStep s) := by
  have tested : Lawful s { s with entropyFailed := !s.entropyTest } := .frame rfl rfl rfl rfl rfl rfl
  exact .ite (fun _ => tested.trans firstStartFails_lawful) fun _ => tested

/-- Steps 8 to 10, and the dropping of what a line reset held. -/
def startEnd (s : State) : State := { entropyStep (meterStep (resumeStep s)) with held := none }

theorem laterSteps_eq (s : State) : laterSteps s = startEnd (startBase s) := rfl

theorem startEnd_lawful : Lawful s (startEnd s) :=
  resumeStep_lawful.trans (meterStep_lawful.trans (entropyStep_lawful.trans (.frame rfl rfl rfl rfl rfl rfl)))

/-! ### Start-up as a whole -/

/-- The laws, but for the Wipe Engine's, that hold of a state hold of another, in which the same commands wait. -/
structure LawsKept (s t : State) : Prop where
  keys : LiveKeysGuarded s → LiveKeysGuarded t
  slots : SlotsLimited s → SlotsLimited t
  store : StoreOrdered s → StoreOrdered t
  traffic : TrafficBounded s → TrafficBounded t
  pending : t.pending = s.pending

theorem LawsKept.trans {u : State} (h : LawsKept s t) (k : LawsKept t u) : LawsKept s u :=
  ⟨k.keys ∘ h.keys, k.slots ∘ h.slots, k.store ∘ h.store, k.traffic ∘ h.traffic, k.pending.trans h.pending⟩

theorem Orderly.kept (h : Orderly s t) : LawsKept s t := ⟨h.keys, h.slots, h.store, h.traffic, h.pending⟩

theorem Lawful.kept (h : Lawful s t) : LawsKept s t := h.toOrderly.kept

/-- What the laws speak of stays, whatever the mode becomes. -/
theorem LawsKept.frame (hk : keyView t = keyView s) (hs : slotView t = slotView s) (hq : storeView t = storeView s)
    (ht : trafficView t = trafficView s) (hp : t.pending = s.pending) : LawsKept s t :=
  ⟨.congr hk, .congr hs, .congr hq, .congr ht, hp⟩

theorem laterSteps_kept (h : CountsLimited s) : LawsKept s (laterSteps s) := by
  have work := startBase_load (s := s)
  have base : LawsKept s (startBase s) :=
    ⟨fun _ => startBase_guarded, fun _ => startBase_slots h, work.store, .congr work.traffic, pending_of_place work.place⟩
  exact base.trans startEnd_lawful.kept

theorem loadStep_parts (i : Identity) (s : State) : loadStep i s =
    { s with w := (loadStep i s).w, startup := (loadStep i s).startup } := by
  unfold loadStep; split <;> rfl

/-- The slots' law is about what the load brings, so that it need not have held before. -/
theorem startUp_kept (s : State) : LawsKept s (startUp s) := by
  unfold startUp
  split
  · exact .frame rfl rfl rfl rfl rfl
  · rename_i i _
    have kept := laterSteps_kept (loadStep_counts (s := { s with mode := .keyJobs }) i)
    have loaded := loadStep_parts i { s with mode := .keyJobs }
    have base := startBase_load (s := loadStep i { s with mode := .keyJobs })
    refine ⟨fun _ => startEnd_lawful.keys startBase_guarded,
      fun _ => startEnd_lawful.slots (startBase_slots (loadStep_counts i)), fun h => kept.store (.congr ?_ h),
      fun h => kept.traffic (.congr ?_ h), kept.pending.trans ?_⟩
    · rw [loaded]; rfl
    · rw [loaded]; rfl
    · rw [loaded]

theorem beginStartUp_kept (s : State) : LawsKept s (beginStartUp s) := by
  unfold beginStartUp
  split
  · exact .frame rfl rfl rfl rfl rfl
  · exact startUp_kept s

theorem startUp_scrub (h : s.wipe = WipeEngine.powerOn) : ScrubOrderly (startUp s) := by
  unfold startUp
  split
  · exact .of_powerOn h
  · exact startEnd_lawful.scrub (startBase_scrub (by rw [loadStep_parts]; exact h))

/-! ## Start-up's jobs -/

theorem issueOrders_ready_lawful : Lawful s (issueOrders (handState { s with mode := .ready })) := by
  have ready : Lawful s { s with mode := .ready } :=
    ⟨⟨.congr rfl, .congr rfl, .congr rfl, .congr rfl, rfl, fun _ => rfl⟩, .congr rfl⟩
  exact ready.trans ((link_lawful _).trans issueOrders_lawful)

theorem startupComplete_lawful : Lawful s (startupComplete s) := by
  unfold startupComplete
  dsimp only
  refine .ite (fun _ => ?_) fun _ => Lawful.trans ?_ (raise_lawful _)
  all_goals
    refine .ite (fun _ => Lawful.trans ?_ (raise_lawful _)) fun _ => ?_
  all_goals exact .ite (fun _ => issueOrders_ready_lawful) fun _ => issueOrders_ready_lawful.trans (raise_lawful _)

theorem startupPair_guarded (bs : List BandId) (h : LiveKeysGuarded s) (b : BandId) : PairGuarded s (startupPair bs s b) := by
  unfold startupPair
  split
  · split
    · rename_i loads
      simp only [Bool.and_eq_true, Bool.not_eq_true'] at loads
      exact fun _ => ⟨loads.2, loads.1.2⟩
    · exact h.pair b
  · exact h.pair b

theorem handStartup_lawful (j : Job) : Lawful s (handStartup j s) := engine_lawful _

theorem startupKeyDone_lawful (bs : List BandId) : Lawful s (startupKeyDone bs s) := by
  have cover := loadCover_lawful (s := s) (.cover (rootOrZero s))
  have loads : Lawful s (tabBands (startupPair bs s) (loadCover (.cover (rootOrZero s)) s)) :=
    cover.trans (tabBands_lawful _ fun h b => (startupPair_guarded bs (.congr rfl h) b).congr rfl)
  exact .ite (fun _ => loads.trans (handStartup_lawful _)) fun _ => loads.trans startupComplete_lawful

theorem firstDrawn_lawful (xs : List Secret) : Lawful s { s with w := firstDrawn xs s.w } := by
  refine .ofSlots (fun h => slotsLimited_iff.mpr fun i => ?_) rfl rfl rfl rfl rfl
  show SlotLimited i (count s i) ((firstDrawn xs s.w).creds.get i) (backoffOf s i)
  simp only [firstDrawn, get_put]
  split
  · rename_i hi
    subst hi
    obtain ⟨le, _, free⟩ := h 0
    exact ⟨le, fun h0 => absurd rfl h0, free⟩
  · exact h i

theorem firstInstall_lawful (xs : List Secret) : Lawful s (firstInstall xs s) := by
  unfold firstInstall
  dsimp only
  exact (firstDrawn_lawful xs).trans ((loadCover_lawful _).trans
    ((tabBands_lawful _ fun _ b => settlePair_guarded b _).trans (queuePages_lawful _ _ _)))

theorem lostInstall_lawful (b : BandId) (x : Secret) : Lawful s (lostInstall b x s) :=
  (setSecret_lawful b _).trans ((queuePage_lawful _ _ _).trans (settleBand_lawful b _))

theorem lostInstalls_lawful (xs : List (BandId × Secret)) : Lawful s (lostInstalls xs s) := by
  induction xs generalizing s with
  | nil => exact .refl s
  | cons x xs ih => exact (lostInstall_lawful _ _).trans ih

theorem startupDrawDone_lawful (ds : List Draw) : Lawful s (startupDrawDone ds s) := by
  refine .ite (fun _ => ?_) fun _ => ?_
  · split
    · exact (firstInstall_lawful _).trans startupComplete_lawful
    · exact (failEntropy_lawful.trans firstStartFails_lawful).trans startupComplete_lawful
  · split
    · exact (lostInstalls_lawful _).trans startupComplete_lawful
    · exact failEntropy_lawful.trans startupComplete_lawful

end

/-! # Every command but those of the supply, the line reset and the write keeps the laws -/

section

variable {s t : State}

/-! ## Every command -/

theorem ScrubInWiping.orderly (h : ScrubInWiping s) : ScrubOrderly s := ⟨h.1, h.2.1, h.2.2.1⟩

/-- What `ScrubInWiping` asks while start-up has not loaded the pages. -/
structure Unloaded (s : State) : Prop where
  wipe : s.wipe = WipeEngine.powerOn
  w : s.w = Working.unloaded
  engine : s.engine = Engine.idle
  linkBox : s.linkBox = none
  sideBox : s.sideBox = none
  meter : s.twu.meterOn = false

theorem scrubInWiping_iff : ScrubInWiping s ↔ ScrubOrderly s ∧ (counting s = false → Unloaded s) := by
  constructor
  · rintro ⟨o, r, a, rest⟩
    refine ⟨⟨o, r, a⟩, fun hc => ?_⟩
    obtain ⟨wipe, w, engine, link, side, meter⟩ := rest hc
    exact ⟨wipe, w, engine, link, side, meter⟩
  · rintro ⟨⟨o, r, a⟩, rest⟩
    refine ⟨o, r, a, fun hc => ?_⟩
    obtain ⟨wipe, w, engine, link, side, meter⟩ := rest hc
    exact ⟨wipe, w, engine, link, side, meter⟩

/-! ### Power and the line reset -/

theorem powerOn_guarded (pages : Vector Stored 53) (a e : Bool) (q : List Instr) :
    LiveKeysGuarded (State.powerOn pages a e q) := fun b h => by
  simp [State.powerOn, KeyTable.powerOn, present, entry] at h

theorem powerOn_slots (pages : Vector Stored 53) (a e : Bool) (q : List Instr) : SlotsLimited (State.powerOn pages a e q) :=
  slotsLimited_iff.mpr fun i => SlotLimited.zero (get_replicate 0 i) (get_replicate 0 i)

/-- A state as at power-on, in any mode, is under every law. -/
theorem kept_of_powerOn {pages : Vector Stored 53} {a e : Bool} (hk : keyView t = keyView (State.powerOn pages a e s.pending))
    (hs : slotView t = slotView (State.powerOn pages a e s.pending)) (hq : storeView t = ([], []))
    (ht : trafficView t = ([], [], [])) (hp : t.pending = s.pending) : LawsKept s t := by
  simp only [storeView, trafficView, Prod.mk.injEq] at hq ht
  obtain ⟨hq, hr⟩ := hq
  obtain ⟨hd, ha, hb⟩ := ht
  exact ⟨fun _ => .congr hk (powerOn_guarded pages a e s.pending), fun _ => .congr hs (powerOn_slots pages a e s.pending),
    fun _ => by simp [StoreOrdered, hq, hr], fun _ => by simp [TrafficBounded, hd, ha, hb], hp⟩

theorem resetAsserted_kept : LawsKept s (resetAsserted s) :=
  kept_of_powerOn (pages := s.ks.pages) (a := s.addrSel) (e := s.entropyTest) rfl rfl rfl rfl rfl

theorem sampleSupply_lawful (high : Bool) : Lawful s (sampleSupply high s) := .frame rfl rfl rfl rfl rfl rfl

theorem startIfSupplied_kept (s : State) : LawsKept s (startIfSupplied s) := by
  unfold startIfSupplied
  split
  · exact beginStartUp_kept s
  · exact (Lawful.refl s).kept

/-- What a tick does before start-up may begin. -/
def tickBefore (tamper supply entropy : Bool) (s : State) : State :=
  sampleSupply supply { tickBlocks tamper s with divider := 0, entropyTest := entropy }

theorem tickBefore_lawful (tamper supply entropy : Bool) : Lawful s (tickBefore tamper supply entropy s) :=
  (tickBlocks_lawful tamper).trans (Lawful.after (sampleSupply_lawful supply) (.frame rfl rfl rfl rfl rfl rfl))

/-- The commands of the supply and of RESETn, a TICK and a PAGE_WRITE_COMPLETE may begin start-up or end it; every other command
is lawful. -/
def isPower : Instr → Bool
  | .powerOn _ | .powerLoss _ | .resetnAssert | .resetnRelease _ _ | .tick _ _ _ | .pageWriteComplete => true
  | _ => false

/-- An act, and what follows at once. -/
theorem settled {x : State} (h : Lawful s x) : ∃ t, (Host.Outcome.next (settle x) : Answer) = .next t ∧ Lawful s t :=
  ⟨_, rfl, h.trans settle_lawful⟩

theorem answered {x : State} (h : Lawful s x) : ∃ t, (Host.Outcome.next x : Answer) = .next t ∧ Lawful s t := ⟨_, rfl, h⟩

theorem endJob_lawful : Lawful s (endJob s) := engine_lawful _

/-- A completion's act, where the job was running. -/
theorem completed {x : State} (h : Lawful (endJob s) x) :
    ∃ t, (Host.Outcome.next (settle x) : Answer) = .next t ∧ Lawful s t :=
  settled (endJob_lawful.trans h)

theorem exec_lawful (c : Instr) (s : State) (hc : isPower c = false) : ∃ t, exec c s = .next t ∧ Lawful s t := by
  cases c
  case powerOn | powerLoss | resetnAssert | resetnRelease | tick | pageWriteComplete => cases hc
  case startupKeyJobComplete =>
    show ∃ t, execStartupKeyJobComplete s = _ ∧ _
    unfold execStartupKeyJobComplete
    split
    · exact completed (startupKeyDone_lawful _)
    · exact answered (.refl s)
  case startupDrawJobComplete =>
    show ∃ t, execStartupDrawJobComplete _ s = _ ∧ _
    unfold execStartupDrawJobComplete
    split
    · exact completed (startupDrawDone_lawful _)
    · exact answered (.refl s)
  case dataTimeout => exact settled (expire_lawful _)
  case backoffEnd => exact answered (.refl s)
  case checkinPeriodReached => exact settled reachPeriod_lawful
  case graceExpired => exact settled expireGrace_lawful
  case tetherEdge cycle =>
    show ∃ t, execTetherEdge cycle s = _ ∧ _
    unfold execTetherEdge
    split
    · exact answered (.refl s)
    · exact settled ((passCycles_lawful _).trans meterEdge_lawful)
  case tetherOverflow => exact settled meterOverflow_lawful
  case descriptor | plainSector | cipherSector | scrubRefuse => exact answered (receive_lawful _)
  case linkReset => exact answered (.ite (fun _ => linkReset_lawful.trans settle_lawful) fun _ => .refl s)
  case malformedMessage => exact answered (receiveBytes_lawful _)
  case sendMessage => exact answered (.ite (fun _ => send_lawful) fun _ => .refl s)
  case translatePiece => exact settled translateNext_lawful
  case translationResume => exact settled resumeTranslation_lawful
  case fillSector => exact settled (fillNext_lawful _)
  case tokenUnlock | remoteWipe => exact answered (sideRequest_lawful _ _)
  case statusQuery | requestBadKind => exact answered (portRequest_lawful _ _ _)
  case unlock | lock | own | setCred | grant | revoke | bandSet | bandErase | driveSet | coverOpen | coverClose | watchArm
    | watchDisarm | watchRecover | wipeNow | scrubStop | revert => exact answered (linkRequest_lawful _ _)
  case verifyJobComplete =>
    show ∃ t, execVerifyJobComplete s = _ ∧ _
    unfold execVerifyJobComplete
    split
    · exact completed (verified_lawful _ _ _)
    · exact answered (.refl s)
  case unlockJobComplete =>
    show ∃ t, execUnlockJobComplete s = _ ∧ _
    unfold execUnlockJobComplete
    split
    · exact completed (unlockDone_lawful _ _ _ _)
    · exact answered (.refl s)
  case ownJobComplete =>
    show ∃ t, execOwnJobComplete _ s = _ ∧ _
    unfold execOwnJobComplete
    split
    · exact completed (ownDone_lawful _ _ _)
    · exact answered (.refl s)
  case setCredJobComplete =>
    show ∃ t, execSetCredJobComplete _ s = _ ∧ _
    unfold execSetCredJobComplete
    split
    · exact completed (setCredDone_lawful _ _ _)
    · exact answered (.refl s)
  case setCredAdminJobComplete =>
    show ∃ t, execSetCredAdminJobComplete _ s = _ ∧ _
    unfold execSetCredAdminJobComplete
    split
    · exact completed (setCredAdminDone_lawful _ _ _)
    · exact answered (.refl s)
  case grantJobComplete =>
    show ∃ t, execGrantJobComplete s = _ ∧ _
    unfold execGrantJobComplete
    split
    · exact completed (grantDone_lawful _ _)
    · exact answered (.refl s)
  case bandSetJobComplete =>
    show ∃ t, execBandSetJobComplete s = _ ∧ _
    unfold execBandSetJobComplete
    split
    · exact completed (bandSetDone_lawful _ _)
    · exact answered (.refl s)
  case bandSetRangeJobComplete =>
    show ∃ t, execBandSetRangeJobComplete _ s = _ ∧ _
    unfold execBandSetRangeJobComplete
    split
    · exact completed (bandSetRangeDone_lawful _ _ _)
    · exact answered (.refl s)
  case bandEraseJobComplete =>
    show ∃ t, execBandEraseJobComplete _ s = _ ∧ _
    unfold execBandEraseJobComplete
    split
    · exact completed (bandEraseDone_lawful _ _ _)
    · exact answered (.refl s)
  case watchRecoverJobComplete =>
    show ∃ t, execWatchRecoverJobComplete s = _ ∧ _
    unfold execWatchRecoverJobComplete
    split
    · exact completed (recoverDone_lawful _)
    · exact answered (.refl s)
  case checkinCompareComplete =>
    show ∃ t, execCheckinCompareComplete s = _ ∧ _
    unfold execCheckinCompareComplete
    split
    · exact completed (compareDone_lawful _)
    · exact answered (.refl s)
  case rootJobComplete =>
    show ∃ t, execRootJobComplete _ s = _ ∧ _
    unfold execRootJobComplete
    split
    · exact completed (rootDone_lawful _)
    · exact answered (.refl s)
  case coverZeroJobComplete =>
    show ∃ t, execCoverZeroJobComplete s = _ ∧ _
    unfold execCoverZeroJobComplete
    split
    · exact completed coverZeroDone_lawful
    · exact answered (.refl s)
  case rebuildRootJobComplete =>
    show ∃ t, execRebuildRootJobComplete _ s = _ ∧ _
    unfold execRebuildRootJobComplete
    split
    · exact completed (rebuildRootDone_lawful _)
    · exact answered (.refl s)
  case rebuildAdminJobComplete =>
    show ∃ t, execRebuildAdminJobComplete _ s = _ ∧ _
    unfold execRebuildAdminJobComplete
    split
    · exact completed (rebuildAdminDone_lawful _)
    · exact answered (.refl s)
  case rebuildBandJobComplete =>
    show ∃ t, execRebuildBandJobComplete _ _ s = _ ∧ _
    unfold execRebuildBandJobComplete
    split
    · exact completed (rebuildBandDone_lawful _ _ _)
    · exact answered (.refl s)
  case fillKeyJobComplete =>
    show ∃ t, execFillKeyJobComplete _ s = _ ∧ _
    unfold execFillKeyJobComplete
    split
    · exact completed (fillKeyDone_lawful _)
    · exact answered (.refl s)
  case openLoadJobComplete =>
    show ∃ t, execOpenLoadJobComplete s = _ ∧ _
    unfold execOpenLoadJobComplete
    split
    · exact completed openLoadDone_lawful
    · exact answered (.refl s)
  case suspend | lidClosed | lockAll | checkinStrobe | registerWrite | reportPageSelect =>
    exact answered (.ite (fun _ => writeByte_lawful _ _) fun _ => .refl s)
  case pointerSet => exact answered (.ite (fun _ => psp_lawful _) fun _ => .refl s)
  case noticeByteRead | latchedRead | resultRecordRead =>
    exact answered (.ite (fun _ => beginByte_lawful _) fun _ => .refl s)

end

/-! # What every step keeps -/

section

variable {s t : State}

/-! ## The laws of keys, slots, the store and the traffic, over every step -/

theorem resetnRelease_kept (a g : Bool) (s : State) : ∃ t, exec (.resetnRelease a g) s = .next t ∧ LawsKept s t := by
  show ∃ t, execResetnRelease a g s = .next t ∧ LawsKept s t
  unfold execResetnRelease
  split
  · have sampled : LawsKept s { s with addrSel := a, entropyTest := g } := .frame rfl rfl rfl rfl rfl
    refine ⟨_, rfl, ?_⟩
    dsimp only
    split
    · exact (sampled.trans (beginStartUp_kept _)).trans settle_lawful.kept
    · exact .frame rfl rfl rfl rfl rfl
  · exact ⟨s, rfl, (Lawful.refl s).kept⟩

theorem tick_kept (tamper supply entropy : Bool) (s : State) :
    ∃ t, exec (.tick tamper supply entropy) s = .next t ∧ LawsKept s t := by
  show ∃ t, execTick tamper supply entropy s = .next t ∧ LawsKept s t
  unfold execTick
  split
  · exact ⟨s, rfl, (Lawful.refl s).kept⟩
  · exact ⟨_, rfl, ((tickBefore_lawful tamper supply entropy).kept.trans (startIfSupplied_kept _)).trans settle_lawful.kept⟩

theorem pageWriteComplete_kept (s : State) : ∃ t, exec .pageWriteComplete s = .next t ∧ LawsKept s t := by
  show ∃ t, execPageWriteComplete s = .next t ∧ LawsKept s t
  unfold execPageWriteComplete
  split
  · exact ⟨s, rfl, (Lawful.refl s).kept⟩
  · split
    · exact ⟨_, rfl, ((completeWrite_lawful s).kept.trans (startUp_kept _)).trans settle_lawful.kept⟩
    · exact ⟨_, rfl, (completeWrite_lawful s).kept.trans settle_lawful.kept⟩

theorem powerOn_kept (a : Bool) (s : State) : ∃ t, exec (.powerOn a) s = .next t ∧ LawsKept s t := by
  show ∃ t, execPowerOn a s = .next t ∧ LawsKept s t
  unfold execPowerOn
  split
  · exact ⟨_, rfl, kept_of_powerOn (pages := s.ks.pages) (a := a) (e := s.entropyTest) rfl rfl rfl rfl rfl⟩
  · exact ⟨s, rfl, (Lawful.refl s).kept⟩

theorem powerLoss_kept (inErase : Bool) (s : State) : ∃ t, exec (.powerLoss inErase) s = .next t ∧ LawsKept s t := by
  show ∃ t, execPowerLoss inErase s = .next t ∧ LawsKept s t
  unfold execPowerLoss
  split
  · exact ⟨s, rfl, (Lawful.refl s).kept⟩
  · exact ⟨_, rfl, kept_of_powerOn (pages := cutPages inErase s) (a := s.addrSel) (e := s.entropyTest) rfl rfl rfl rfl rfl⟩

theorem resetnAssert_kept (s : State) : ∃ t, exec .resetnAssert s = .next t ∧ LawsKept s t := by
  show ∃ t, execResetnAssert s = .next t ∧ LawsKept s t
  unfold execResetnAssert
  split
  · exact ⟨s, rfl, (Lawful.refl s).kept⟩
  · exact ⟨_, rfl, resetAsserted_kept⟩

/-- Every command answers a next state, which keeps the laws of keys, slots, the store and the traffic. -/
theorem exec_kept (c : Instr) (s : State) : ∃ t, exec c s = .next t ∧ LawsKept s t := by
  by_cases hc : isPower c = false
  · obtain ⟨t, run, kept⟩ := exec_lawful c s hc
    exact ⟨t, run, kept.kept⟩
  · cases c
    case powerOn a => exact powerOn_kept a s
    case powerLoss inErase => exact powerLoss_kept inErase s
    case resetnAssert => exact resetnAssert_kept s
    case resetnRelease a g => exact resetnRelease_kept a g s
    case tick tamper supply entropy => exact tick_kept tamper supply entropy s
    case pageWriteComplete => exact pageWriteComplete_kept s
    all_goals exact absurd rfl hc

/-- A step is a command run on the state with the queue's rest, or nothing. -/
theorem step_cases (h : step s = .next t) : t = s ∨ ∃ c q, exec c (withQueue q s) = .next t := by
  unfold step at h
  split at h
  · exact .inl (Host.Outcome.next.inj h).symm
  · exact .inr ⟨_, _, h⟩

theorem withQueue_kept (q : List Instr) (s : State) :
    (LiveKeysGuarded s → LiveKeysGuarded (withQueue q s)) ∧ (SlotsLimited s → SlotsLimited (withQueue q s)) ∧
      (StoreOrdered s → StoreOrdered (withQueue q s)) ∧ (TrafficBounded s → TrafficBounded (withQueue q s)) :=
  ⟨.congr rfl, .congr rfl, .congr rfl, .congr rfl⟩

theorem step_kept (h : step s = .next t) :
    (LiveKeysGuarded s → LiveKeysGuarded t) ∧ (SlotsLimited s → SlotsLimited t) ∧
      (StoreOrdered s → StoreOrdered t) ∧ (TrafficBounded s → TrafficBounded t) := by
  obtain rfl | ⟨c, q, run⟩ := step_cases h
  · exact ⟨id, id, id, id⟩
  · obtain ⟨u, run', kept⟩ := exec_kept c (withQueue q s)
    obtain rfl : u = t := Host.Outcome.next.inj (run'.symm.trans run)
    obtain ⟨keys, slots, store, traffic⟩ := withQueue_kept q s
    exact ⟨kept.keys ∘ keys, kept.slots ∘ slots, kept.store ∘ store, kept.traffic ∘ traffic⟩

/-- Settles O1. -/
theorem stepRunsFrontCommand : Obligations.StepRunsFrontCommand := by
  unfold Obligations.StepRunsFrontCommand
  constructor
  · intro c q s h
    unfold step
    rw [h]
    rfl
  · intro s h
    unfold step
    rw [h]

/-- Settles O2. -/
theorem everyCommandCompletes : Obligations.EveryCommandCompletes := fun c s => by
  obtain ⟨t, run, kept⟩ := exec_kept c s
  exact ⟨t, run, kept.pending⟩

/-- Settles O4. -/
theorem stepKeepsLiveKeysGuarded : Obligations.StepKeepsLiveKeysGuarded := fun _ _ h run => (step_kept run).1 h

/-- Settles O5. -/
theorem stepKeepsSlotsLimited : Obligations.StepKeepsSlotsLimited := fun _ _ h run => (step_kept run).2.1 h

/-- Settles O6. -/
theorem stepKeepsStoreOrdered : Obligations.StepKeepsStoreOrdered := fun _ _ h run => (step_kept run).2.2.1 h

/-- Settles O7. -/
theorem stepKeepsTrafficBounded : Obligations.StepKeepsTrafficBounded := fun _ _ h run => (step_kept run).2.2.2 h

/-! ## Right after reset -/

theorem unloaded_powerOn (pages : Vector Stored 53) (a e : Bool) (q : List Instr) : Unloaded (State.powerOn pages a e q) :=
  ⟨rfl, rfl, rfl, rfl, rfl, rfl⟩

theorem scrubInWiping_powerOn (pages : Vector Stored 53) (a e : Bool) (q : List Instr) :
    ScrubInWiping (State.powerOn pages a e q) :=
  scrubInWiping_iff.mpr ⟨.of_powerOn rfl, fun _ => unloaded_powerOn pages a e q⟩

/-- Settles O9. -/
theorem lawsHoldAtReset : Obligations.LawsHoldAtReset :=
  ⟨powerOn_guarded _ _ _ _, powerOn_slots _ _ _ _, by simp [StoreOrdered, State.reset, State.powerOn],
    by simp [TrafficBounded, State.reset, State.powerOn, Lane.idle], scrubInWiping_powerOn _ _ _ _⟩

end

/-! # Scrub orders stay in a running pass, and a pass in WIPING: every command -/

section

variable {s t : State}

/-! ## Before start-up has loaded the pages -/

/-- What a command leaves as it is while start-up has not loaded the pages. -/
def loadView (s : State) :=
  (s.wipe, s.w, s.engine, s.linkBox, s.sideBox, s.twu.meterOn, s.mode)

theorem TrafficOnly.loadView (h : TrafficOnly s t) : loadView t = Machine.loadView s := by
  unfold Machine.loadView
  rw [h.wipe, h.w, h.engine, h.linkBox, h.sideBox, h.twu, h.mode]

theorem serviceStore_loadView (s : State) : loadView (serviceStore s) = loadView s := by rw [serviceStore_frame]; rfl

theorem completeWrite_loadView (s : State) : loadView (completeWrite s) = loadView s := by rw [completeWrite_frame]; rfl

/-- Start-up has not loaded the pages, and what it sets stands as at power-on. -/
structure Waiting (s : State) : Prop where
  unloaded : Unloaded s
  counting : counting s = false

theorem Waiting.congr (k : Waiting s) (h : loadView t = loadView s) : Waiting t := by
  simp only [loadView, Prod.mk.injEq] at h
  obtain ⟨hwipe, hw, hengine, hlink, hside, hmeter, hmode⟩ := h
  obtain ⟨⟨wipe, w, engine, link, side, meter⟩, idle⟩ := k
  refine ⟨⟨hwipe.trans wipe, hw.trans w, hengine.trans engine, hlink.trans link, hside.trans side, hmeter.trans meter⟩, ?_⟩
  unfold Machine.counting at idle ⊢
  rw [hmode]
  exact idle

theorem Waiting.scrub (h : Waiting s) : ScrubInWiping s := scrubInWiping_iff.mpr ⟨.of_powerOn h.unloaded.wipe, fun _ => h.unloaded⟩

section

variable (h : Waiting s)
include h

theorem Waiting.linkDown : linkUp s = false := by
  have idle := h.counting
  unfold Machine.counting at idle
  unfold linkUp
  simp_all

theorem Waiting.noOrders : noOrders s = true := by unfold Machine.noOrders; rw [h.unloaded.wipe]; rfl

theorem Waiting.theft : theft s = .dormant := by unfold Machine.theft; rw [h.unloaded.w]; rfl

theorem Waiting.policy : s.w.watch.policy = none := by rw [h.unloaded.w]; rfl

theorem Waiting.notRunning : s.engine.running = none := by rw [h.unloaded.engine]; rfl

theorem Waiting.mailboxRunning : mailboxRunning s = none := by unfold Machine.mailboxRunning; rw [h.notRunning]

theorem Waiting.wipeRunning : wipeRunning s = none := by unfold Machine.wipeRunning; rw [h.notRunning]

theorem Waiting.box (p : Port) : box p s = none := by
  cases p
  · exact h.unloaded.linkBox
  · exact h.unloaded.sideBox

theorem Waiting.progressBox (p : Port) : progressBox p s = s := by
  have moved : roomMoved p s = s := by unfold roomMoved; rw [h.box]
  have advanced : advanceBox p s = s := by unfold advanceBox; rw [h.box]
  unfold Machine.progressBox
  rw [moved, advanced]
  unfold answerBox
  rw [h.box]

theorem Waiting.progressWipe : progressWipe s = s := by unfold Machine.progressWipe; rw [h.unloaded.wipe]; rfl

theorem Waiting.handHeldWipe : handHeldWipe s = s := by unfold Machine.handHeldWipe; rw [h.unloaded.wipe]; rfl

theorem Waiting.grant : grant s = s := by
  unfold Machine.grant mailboxJob
  rw [h.unloaded.engine]
  rfl

/-- Nothing but the writer moves. -/
theorem Waiting.settle_eq : settle s = serviceStore (serviceStore s) := by
  have once : Waiting (serviceStore s) := h.congr (serviceStore_loadView s)
  have twice : Waiting (serviceStore (serviceStore s)) := once.congr (serviceStore_loadView _)
  unfold Machine.settle
  rw [once.progressBox, once.progressBox, once.progressWipe, twice.handHeldWipe, twice.grant]

theorem Waiting.settle_loadView : loadView (settle s) = loadView s := by
  rw [h.settle_eq, serviceStore_loadView, serviceStore_loadView]

/-- An act that leaves the load as it is, and what follows. -/
theorem Waiting.thenSettle (hx : loadView t = loadView s) : loadView (Machine.settle t) = loadView s :=
  (h.congr hx).settle_loadView.trans hx

theorem Waiting.receive (m : InMsg) : receive m s = s := by
  unfold Machine.receive
  rw [if_neg (by simp [h.linkDown])]

theorem Waiting.receiveBytes (xs : List Byte) : receiveBytes xs s = s := by
  unfold Machine.receiveBytes
  rw [if_neg (by simp [h.linkDown])]

theorem Waiting.reachPeriod : reachPeriod s = s := by unfold Machine.reachPeriod checkinAsserted; rw [h.policy]; rfl

theorem Waiting.expireGrace : expireGrace s = s := by
  unfold Machine.expireGrace graceDue
  rw [h.theft]
  rfl

theorem Waiting.meterCycles (n : Nat) : meterCycles n s = s := by
  unfold Machine.meterCycles
  rw [if_neg (by simp [h.unloaded.meter])]

theorem Waiting.meterEdge : meterEdge s = s := by
  unfold Machine.meterEdge
  rw [if_neg (by simp [h.unloaded.meter])]

theorem Waiting.meterOverflow : meterOverflow s = s := by
  unfold Machine.meterOverflow overflowDue
  simp [h.unloaded.meter]

theorem Waiting.starting : starting s = true := by unfold Machine.starting; rw [h.linkDown]; rfl

end

/-! ### The sideband window -/

theorem pointAfter_loadView (a : Nat) (s : State) : loadView (pointAfter a s) = loadView s := rfl

theorem markRead_loadView (h : Waiting s) (r : OrderSlot) : loadView (markRead r s) = loadView s := by
  unfold markRead
  rw [if_pos h.starting]

theorem latchItem_loadView (h : Waiting s) (i : Item) : loadView (latchItem i s) = loadView s := by
  cases i
  case record r =>
    have latched : loadView { s with psp := { s.psp with latch := some (.record r, itemBytes s (.record r)) } } = loadView s := rfl
    exact (markRead_loadView (h.congr latched) r).trans latched
  all_goals rfl

theorem beginByte_loadView (h : Waiting s) (a : Nat) : loadView (beginByte a s) = loadView s := by
  have effect : loadView (readEffect a s) = loadView s := by
    unfold readEffect
    split
    · split
      · exact latchItem_loadView h _
      · rfl
    · split <;> rfl
  exact effect

theorem submit_loadView (h : Waiting s) (e : Envelope) : loadView (submit e s) = loadView s := by
  unfold submit
  rw [if_pos h.starting]
  rfl

theorem writeEffect_loadView (h : Waiting s) (a : Nat) (v : Byte) : loadView (writeEffect a v s) = loadView s := by
  have event : loadView (eventWrite v s) = loadView s := by
    unfold eventWrite
    rw [if_pos h.starting]
  have strobed : loadView (strobeWrite v s) = loadView s := by
    unfold strobeWrite
    split
    · rw [if_pos h.starting]
      rfl
    · rfl
  have submitted : loadView (submitWrite v s) = loadView s := by
    have zeroed : loadView (zeroBuffer s) = loadView s := rfl
    unfold submitWrite
    split
    · exact (submit_loadView (h.congr zeroed) _).trans zeroed
    · rfl
  have page : loadView (pageWrite v s) = loadView s := by
    unfold pageWrite
    split <;> rfl
  unfold writeEffect
  repeat' split
  · exact event
  · exact strobed
  · rfl
  · exact submitted
  · exact page
  · rfl
  · rfl

theorem writeByte_loadView (h : Waiting s) (a : Nat) (v : Byte) : loadView (writeByte a v s) = loadView s :=
  writeEffect_loadView (h.congr (pointAfter_loadView a s)) a v

theorem sideRequest_loadView (h : Waiting s) (id : BitVec 16) (body : Body) : loadView (sideRequest id body s) = loadView s := by
  have zeroed : loadView (zeroBuffer (pointAfter 0x70 s)) = loadView s := rfl
  unfold sideRequest
  split
  · exact (submit_loadView (h.congr zeroed) _).trans zeroed
  · rfl

theorem portRequest_loadView (h : Waiting s) (p : Port) (id : BitVec 16) (body : Body) :
    loadView (portRequest p id body s) = loadView s := by
  cases p
  · exact congrArg loadView (h.receive _)
  · exact sideRequest_loadView h id body

/-! ### The data path -/

theorem transform_traffic (l : LaneId) (g : Segment) (k : MediaKey) (data : List Byte) (h : noOrders s = true) :
    TrafficOnly s (transform l g k data s) := by
  have sent : TrafficOnly s (report g.tag 1 (sectorAddress g g.done) none (hand (sectorMsg k g data) s)) := by
    have handed : TrafficOnly s (hand (sectorMsg k g data) s) := rfl
    exact handed.trans (report_traffic _ _ _ _ (handed.noOrders.trans h))
  refine sent.trans ?_
  unfold transform afterSector
  split
  · exact setLane_traffic l _
  · have dropped := setLane_traffic (s := report g.tag 1 (sectorAddress g g.done) none (hand (sectorMsg k g data) s)) l
      (restLane (lane l (report g.tag 1 (sectorAddress g g.done) none (hand (sectorMsg k g data) s))).queue)
    exact dropped.trans (takeFrom_traffic l _ (dropped.noOrders.trans (sent.noOrders.trans h)))

theorem transformChecked_traffic (l : LaneId) (g : Segment) (data : List Byte) (h : noOrders s = true) :
    TrafficOnly s (transformChecked l g data s) := by
  unfold transformChecked
  split
  · exact endRefused_traffic l g _ h
  · split
    · exact transform_traffic l g _ data h
    · exact .refl s

theorem fillNext_traffic (l : LaneId) (h : noOrders s = true) : TrafficOnly s (fillNext l s) := by
  unfold fillNext
  split
  · split
    · exact .refl s
    · exact transformChecked_traffic l _ _ h
  · exact .refl s

theorem expire_traffic (l : LaneId) (h : noOrders s = true) : TrafficOnly s (expire l s) := by
  unfold expire
  split
  · split
    · exact endRefused_traffic l _ _ h
    · exact .refl s
  · exact .refl s

theorem placeSegment_traffic (l : LaneId) (g : Segment) (h : noOrders s = true) : TrafficOnly s (placeSegment l g s) := by
  unfold placeSegment
  dsimp only
  split
  · exact setLane_traffic l _
  · exact takeFrom_traffic l _ h

theorem placeAll_traffic (xs : List (LaneId × Segment)) (i : Nat) (h : noOrders s = true) :
    TrafficOnly s (placeAll xs i s).1 := by
  induction xs generalizing s i with
  | nil => exact .refl s
  | cons x xs ih =>
    unfold placeAll
    split
    · exact .refl s
    · have placed := placeSegment_traffic x.1 x.2 h
      exact placed.trans (ih (i + 1) (placed.noOrders.trans h))

theorem stuTake_loadView (s : State) : loadView (stuTake s) = loadView s := by
  unfold stuTake
  split
  · rfl
  · split <;> rfl

theorem pieceDone_loadView (tag : Byte) (e last : Nat) (s : State) : loadView (pieceDone tag e last s) = loadView s := by
  unfold pieceDone
  dsimp only
  split
  · exact stuTake_loadView _
  · rfl

theorem placePiece_loadView (tag : Byte) (x : Piece) (last : Nat) (h : noOrders s = true) :
    loadView (placePiece tag x last s) = loadView s := by
  have placed := (placeAll_traffic (x.plan.drop x.next) x.next h).loadView
  unfold placePiece
  split
  · rename_i all
    rw [all] at placed
    exact (pieceDone_loadView _ _ _ _).trans placed
  · rename_i all
    rw [all] at placed
    exact placed

theorem noOrders_congr (h : loadView t = loadView s) : noOrders t = noOrders s := by
  unfold Machine.noOrders
  rw [show t.wipe = s.wipe from congrArg Prod.fst h]

theorem translateNext_loadView (h : noOrders s = true) : loadView (translateNext s) = loadView s := by
  unfold translateNext
  split
  · rename_i t _ _
    unfold translatePiece
    dsimp only
    split
    · rename_i x _
      have done : loadView (pieceDone t.tag (pieceEnd t s) (transferEnd t)
          (editTransfer t.tag (counted (pieceEnd t s - t.progress) t.progress (some x)) s)) = loadView s := pieceDone_loadView _ _ _ _
      exact (account_traffic _ ((noOrders_congr done).trans h)).loadView.trans done
    · exact placePiece_loadView _ _ _ h
  · rfl

theorem resumeTranslation_loadView (h : noOrders s = true) : loadView (resumeTranslation s) = loadView s := by
  unfold resumeTranslation
  split
  · split
    · split
      · exact placePiece_loadView _ _ _ h
      · rfl
    · rfl
  · rfl

/-! ### Every command -/

/-- A command's result leaves the load as it is. -/
theorem loadView_of_eq (h : t = s) : loadView t = loadView s := congrArg loadView h

/-- Before start-up has loaded the pages, no command but those of `isPower` touches what it sets. -/
theorem exec_loadView (c : Instr) (h : Waiting s) (hc : isPower c = false) :
    ∃ t, exec c s = .next t ∧ loadView t = loadView s := by
  have still {x : Answer} (hx : x = .next s) : ∃ t, x = .next t ∧ loadView t = loadView s := ⟨s, hx, rfl⟩
  cases c
  case powerOn | powerLoss | resetnAssert | resetnRelease | tick | pageWriteComplete => cases hc
  case startupKeyJobComplete =>
    refine still ?_
    show execStartupKeyJobComplete s = _
    unfold execStartupKeyJobComplete
    rw [h.notRunning]
  case startupDrawJobComplete ds =>
    refine still ?_
    show execStartupDrawJobComplete ds s = _
    unfold execStartupDrawJobComplete
    rw [h.notRunning]
  case dataTimeout l => exact ⟨_, rfl, h.thenSettle (expire_traffic l h.noOrders).loadView⟩
  case backoffEnd => exact still rfl
  case checkinPeriodReached => exact ⟨_, rfl, h.thenSettle (loadView_of_eq h.reachPeriod)⟩
  case graceExpired => exact ⟨_, rfl, h.thenSettle (loadView_of_eq h.expireGrace)⟩
  case tetherEdge cycle =>
    show ∃ t, execTetherEdge cycle s = _ ∧ _
    unfold execTetherEdge
    split
    · exact ⟨_, rfl, rfl⟩
    · refine ⟨_, rfl, h.thenSettle ?_⟩
      have passed : Waiting { s with divider := max s.divider (min cycle Config.cyclesPerTick) } := h.congr rfl
      unfold passCycles
      rw [passed.meterCycles, passed.meterEdge]
      rfl
  case tetherOverflow => exact ⟨_, rfl, h.thenSettle (loadView_of_eq h.meterOverflow)⟩
  case descriptor | plainSector | cipherSector | scrubRefuse => exact ⟨_, rfl, loadView_of_eq (h.receive _)⟩
  case linkReset => exact ⟨_, rfl, loadView_of_eq (if_neg (by simp [h.linkDown]))⟩
  case malformedMessage => exact ⟨_, rfl, loadView_of_eq (h.receiveBytes _)⟩
  case sendMessage => exact ⟨_, rfl, loadView_of_eq (if_neg (by simp [h.linkDown]))⟩
  case translatePiece => exact ⟨_, rfl, h.thenSettle (translateNext_loadView h.noOrders)⟩
  case translationResume => exact ⟨_, rfl, h.thenSettle (resumeTranslation_loadView h.noOrders)⟩
  case fillSector l => exact ⟨_, rfl, h.thenSettle (fillNext_traffic l h.noOrders).loadView⟩
  case tokenUnlock | remoteWipe => exact ⟨_, rfl, sideRequest_loadView h _ _⟩
  case statusQuery | requestBadKind => exact ⟨_, rfl, portRequest_loadView h _ _ _⟩
  case unlock | lock | own | setCred | grant | revoke | bandSet | bandErase | driveSet | coverOpen | coverClose | watchArm
    | watchDisarm | watchRecover | wipeNow | scrubStop | revert => exact ⟨_, rfl, loadView_of_eq (h.receive _)⟩
  case verifyJobComplete =>
    refine still ?_
    show execVerifyJobComplete s = _
    unfold execVerifyJobComplete
    rw [h.mailboxRunning]
  case unlockJobComplete =>
    refine still ?_
    show execUnlockJobComplete s = _
    unfold execUnlockJobComplete
    rw [h.mailboxRunning]
  case ownJobComplete x =>
    refine still ?_
    show execOwnJobComplete x s = _
    unfold execOwnJobComplete
    rw [h.mailboxRunning]
  case setCredJobComplete x =>
    refine still ?_
    show execSetCredJobComplete x s = _
    unfold execSetCredJobComplete
    rw [h.mailboxRunning]
  case setCredAdminJobComplete x =>
    refine still ?_
    show execSetCredAdminJobComplete x s = _
    unfold execSetCredAdminJobComplete
    rw [h.mailboxRunning]
  case grantJobComplete =>
    refine still ?_
    show execGrantJobComplete s = _
    unfold execGrantJobComplete
    rw [h.mailboxRunning]
  case bandSetJobComplete =>
    refine still ?_
    show execBandSetJobComplete s = _
    unfold execBandSetJobComplete
    rw [h.mailboxRunning]
  case bandSetRangeJobComplete x =>
    refine still ?_
    show execBandSetRangeJobComplete x s = _
    unfold execBandSetRangeJobComplete
    rw [h.mailboxRunning]
  case bandEraseJobComplete x =>
    refine still ?_
    show execBandEraseJobComplete x s = _
    unfold execBandEraseJobComplete
    rw [h.mailboxRunning]
  case watchRecoverJobComplete =>
    refine still ?_
    show execWatchRecoverJobComplete s = _
    unfold execWatchRecoverJobComplete
    rw [h.mailboxRunning]
  case checkinCompareComplete =>
    refine still ?_
    show execCheckinCompareComplete s = _
    unfold execCheckinCompareComplete
    rw [h.notRunning]
  case rootJobComplete x =>
    refine still ?_
    show execRootJobComplete x s = _
    unfold execRootJobComplete
    rw [h.wipeRunning]
  case coverZeroJobComplete =>
    refine still ?_
    show execCoverZeroJobComplete s = _
    unfold execCoverZeroJobComplete
    rw [h.wipeRunning]
  case rebuildRootJobComplete x =>
    refine still ?_
    show execRebuildRootJobComplete x s = _
    unfold execRebuildRootJobComplete
    rw [h.wipeRunning]
  case rebuildAdminJobComplete x =>
    refine still ?_
    show execRebuildAdminJobComplete x s = _
    unfold execRebuildAdminJobComplete
    rw [h.wipeRunning]
  case rebuildBandJobComplete x y =>
    refine still ?_
    show execRebuildBandJobComplete x y s = _
    unfold execRebuildBandJobComplete
    rw [h.wipeRunning]
  case fillKeyJobComplete x =>
    refine still ?_
    show execFillKeyJobComplete x s = _
    unfold execFillKeyJobComplete
    rw [h.wipeRunning]
  case openLoadJobComplete =>
    refine still ?_
    show execOpenLoadJobComplete s = _
    unfold execOpenLoadJobComplete
    rw [h.wipeRunning]
  case suspend | lidClosed | lockAll | checkinStrobe | registerWrite | reportPageSelect =>
    refine ⟨_, rfl, ?_⟩
    split
    · exact writeByte_loadView h _ _
    · rfl
  case pointerSet =>
    refine ⟨_, rfl, ?_⟩
    split <;> rfl
  case noticeByteRead | latchedRead | resultRecordRead =>
    refine ⟨_, rfl, ?_⟩
    split
    · exact beginByte_loadView h _
    · rfl

/-! ### Start-up, and the commands of the supply, the line reset and the write -/

theorem settle_scrubInWiping (h : ScrubInWiping s) : ScrubInWiping (settle s) := by
  obtain ⟨scrub, unloaded⟩ := scrubInWiping_iff.mp h
  cases hc : counting s with
  | true => exact scrubInWiping_iff.mpr ⟨settle_lawful.scrub scrub, fun idle => by rw [settle_lawful.counting hc] at idle; cases idle⟩
  | false =>
    have waits : Waiting s := ⟨unloaded hc, hc⟩
    exact (waits.congr waits.settle_loadView).scrub

/-- Of a counting state only the clauses that hold in every mode say something, and a lawful act keeps them. -/
theorem Lawful.scrubInWiping (h : Lawful s t) (hs : ScrubInWiping s) (hc : counting s = true) : ScrubInWiping t :=
  scrubInWiping_iff.mpr ⟨h.scrub hs.orderly, fun idle => by rw [h.counting hc] at idle; cases idle⟩

theorem startUp_scrubInWiping (h : Unloaded s) : ScrubInWiping (startUp s) := by
  refine scrubInWiping_iff.mpr ⟨startUp_scrub h.wipe, fun idle => ?_⟩
  unfold startUp at idle ⊢
  split
  · exact ⟨h.wipe, h.w, h.engine, h.linkBox, h.sideBox, h.meter⟩
  · rename_i i found
    rw [found] at idle
    have keyJobs : counting (loadStep i { s with mode := .keyJobs }) = true := by rw [loadStep_parts]; rfl
    have base : counting (startBase (loadStep i { s with mode := .keyJobs })) = true :=
      counting_of_place startBase_load.place keyJobs
    have counts : counting (laterSteps (loadStep i { s with mode := .keyJobs })) = true := startEnd_lawful.counting base
    dsimp only at idle
    rw [counts] at idle
    cases idle

theorem beginStartUp_scrubInWiping (h : Unloaded s) : ScrubInWiping (beginStartUp s) := by
  unfold beginStartUp
  split
  · exact Waiting.scrub ⟨⟨h.wipe, h.w, h.engine, h.linkBox, h.sideBox, h.meter⟩, rfl⟩
  · exact startUp_scrubInWiping h

theorem tick_scrubInWiping (tamper supply entropy : Bool) (h : ScrubInWiping s) :
    ∃ t, exec (.tick tamper supply entropy) s = .next t ∧ ScrubInWiping t := by
  show ∃ t, execTick tamper supply entropy s = .next t ∧ ScrubInWiping t
  unfold execTick
  split
  · exact ⟨s, rfl, h⟩
  · refine ⟨_, rfl, settle_scrubInWiping ?_⟩
    show ScrubInWiping (startIfSupplied (tickBefore tamper supply entropy s))
    cases hc : counting s with
    | true =>
      have before := tickBefore_lawful (s := s) tamper supply entropy
      have counts := before.counting hc
      unfold startIfSupplied
      rw [if_neg]
      · exact before.scrubInWiping h hc
      · intro starts
        simp only [Bool.and_eq_true, decide_eq_true_eq] at starts
        simp [counting, starts.1] at counts
    | false =>
      have waits : Waiting s := ⟨(scrubInWiping_iff.mp h).2 hc, hc⟩
      have before : Waiting (tickBefore tamper supply entropy s) := by
        refine waits.congr ?_
        unfold tickBefore tickBlocks
        rw [if_neg (by simp [hc])]
        rfl
      unfold startIfSupplied
      split
      · exact beginStartUp_scrubInWiping before.unloaded
      · exact before.scrub

theorem pageWriteComplete_scrubInWiping (h : ScrubInWiping s) :
    ∃ t, exec .pageWriteComplete s = .next t ∧ ScrubInWiping t := by
  show ∃ t, execPageWriteComplete s = .next t ∧ ScrubInWiping t
  unfold execPageWriteComplete
  split
  · exact ⟨s, rfl, h⟩
  · cases hc : counting s with
    | true =>
      have busy : s.mode ≠ .writerWait := by
        intro hm
        simp [counting, hm] at hc
      rw [if_neg busy]
      exact ⟨_, rfl, settle_scrubInWiping ((completeWrite_lawful s).scrubInWiping h hc)⟩
    | false =>
      have waits : Waiting s := ⟨(scrubInWiping_iff.mp h).2 hc, hc⟩
      have written := waits.congr (completeWrite_loadView s)
      split
      · exact ⟨_, rfl, settle_scrubInWiping (startUp_scrubInWiping written.unloaded)⟩
      · exact ⟨_, rfl, settle_scrubInWiping written.scrub⟩

theorem resetnRelease_scrubInWiping (a g : Bool) (h : ScrubInWiping s) :
    ∃ t, exec (.resetnRelease a g) s = .next t ∧ ScrubInWiping t := by
  show ∃ t, execResetnRelease a g s = .next t ∧ ScrubInWiping t
  unfold execResetnRelease
  split
  · rename_i hm
    have waits : Waiting s := ⟨(scrubInWiping_iff.mp h).2 (by simp [counting, hm]), by simp [counting, hm]⟩
    have sampled : Waiting { s with addrSel := a, entropyTest := g } := waits.congr rfl
    refine ⟨_, rfl, ?_⟩
    dsimp only
    split
    · exact settle_scrubInWiping (beginStartUp_scrubInWiping sampled.unloaded)
    · obtain ⟨wipe, w, engine, link, side, meter⟩ := waits.unloaded
      exact Waiting.scrub ⟨⟨wipe, w, engine, link, side, meter⟩, rfl⟩
  · exact ⟨s, rfl, h⟩

/-- A state that power or a line reset leaves, in whichever mode. -/
theorem scrubInWiping_of_powerOn (hv : (t.wipe, t.w, t.engine, t.linkBox, t.sideBox, t.twu.meterOn) =
    (WipeEngine.powerOn, Working.unloaded, Engine.idle, none, none, false)) :
    ScrubInWiping t := by
  simp only [Prod.mk.injEq] at hv
  obtain ⟨wipe, w, engine, link, side, meter⟩ := hv
  exact scrubInWiping_iff.mpr ⟨.of_powerOn wipe, fun _ => ⟨wipe, w, engine, link, side, meter⟩⟩

theorem exec_scrubInWiping (c : Instr) (h : ScrubInWiping s) : ∃ t, exec c s = .next t ∧ ScrubInWiping t := by
  by_cases hc : isPower c = false
  · cases hm : counting s with
    | true =>
      obtain ⟨t, run, kept⟩ := exec_lawful c s hc
      exact ⟨t, run, kept.scrubInWiping h hm⟩
    | false =>
      have waits : Waiting s := ⟨(scrubInWiping_iff.mp h).2 hm, hm⟩
      obtain ⟨t, run, kept⟩ := exec_loadView c waits hc
      exact ⟨t, run, (waits.congr kept).scrub⟩
  · cases c
    case powerOn a =>
      show ∃ t, execPowerOn a s = .next t ∧ ScrubInWiping t
      unfold execPowerOn
      split
      · exact ⟨_, rfl, scrubInWiping_powerOn _ _ _ _⟩
      · exact ⟨s, rfl, h⟩
    case powerLoss inErase =>
      show ∃ t, execPowerLoss inErase s = .next t ∧ ScrubInWiping t
      unfold execPowerLoss
      split
      · exact ⟨s, rfl, h⟩
      · exact ⟨_, rfl, scrubInWiping_of_powerOn rfl⟩
    case resetnAssert =>
      show ∃ t, execResetnAssert s = .next t ∧ ScrubInWiping t
      unfold execResetnAssert
      split
      · exact ⟨s, rfl, h⟩
      · exact ⟨_, rfl, scrubInWiping_of_powerOn rfl⟩
    case resetnRelease a g => exact resetnRelease_scrubInWiping a g h
    case tick tamper supply entropy => exact tick_scrubInWiping tamper supply entropy h
    case pageWriteComplete => exact pageWriteComplete_scrubInWiping h
    all_goals exact absurd rfl hc

theorem withQueue_scrubInWiping (q : List Instr) (h : ScrubInWiping s) : ScrubInWiping (withQueue q s) := by
  obtain ⟨orders, running, wiping, unloaded⟩ := h
  exact ⟨orders, running, wiping, unloaded⟩

/-- Settles O8. -/
theorem stepKeepsScrubInWiping : Obligations.StepKeepsScrubInWiping := fun s t h run => by
  obtain rfl | ⟨c, q, run⟩ := step_cases run
  · exact h
  · obtain ⟨u, run', kept⟩ := exec_scrubInWiping c (withQueue_scrubInWiping q h)
    obtain rfl : u = t := Host.Outcome.next.inj (run'.symm.trans run)
    exact kept

end

/-! # POWER_ON, POWER_LOSS and RESETN_ASSERT -/

section

variable {s t : State}

/-! ## Power, and the line reset held -/

theorem execPowerOn_off (a : Bool) (h : s.mode = .off) :
    exec (.powerOn a) s = .next (State.powerOn s.ks.pages a s.entropyTest s.pending) := by
  show execPowerOn a s = _
  rw [execPowerOn, if_pos h]

theorem execPowerLoss_on (inErase : Bool) (h : s.mode ≠ .off) :
    exec (.powerLoss inErase) s =
      .next { State.powerOn (cutPages inErase s) s.addrSel s.entropyTest s.pending with mode := .off } := by
  show execPowerLoss inErase s = _
  rw [execPowerLoss, if_neg h]

theorem powerOn_entry (pages : Vector Stored 53) (a e : Bool) (q : List Instr) (k : KeyName) :
    entry (State.powerOn pages a e q) k = { key := none, epoch := 0 } := by
  cases k with
  | band b => simp [State.powerOn, KeyTable.powerOn, entry]
  | cover => rfl
  | fill => rfl

theorem powerOn_backoffOf (pages : Vector Stored 53) (a e : Bool) (q : List Instr) (i : SlotId) :
    backoffOf (State.powerOn pages a e q) i = 0 := by
  simp [State.powerOn, backoffOf]

/-- The page being written is cut, and every other page is as the store held it. -/
theorem cutPages_get (inErase : Bool) (s : State) (p : PageId) :
    (cutPages inErase s).get p =
      if (s.ks.writer.any fun x => x.page = p) then (if inErase then .blank else .torn) else s.ks.pages.get p := by
  unfold cutPages
  split
  · rename_i x hx
    simp [hx, get_put]
  · rename_i hx
    simp [hx]

/-- Settles O10. -/
theorem powerOnAndLoss : Obligations.PowerOnAndLoss := by
  unfold Obligations.PowerOnAndLoss
  constructor
  · intro a s off
    refine ⟨_, execPowerOn_off a off, rfl, rfl, rfl, rfl, rfl, rfl, rfl, rfl, rfl, rfl, rfl, rfl, rfl, rfl, rfl,
      powerOn_entry _ _ _ _, powerOn_backoffOf _ _ _ _, rfl, rfl⟩
  · intro inErase a s on
    exact ⟨_, _, execPowerLoss_on inErase on, rfl, rfl, rfl, execPowerOn_off a rfl, rfl, rfl, rfl, cutPages_get inErase s⟩

/-- Settles O11. -/
theorem lineResetHolds : Obligations.LineResetHolds := by
  unfold Obligations.LineResetHolds
  intro s counts
  have reset : exec .resetnAssert s = .next (resetAsserted s) := by
    show execResetnAssert s = _
    rw [execResetnAssert, if_neg]
    intro stopped
    simp only [Bool.or_eq_true, decide_eq_true_eq] at stopped
    rcases stopped with hm | hm <;> simp [counting, hm] at counts
  have held : heldNow s = some
      { backoff := s.backoff, counter := s.twu.counter, grace := s.twu.grace, inSuspect := decide (theft s = .suspect),
        tetherLost := s.twu.tetherLost, latch := s.w.watch.latch } := by
    rw [heldNow, if_pos counts]
  refine ⟨_, reset, rfl, held, rfl, rfl, rfl, rfl, rfl, rfl, rfl, rfl, rfl, rfl,
    powerOn_entry s.ks.pages s.addrSel s.entropyTest s.pending, rfl, rfl, rfl, ?_, rfl, rfl, rfl⟩
  show (writerKept s).map _ = _
  unfold writerKept
  rw [Option.map_map]
  rfl

end

/-! # What the link discards, admission and the outcome of a piece -/

section

variable {s t : State}

/-! ## What the link discards -/

theorem receive_down (m : InMsg) (h : linkUp s = false) : receive m s = s := by
  unfold receive
  rw [if_neg (by simp [h])]

theorem receiveBytes_down (xs : List Byte) (h : linkUp s = false) : receiveBytes xs s = s := by
  unfold receiveBytes
  rw [if_neg (by simp [h])]

/-- A command that brings a request over the link is its message. -/
theorem exec_linkRequest {c : Instr} {e : Envelope} (h : requestOf c = some (.link, e)) (s : State) :
    exec c s = .next (receive (.request e) s) := by
  cases c <;> simp only [requestOf, Option.some.injEq, Prod.mk.injEq, reduceCtorEq, false_and, true_and] at h
  case statusQuery p id =>
    obtain ⟨rfl, rfl⟩ := h
    rfl
  case requestBadKind p id kind =>
    obtain ⟨rfl, rfl⟩ := h
    rfl
  all_goals
    subst h
    rfl

/-- Settles O20. -/
theorem inboundDiscards : Obligations.InboundDiscards := by
  unfold Obligations.InboundDiscards
  intro s
  refine ⟨fun down => ?_, fun xs none => ?_⟩
  · refine ⟨fun _ _ _ _ _ _ => congrArg _ (receive_down _ down), fun _ _ _ => ⟨congrArg _ (receive_down _ down),
      congrArg _ (receive_down _ down)⟩, fun _ => congrArg _ (receive_down _ down), congrArg _ (if_neg (by simp [down])),
      fun xs => congrArg _ (receiveBytes_down xs down), fun c e request => ?_⟩
    rw [exec_linkRequest request, receive_down _ down]
  · show Host.Outcome.next (receiveBytes xs s) = _
    unfold receiveBytes
    split
    · rw [none]
    · rfl

/-! ## Admission -/

theorem kindOf_none_iff (x : Byte) : kindOf x = none ↔ 2 < x.toNat := by
  unfold kindOf
  split_ifs with h0 h1 h2 <;> simp only [false_iff, true_iff] <;> bv_omega

theorem kindOf_scrub_iff (x : Byte) : kindOf x = some .scrub ↔ x = 2 := by
  unfold kindOf
  split_ifs with h0 h1 h2
  · subst h0; simp
  · subst h1; simp
  · simpa using h2
  · simpa using h2

theorem outstanding_iff (s : State) (tag : Byte) : outstanding s tag = true ↔ ∃ t ∈ s.dq, t.tag = tag := by
  simp [outstanding]

theorem orderMatches_iff (slot : Byte) (a n : Nat) (s : State) : orderMatches slot a n s = true ↔
    slot.toNat ≤ 3 ∧ ((s.wipe.orders.get (Fin.ofNat 4 slot.toNat)).any fun o =>
      decide (o.answered = false ∧ o.first = a ∧ o.count = n)) = true := by
  unfold orderMatches
  cases s.wipe.orders.get (Fin.ofNat 4 slot.toNat) <;> simp [and_assoc]

/-- Admission as R25's table. -/
theorem admission_eq (kind tag stream : Byte) (a n : Nat) (slot : Byte) (s : State) :
    admission kind tag stream a n slot s =
      if n = 0 ∨ 2 < kind.toNat ∨ 1 < stream.toNat then some .badDescriptor
      else if ∃ t ∈ s.dq, t.tag = tag then some .dupTag
      else if 32 ≤ s.dq.length then some .queueFull
      else if kind.toNat ≤ 1 ∧ capacity s < a + n then some .outOfRange
      else if kind = 2 ∧ ¬(slot.toNat ≤ 3 ∧ ((s.wipe.orders.get (Fin.ofNat 4 slot.toNat)).any fun o =>
          decide (o.answered = false ∧ o.first = a ∧ o.count = n)) = true) then some .badOrder
      else none := by
  unfold admission
  have bad : (decide (n = 0) || decide (kindOf kind = none) || decide (1 < stream.toNat)) = true ↔
      n = 0 ∨ 2 < kind.toNat ∨ 1 < stream.toNat := by
    simp only [Bool.or_eq_true, decide_eq_true_eq, kindOf_none_iff, or_assoc]
  by_cases h1 : n = 0 ∨ 2 < kind.toNat ∨ 1 < stream.toNat
  · rw [if_pos (bad.mpr h1), if_pos h1]
  rw [if_neg (fun h => h1 (bad.mp h)), if_neg h1]
  by_cases h2 : ∃ t ∈ s.dq, t.tag = tag
  · rw [if_pos ((outstanding_iff s tag).mpr h2), if_pos h2]
  rw [if_neg (fun h => h2 ((outstanding_iff s tag).mp h)), if_neg h2]
  by_cases h3 : 32 ≤ s.dq.length
  · rw [if_pos (show Config.dqRoom ≤ _ from h3), if_pos h3]
  rw [if_neg (show ¬Config.dqRoom ≤ _ from h3), if_neg h3]
  have kinds : kindOf kind ≠ some .scrub ↔ kind.toNat ≤ 1 := by
    rw [ne_eq, kindOf_scrub_iff]
    bv_omega
  have range : (decide (kindOf kind ≠ some .scrub) && decide (capacity s < a + n)) = true ↔
      kind.toNat ≤ 1 ∧ capacity s < a + n := by
    simp only [Bool.and_eq_true, decide_eq_true_eq, kinds]
  by_cases h4 : kind.toNat ≤ 1 ∧ capacity s < a + n
  · rw [if_pos (range.mpr h4), if_pos h4]
  rw [if_neg (fun h => h4 (range.mp h)), if_neg h4]
  refine if_congr ?_ rfl rfl
  rw [← orderMatches_iff, Bool.and_eq_true, decide_eq_true_eq, kindOf_scrub_iff, Bool.not_eq_true', Bool.not_eq_true]

/-- Settles O24. -/
theorem admittedWithinBounds : Obligations.AdmittedWithinBounds := by
  unfold Obligations.AdmittedWithinBounds
  intro kind tag stream a n slot s
  refine ⟨?_, admission_eq kind tag stream a n slot s⟩
  rw [admission_eq]
  have order : (∃ o, s.wipe.orders.get (Fin.ofNat 4 slot.toNat) = some o ∧ o.answered = false ∧ o.first = a ∧ o.count = n) ↔
      ((s.wipe.orders.get (Fin.ofNat 4 slot.toNat)).any fun o =>
        decide (o.answered = false ∧ o.first = a ∧ o.count = n)) = true := by
    simp [Option.any_eq_true]
  rw [order]
  generalize ((s.wipe.orders.get (Fin.ofNat 4 slot.toNat)).any fun o =>
        decide (o.answered = false ∧ o.first = a ∧ o.count = n)) = found
  have tags : (∀ t ∈ s.dq, t.tag ≠ tag) ↔ ¬∃ t ∈ s.dq, t.tag = tag := by simp
  rw [tags]
  have kinds : kind = 2 ↔ kind.toNat = 2 := by bv_omega
  split_ifs with h1 h2 h3 h4 h5
  · simp only [false_iff]
    rintro ⟨hn, hs, -, -, hk | hk⟩
    · omega
    · have := kinds.mp hk.1
      omega
  · simp only [false_iff]
    exact fun h => h.2.2.1 h2
  · simp only [false_iff]
    omega
  · simp only [false_iff]
    rintro ⟨-, -, -, -, hk | hk⟩
    · omega
    · have := kinds.mp hk.1
      omega
  · simp only [false_iff]
    rintro ⟨-, -, -, -, hk | hk⟩
    · have := kinds.mp h5.1
      omega
    · exact h5.2 hk.2
  · simp only [true_iff]
    refine ⟨by omega, by omega, h2, by omega, ?_⟩
    by_cases hk : kind.toNat ≤ 1
    · exact .inl ⟨hk, by omega⟩
    · have scrub : kind = 2 := kinds.mpr (by omega)
      refine .inr ⟨scrub, ?_⟩
      by_contra hn
      exact h5 ⟨scrub, hn⟩

/-! ## The outcome of a piece -/

theorem coverPiece_eq (tr : Transfer) (s : State) (h : tr.kind ≠ .scrub) :
    coverPiece tr s = true ↔ coverActive s = true ∧ tr.progress < s.w.config.coverLength := by
  simp [coverPiece, h]

/-- R33's table as one chain. -/
theorem decide33_eq (tr : Transfer) (s : State) : decide33 tr s =
    if tr.kind = .scrub then .allowed .fill
    else if theft s = .wiping then .refused .wiping
    else if theft s = .alarm then .refused .alarm
    else if coverActive s = true ∧ tr.progress < s.w.config.coverLength then
      (if tr.kind = .write ∧ s.coverPermit = false then .refused .covered else .allowed .cover)
    else if (tr.kind = .read ∧ (flags s (bandOf s tr.progress)).readLocked = true) ∨
        (tr.kind = .write ∧ (flags s (bandOf s tr.progress)).writeLocked = true) ∨
        present s (.band (bandOf s tr.progress)) = false then .refused .locked
    else .allowed (.band (bandOf s tr.progress)) := by
  unfold decide33
  dsimp only
  cases hk : tr.kind with
  | scrub => simp
  | read | write =>
    have cover := coverPiece_eq tr s (by simp [hk])
    by_cases hc : coverActive s = true ∧ tr.progress < s.w.config.coverLength
    · have piece := cover.mpr hc
      by_cases hp : s.coverPermit = true
      · simp [piece, hc, hp]
      · simp [piece, hc, hp]
    · have piece : coverPiece tr s = false := by
        rw [← Bool.not_eq_true, cover]
        exact hc
      rw [if_neg hc]
      cases (flags s (bandOf s tr.progress)).readLocked <;> cases (flags s (bandOf s tr.progress)).writeLocked <;>
        cases present s (.band (bandOf s tr.progress)) <;> simp [piece]

/-- Settles O26. -/
theorem allowedPieceIsGuarded : Obligations.AllowedPieceIsGuarded := by
  unfold Obligations.AllowedPieceIsGuarded
  refine ⟨decide33_eq, fun tr s k => ?_⟩
  rw [decide33_eq]
  split_ifs with h1 h2 h3 h4 h5 h6 <;> intro allowed <;>
    simp only [Verdict.allowed.injEq] at allowed <;> subst allowed
  · exact ⟨by simp [h1], fun h => absurd h1 h, by simp, by simp⟩
  · have barred : barred s = false := by simp [barred, h2, h3]
    refine ⟨by simp [h1], fun _ => barred, fun _ => ⟨h4.1, h4.2, fun hw => ?_⟩, by simp⟩
    by_contra denied
    exact h5 ⟨hw, by simpa using denied⟩
  · have barred : barred s = false := by simp [barred, h2, h3]
    refine ⟨by simp [h1], fun _ => barred, by simp, fun b hb => ?_⟩
    obtain rfl : bandOf s tr.progress = b := by simpa using hb
    push Not at h6
    obtain ⟨read, write, live⟩ := h6
    exact ⟨rfl, by simpa using live, fun hr => by simpa using read hr, fun hw => by simpa using write hw, h4⟩

end

/-! # Numbers as bytes, and the fields of a list of them -/

/-! ## Numbers as bytes, and their fields (R185) -/

@[simp] theorem length_leBytes (k n : Nat) : (leBytes k n).length = k := by
  induction k generalizing n with
  | zero => rfl
  | succ k ih => simp [leBytes, ih]

theorem ofLe_leBytes (k n : Nat) : ofLe (leBytes k n) = n % 256 ^ k := by
  induction k generalizing n with
  | zero => simp [leBytes, ofLe, Nat.mod_one]
  | succ k ih =>
    show (BitVec.ofNat 8 n).toNat + 256 * ofLe (leBytes k (n / 256)) = n % 256 ^ (k + 1)
    have power : 256 ^ (k + 1) = 256 * 256 ^ k := Nat.pow_succ'
    rw [ih, BitVec.toNat_ofNat, power, Nat.mod_mul]

/-- The field that a list of fields begins with. -/
theorem field_here (k n : Nat) (ys : List Byte) : field (leBytes k n ++ ys) 0 k = n % 256 ^ k := by
  have taken : (leBytes k n ++ ys).take k = leBytes k n := by simp
  rw [field, List.drop_zero, taken, ofLe_leBytes]

theorem field_only (k n : Nat) : field (leBytes k n) 0 k = n % 256 ^ k := by simpa using field_here k n []

/-- A field behind the first. -/
theorem field_behind (k n : Nat) (ys : List Byte) {o m : Nat} (h : k ≤ o) :
    field (leBytes k n ++ ys) o m = field ys (o - k) m := by
  have first : (leBytes k n).drop o = [] := List.drop_eq_nil_of_le (by simpa using h)
  simp [field, List.drop_append, first]

theorem singleton_eq_leBytes (x : Byte) : [x] = leBytes 1 x.toNat := by simp [leBytes]

/-! # What the window reads as -/

section

variable {s t : State}

/-! ## The window's items (R172, R191) -/

theorem itemAt_plain {a : Nat} (h : a < 0x0A ∨ (0x10 ≤ a ∧ a < 0x30) ∨ (0x70 ≤ a ∧ a < 0x78) ∨ 0x80 ≤ a) :
    itemAt a = none := by
  unfold itemAt
  rw [if_neg (by simp; omega), if_neg (by simp; omega), if_neg (by simp; omega), if_neg (by simp; omega), if_neg (by simp; omega)]

theorem itemAt_record (r : OrderSlot) {n : Nat} (h : n < 16) : itemAt (0x30 + 16 * r.val + n) = some (.record r, n) := by
  unfold itemAt
  rw [if_neg (by simp; omega), if_neg (by simp; omega), if_neg (by simp; omega), if_pos (by simp; omega)]
  have row : (0x30 + 16 * r.val + n - 0x30) / 16 = r.val := by omega
  have column : (0x30 + 16 * r.val + n - 0x30) % 16 = n := by omega
  rw [row, column]
  simp

theorem itemAt_counters {n : Nat} (h : n < 2) : itemAt (0x0A + n) = some (.failureSum, n) ∧ itemAt (0x0C + n) = some (.grace, n) ∧
    itemAt (0x0E + n) = some (.checkin, n) := by
  interval_cases n <;> exact ⟨rfl, rfl, rfl⟩

theorem itemAt_header {n : Nat} (h : n < 8) : itemAt (0x78 + n) = some (.header, n) := by
  interval_cases n <;> rfl

/-! ## What the items spell -/

theorem failureSum_eq (s : State) :
    failureSum s = ((List.finRange 8).map fun i => if (cred s i).state = .disabled then 0 else count s i).sum := by
  have slots : List.finRange 8 = [0, 1, 2, 3, 4, 5, 6, 7] := by decide
  simp [failureSum, summed, slots, Nat.add_assoc]

theorem length_recordBytes (x : Option Machine.Result) : (recordBytes x).length = 16 := by
  cases x <;> simp [recordBytes]

theorem endedCode_eq (e : Ended) : endedCode e = (match e with
    | .complete => 1
    | .stopped => 2
    | .abandoned => 3) := by cases e <;> rfl

theorem causeCode_eq (c : Option Cause) : causeCode c = (match c with
    | none => 0
    | some .theft => 1
    | some .remote => 2
    | some .owner => 3
    | some .revert => 4
    | some .storeLoss => 5) := by
  rcases c with _ | c
  · rfl
  · cases c <;> rfl

/-- The fields of a result record (R150, R191). -/
theorem recordBytes_fields (x : Machine.Result) :
    field (recordBytes (some x)) 0 1 = (if x.unread = true then 1 else 0) + (if x.overrun = true then 2 else 0) ∧
    field (recordBytes (some x)) 1 1 = endedCode x.ended + 16 * causeCode x.cause ∧
    field (recordBytes (some x)) 2 2 = x.pass % 2 ^ 16 ∧ field (recordBytes (some x)) 4 6 = x.written % 2 ^ 48 ∧
    field (recordBytes (some x)) 10 6 = x.refused % 2 ^ 48 := by
  have small : endedCode x.ended + 16 * causeCode x.cause < 256 := by
    have ended : endedCode x.ended ≤ 3 := by cases x.ended <;> decide
    have cause : causeCode x.cause ≤ 5 := by
      rcases x.cause with _ | c
      · decide
      · cases c <;> decide
    omega
  simp only [recordBytes, List.append_assoc]
  refine ⟨?_, ?_, ?_, ?_, ?_⟩
  · rw [field_here]
    unfold bitAt
    split <;> split <;> rfl
  · rw [field_behind _ _ _ (by omega), field_here]
    exact Nat.mod_eq_of_lt small
  · rw [field_behind _ _ _ (by omega), field_behind _ _ _ (by omega), field_here]
    rfl
  · rw [field_behind _ _ _ (by omega), field_behind _ _ _ (by omega), field_behind _ _ _ (by omega), field_here]
    rfl
  · rw [field_behind _ _ _ (by omega), field_behind _ _ _ (by omega), field_behind _ _ _ (by omega),
      field_behind _ _ _ (by omega), field_only]
    rfl

/-- The fields of the response header (R177, R191). -/
theorem headerBytes_fields (r : ResponseRecord) :
    field (headerBytes r) 0 1 = r.sequence.toNat ∧ field (headerBytes r) 1 2 = r.id.toNat ∧
    field (headerBytes r) 3 1 = (r.status + 16 * ((r.report.length + 63) / 64)) % 256 ∧
    field (headerBytes r) 4 2 = r.wait % 65536 ∧ field (headerBytes r) 6 2 = r.granted.toNat := by
  simp only [headerBytes, List.append_assoc, singleton_eq_leBytes]
  refine ⟨?_, ?_, ?_, ?_, ?_⟩
  · rw [field_here]
    exact Nat.mod_eq_of_lt r.sequence.isLt
  · rw [field_behind _ _ _ (by omega), field_here]
    exact Nat.mod_eq_of_lt r.id.isLt
  · rw [field_behind _ _ _ (by omega), field_behind _ _ _ (by omega), field_here]
    rfl
  · rw [field_behind _ _ _ (by omega), field_behind _ _ _ (by omega), field_behind _ _ _ (by omega), field_here]
    rfl
  · rw [field_behind _ _ _ (by omega), field_behind _ _ _ (by omega), field_behind _ _ _ (by omega),
      field_behind _ _ _ (by omega), field_only]
    exact Nat.mod_eq_of_lt r.granted.isLt

/-- The counters' items (R114, R123, R133, R171). -/
theorem counterItems_fields (s : State) :
    field (itemBytes s .failureSum) 0 2 = (if linkUp s = true then failureSum s else 0) % 65536 ∧
    field (itemBytes s .grace) 0 2 =
      (if linkUp s = true ∧ theft s = .suspect then (s.twu.grace + 1023) / 1024 else 0) % 65536 ∧
    field (itemBytes s .checkin) 0 2 = (if linkUp s = true then min (s.twu.counter / 1024) 65535 else 0) := by
  refine ⟨?_, ?_, ?_⟩
  · simp [itemBytes, field_only, only, starting]
  · by_cases up : linkUp s = true <;> simp [itemBytes, field_only, only, starting, graceShown, Config.ticksPerSecond, up]
  · simp only [itemBytes, field_only, only, starting, Bool.not_not, Config.ticksPerSecond]
    split <;> omega

theorem itemBytes_record (s : State) (r : OrderSlot) :
    itemBytes s (.record r) = if linkUp s then recordBytes (s.wipe.ring.get r) else List.replicate 16 0 := by
  cases up : linkUp s <;> simp [itemBytes, starting, up, recordBytes]

/-! ## A byte is begun -/

theorem ofNat_succ (x : Byte) : BitVec.ofNat 8 (x.toNat + 1) = x + 1 := by
  apply BitVec.eq_of_toNat_eq
  simp

theorem execLatchedRead_on (h : sidebandOn s = true) : exec .latchedRead s = .next (beginByte s.psp.pointer.toNat s) :=
  congrArg _ (if_pos h)

theorem execResultRecordRead_on (r : OrderSlot) (h : sidebandOn s = true) :
    exec (.resultRecordRead r) s = .next (beginByte (0x30 + 16 * r.val) s) := congrArg _ (if_pos h)

theorem execNoticeByteRead_on (h : sidebandOn s = true) : exec .noticeByteRead s = .next (beginByte 4 s) :=
  congrArg _ (if_pos h)

/-- A byte without a read effect. -/
theorem beginByte_still (a : Nat) (s : State) (h : readEffect a s = s) :
    beginByte a s = { s with psp := { s.psp with pointer := BitVec.ofNat 8 (a + 1), served := readByte s a } } := by
  unfold beginByte pointAfter
  rw [h]

theorem readEffect_plain {a : Nat} (item : itemAt a = none) (h : a ≠ 4) : readEffect a s = s := by
  unfold readEffect
  rw [item]
  exact if_neg h

theorem readEffect_later {a n : Nat} {i : Item} (item : itemAt a = some (i, n)) (h : 0 < n) : readEffect a s = s := by
  unfold readEffect
  rw [item]
  exact if_neg (by omega)

theorem readByte_plain {a : Nat} (item : itemAt a = none) : readByte s a = plainByte s a := by
  unfold readByte
  rw [item]

theorem readByte_later {a n : Nat} {i : Item} (item : itemAt a = some (i, n)) (h : 0 < n) : readByte s a = laterByte s i n := by
  unfold readByte
  rw [item]
  exact if_neg (by omega)

theorem readByte_first {a : Nat} {i : Item} (item : itemAt a = some (i, 0)) : readByte s a = byteAt (itemBytes s i) 0 := by
  unfold readByte
  rw [item]
  rfl

/-- LATCHED_READ at a location that has no read effect. -/
theorem serves_of_still (h : sidebandOn s = true) (still : readEffect s.psp.pointer.toNat s = s) :
    Serves (readByte s s.psp.pointer.toNat) s := by
  unfold Serves
  rw [execLatchedRead_on h, beginByte_still _ _ still, ofNat_succ]

theorem serves_plain (h : sidebandOn s = true) {a : Nat} (pointer : s.psp.pointer.toNat = a) (item : itemAt a = none)
    (notice : a ≠ 4) : Serves (plainByte s a) s := by
  subst pointer
  have served := serves_of_still h (readEffect_plain item notice)
  rwa [readByte_plain item] at served

theorem serves_later (h : sidebandOn s = true) {i : Item} {n : Nat} (item : itemAt s.psp.pointer.toNat = some (i, n))
    (later : 0 < n) : Serves (laterByte s i n) s := by
  have served := serves_of_still h (readEffect_later item later)
  rwa [readByte_later item later] at served

/-! ## Plain locations -/

theorem plainByte_report {a : Nat} (h : 0xC0 ≤ a) :
    plainByte s a = byteAt s.psp.response.report (s.psp.page * 64 + (a - 0xC0)) := by
  unfold plainByte
  rw [if_neg (by omega), if_neg (by omega), if_neg (by omega), if_neg (by omega), if_neg (by omega), if_neg (by omega),
    if_neg (by omega), if_pos h]

theorem plainByte_zero {a : Nat} (h : a = 7 ∨ a = 8 ∨ (0x10 ≤ a ∧ a < 0x30) ∨ (0x72 ≤ a ∧ a < 0x78) ∨ (0x80 ≤ a ∧ a < 0xC0)) :
    plainByte s a = 0 := by
  unfold plainByte
  rw [if_neg (by omega), if_neg (by omega), if_neg (by omega), if_neg (by omega), if_neg (by omega), if_neg (by omega),
    if_neg (by omega), if_neg (by omega)]

theorem theftByte_eq (s : State) : theftByte s = if linkUp s = false then 15 else
    match theft s with
    | .dormant => 0
    | .armed => 1
    | .suspect => 2
    | .alarm => 3
    | .wiping => 4
    | .wiped => 5 := by
  unfold theftByte starting
  cases linkUp s
  · rfl
  · cases theft s <;> rfl

theorem checkinByte_eq (x : CheckinStatus) : BitVec.ofNat 8 (checkinCode x) = (match x with
    | .none => 0
    | .pending => 1
    | .good => 2
    | .bad => 3
    | .ignoredState => 4
    | .ignoredSlot => 5
    | .ignoredBackoff => 6
    | .ignoredPower => 7 : Byte) := by cases x <;> rfl

theorem submitByte_eq (s : State) : submitByte s = if linkUp s = true ∧ s.sideBox = none then 0 else 1 := by
  unfold submitByte starting
  cases linkUp s <;> cases s.sideBox <;> rfl

/-- The four bits of an indicator set that is shown as a byte. -/
theorem fourBits (a b c d : Bool) :
    ((BitVec.ofNat 4 (bitAt 0 a + bitAt 1 b + bitAt 2 c + bitAt 3 d)).setWidth 8).toNat < 16 ∧
    ((BitVec.ofNat 4 (bitAt 0 a + bitAt 1 b + bitAt 2 c + bitAt 3 d)).setWidth 8).getLsbD 0 = a ∧
    ((BitVec.ofNat 4 (bitAt 0 a + bitAt 1 b + bitAt 2 c + bitAt 3 d)).setWidth 8).getLsbD 1 = b ∧
    ((BitVec.ofNat 4 (bitAt 0 a + bitAt 1 b + bitAt 2 c + bitAt 3 d)).setWidth 8).getLsbD 2 = c ∧
    ((BitVec.ofNat 4 (bitAt 0 a + bitAt 1 b + bitAt 2 c + bitAt 3 d)).setWidth 8).getLsbD 3 = d := by
  revert a b c d
  decide

/-! ## Read effects -/

theorem beginByte_notice (s : State) :
    beginByte 4 s = { s with psp := { s.psp with notice := 0, pointer := 5, served := s.psp.notice.setWidth 8 } } := rfl

theorem beginByte_first {a : Nat} {i : Item} (item : itemAt a = some (i, 0)) (h : ∀ r, i ≠ .record r) :
    beginByte a s = { s with psp := { s.psp with pointer := BitVec.ofNat 8 (a + 1), served := byteAt (itemBytes s i) 0,
                                                 latch := some (i, itemBytes s i) } } := by
  have effect : readEffect a s = { s with psp := { s.psp with latch := some (i, itemBytes s i) } } := by
    unfold readEffect
    rw [item]
    cases i with
    | record r => exact absurd rfl (h r)
    | failureSum | grace | checkin | header => rfl
  unfold beginByte
  dsimp only
  rw [effect, readByte_first item]
  rfl

theorem markRead_psp (r : OrderSlot) (x : Sideband) (s : State) :
    markRead r { s with psp := x } = { markRead r s with psp := x } := by
  unfold markRead
  cases hs : starting s with
  | true => rw [if_pos (show starting { s with psp := x } = true from hs), if_pos rfl]
  | false =>
    have same : starting { s with psp := x } = false := hs
    rw [if_neg (by simp [same]), if_neg (by simp)]

theorem beginByte_record (r : OrderSlot) (s : State) :
    beginByte (0x30 + 16 * r.val) s =
      markRead r { s with psp := { s.psp with pointer := BitVec.ofNat 8 (0x31 + 16 * r.val),
                                              served := byteAt (itemBytes s (.record r)) 0,
                                              latch := some (.record r, itemBytes s (.record r)) } } := by
  have item : itemAt (0x30 + 16 * r.val) = some (.record r, 0) := itemAt_record r (n := 0) (by omega)
  have next : 0x30 + 16 * r.val + 1 = 0x31 + 16 * r.val := by omega
  have effect : readEffect (0x30 + 16 * r.val) s =
      markRead r { s with psp := { s.psp with latch := some (.record r, itemBytes s (.record r)) } } := by
    unfold readEffect
    rw [item]
    rfl
  refine Eq.trans ?_ (markRead_psp r _ s).symm
  unfold beginByte pointAfter
  dsimp only
  rw [effect, readByte_first item, next, markRead_psp]

/-- What RESULT_RECORD_READ leaves (R150, R172, R178). -/
theorem resultRecordRead_spec (r : OrderSlot) (h : sidebandOn s = true) : ∃ t, exec (.resultRecordRead r) s = .next t ∧
    (linkUp s = true →
      t.psp = { s.psp with pointer := BitVec.ofNat 8 (0x31 + 16 * r.val),
                           served := byteAt (recordBytes (s.wipe.ring.get r)) 0,
                           latch := some (.record r, recordBytes (s.wipe.ring.get r)) } ∧
      ∀ q : OrderSlot, t.wipe.ring.get q =
        if q = r then (s.wipe.ring.get r).map fun x => { x with unread := false } else s.wipe.ring.get q) ∧
    (linkUp s = false →
      t.psp = { s.psp with pointer := BitVec.ofNat 8 (0x31 + 16 * r.val), served := 0,
                           latch := some (.record r, List.replicate 16 0) } ∧
      t.wipe = s.wipe) ∧
    t.w = s.w ∧ t.ks = s.ks ∧ t.keys = s.keys ∧ t.bands = s.bands := by
  refine ⟨_, execResultRecordRead_on r h, ?_⟩
  rw [beginByte_record, itemBytes_record]
  unfold markRead
  cases up : linkUp s with
  | true =>
    rw [if_neg (by simp [starting, linkUp] at up ⊢; exact up)]
    refine ⟨fun _ => ⟨rfl, fun q => ?_⟩, fun h => (Bool.noConfusion h), rfl, rfl, rfl, rfl⟩
    show (put s.wipe.ring r _).get q = _
    rw [get_put]
    by_cases hq : q = r
    · rw [if_pos hq, if_pos hq.symm]
    · rw [if_neg hq, if_neg (Ne.symm hq)]
  | false =>
    rw [if_pos (by simp [starting, linkUp] at up ⊢; exact up)]
    exact ⟨fun h => Bool.noConfusion h, fun _ => ⟨rfl, rfl⟩, rfl, rfl, rfl, rfl⟩

/-- Settles O60. -/
theorem windowReads : Obligations.WindowReads := by
  unfold Obligations.WindowReads
  refine ⟨fun r n a => ⟨itemAt_counters, itemAt_record r, itemAt_header, itemAt_plain⟩, fun s => ?_, fun s off => ?_,
    fun s on => ?_⟩
  · obtain ⟨sum, grace, checkin⟩ := counterItems_fields s
    obtain ⟨sequence, id, status, wait, granted⟩ := headerBytes_fields s.psp.response
    refine ⟨failureSum_eq s, length_leBytes _ _, length_leBytes _ _, length_leBytes _ _, by simp [itemBytes, headerBytes],
      sum, grace, checkin, sequence, id, status, wait, granted, fun r => ?_⟩
    rw [itemBytes_record]
    refine ⟨?_, fun down => by simp [down], fun up => by simp [up], fun empty => by rw [empty]; rfl, fun x _ => ?_⟩
    · split
      · exact length_recordBytes _
      · rfl
    · obtain ⟨flags, ended, rest⟩ := recordBytes_fields x
      rw [endedCode_eq, causeCode_eq] at ended
      exact ⟨flags, ended, rest⟩
  · exact ⟨congrArg _ (if_neg (by simp [off])), congrArg _ (if_neg (by simp [off])),
      fun _ => congrArg _ (if_neg (by simp [off]))⟩
  · have at' {n : Nat} (hn : n < 256) (h : s.psp.pointer = BitVec.ofNat 8 n) : s.psp.pointer.toNat = n := by
      rw [h, BitVec.toNat_ofNat]
      exact Nat.mod_eq_of_lt hn
    refine ⟨⟨_, execNoticeByteRead_on on, rfl, beginByte_notice s⟩, fun r => resultRecordRead_spec r on,
      fun i n xs item later latch => ?_, fun i n item later latch => ?_, fun i item plain => ?_, fun r pointer => ?_,
      fun h => serves_plain on (at' (by decide) h) rfl (by decide), fun h => serves_plain on (at' (by decide) h) rfl (by decide),
      ?_, fun h => ?_, fun h => ?_, fun h down => ?_, fun h up => ?_, fun h => ?_, fun h => ?_,
      fun h => serves_plain on (at' (by decide) h) rfl (by decide), fun h => ?_, fun h => ?_⟩
    · have served := serves_later on item later
      simpa [laterByte, latch] using served
    · have served := serves_later on item later
      unfold laterByte at served
      split at served
      · rename_i j xs hl
        rwa [if_neg (fun hj => latch xs (by rw [hl, hj]))] at served
      · exact served
    · rw [execLatchedRead_on on, beginByte_first item plain, ofNat_succ]
    · rw [execLatchedRead_on on, execResultRecordRead_on r on, pointer]
    · rintro (h | h)
      · exact serves_plain on (at' (by decide) h) rfl (by decide)
      · exact serves_plain on (at' (by decide) h) rfl (by decide)
    · rw [execLatchedRead_on on, execNoticeByteRead_on on, at' (n := 4) (by decide) h]
    · exact Eq.mp (congrArg (Serves · s) (theftByte_eq s)) (serves_plain on (at' (n := 5) (by decide) h) rfl (by decide))
    · have served := serves_plain on (at' (n := 6) (by decide) h) rfl (by decide)
      rwa [show plainByte s 6 = if starting s then 0 else (indicatorSet s).setWidth 8 from rfl,
        if_pos (by simp [starting, down])] at served
    · have served := serves_plain on (at' (n := 6) (by decide) h) rfl (by decide)
      rw [show plainByte s 6 = if starting s then 0 else (indicatorSet s).setWidth 8 from rfl,
        if_neg (by simp [starting, up])] at served
      obtain ⟨small, checkin, tether, tamper, budget⟩ :=
        fourBits (asserted s .checkin) (asserted s .tether) (asserted s .tamper) (asserted s .budget)
      refine ⟨_, served, small, ?_, tether, tamper, ?_⟩
      · unfold indicatorSet
        rw [checkin]
        simp [asserted, checkinAsserted, Option.any_eq_true]
      · unfold indicatorSet
        rw [budget]
        simp [asserted, budgetAsserted, Option.any_eq_true]
    · exact Eq.mp (congrArg (Serves · s) (checkinByte_eq s.twu.status))
        (serves_plain on (at' (n := 9) (by decide) h) rfl (by decide))
    · rw [← submitByte_eq]
      exact serves_plain on (at' (n := 0x70) (by decide) h) rfl (by decide)
    · have location : s.psp.pointer.toNat = 7 ∨ s.psp.pointer.toNat = 8 ∨
          (0x10 ≤ s.psp.pointer.toNat ∧ s.psp.pointer.toNat < 0x30) ∨
          (0x72 ≤ s.psp.pointer.toNat ∧ s.psp.pointer.toNat < 0x78) ∨
          (0x80 ≤ s.psp.pointer.toNat ∧ s.psp.pointer.toNat < 0xC0) := by
        rcases h with h | h | h
        · exact .inl (at' (by decide) h)
        · exact .inr (.inl (at' (by decide) h))
        · exact .inr (.inr h)
      have served := serves_plain on rfl (itemAt_plain (by omega)) (by omega)
      rwa [plainByte_zero location] at served
    · have served := serves_plain on rfl (itemAt_plain (by omega)) (by omega)
      rwa [plainByte_report h] at served

end

/-! # What taking a message keeps, and the commands that bring one -/

section

variable {s t : State}

/-! ## What taking a message keeps -/

theorem changeTheft_keeps (x : Theft) : Keeps s (changeTheft x s) :=
  ((theftCore_keeps x).trans lanesReact_keeps).trans announce_keeps

theorem enterWiping_keeps (c : Cause) (p : Passes) : Keeps s (enterWiping c p s) :=
  (((theftCore_keeps .wiping).trans (.ofWatch (wipeBegin_watch c p))).trans lanesReact_keeps).trans announce_keeps

theorem enterAlarm_keeps : Keeps s (enterAlarm s) := by
  unfold enterAlarm
  split
  · exact .ite (enterWiping_keeps _ _) (changeTheft_keeps _)
  · exact changeTheft_keeps _

theorem enterSuspect_keeps (i : Indicator) : Keeps s (enterSuspect i s) := by
  unfold enterSuspect
  split
  · exact .ite enterAlarm_keeps ((Keeps.ofWatch (suspectCore_watch i _)).trans announce_keeps)
  · exact .refl s

theorem assertIndicator_keeps (i : Indicator) : Keeps s (assertIndicator i s) := by
  unfold assertIndicator
  refine .ite ?_ (.refl s)
  split
  · exact enterSuspect_keeps i
  · exact .ite (.refl s) enterAlarm_keeps
  · exact .refl s

theorem suspectCheck_keeps : Keeps s (suspectCheck s) := .ite (changeTheft_keeps _) (.refl s)

theorem deassertIndicator_keeps (i : Indicator) : Keeps s (deassertIndicator i s) := .ite suspectCheck_keeps (.refl s)

theorem budgetAfter_keeps (b : Bool) : Keeps s (budgetAfter b s) :=
  .ite (.ite (.refl s) (deassertIndicator_keeps _)) (.ite (assertIndicator_keeps _) (.refl s))

theorem withBudget_keeps (f : State → State) (h : Keeps s (f s)) : Keeps s (withBudget f s) := h.trans (budgetAfter_keeps _)

theorem setCount_keeps (i : SlotId) (n : Nat) : Keeps s (setCount i n s) :=
  .ofPending ⟨rfl, rfl, rfl, rfl, rfl, rfl, rfl, rfl, rfl, rfl, rfl, rfl, rfl, rfl, rfl, rfl, rfl⟩

theorem setCred_keeps (i : SlotId) (c : Credential) : Keeps s (setCred i c s) :=
  .ofPending ⟨rfl, rfl, rfl, rfl, rfl, rfl, rfl, rfl, rfl, rfl, rfl, rfl, rfl, rfl, rfl, rfl, rfl⟩

theorem setBackoff_keeps (i : SlotId) (n : Nat) : Keeps s (setBackoff i n s) :=
  .ofPending ⟨rfl, rfl, rfl, rfl, rfl, rfl, rfl, rfl, rfl, rfl, rfl, rfl, rfl, rfl, rfl, rfl, rfl⟩

theorem disable_keeps (i : SlotId) : Keeps s (disable i s) :=
  ((setCred_keeps i _).trans (setBackoff_keeps i 0)).trans (queuePage_keeps _ _)

theorem charge_keeps (i : SlotId) (ws : List Waiter) : Keeps s (charge i ws s) := by
  refine withBudget_keeps _ ?_
  have raised : Keeps s (queuePage (attemptPage i) ws (setCount i (raisedCount (cred s i) (count s i)) s)) :=
    (setCount_keeps i _).trans (queuePage_keeps _ _)
  exact .ite (raised.trans (disable_keeps i)) raised

theorem respond_keeps (p : Port) (r : Response) : Keeps s (respond p r s) := by
  cases p <;> exact .ofPending ⟨rfl, rfl, rfl, rfl, rfl, rfl, rfl, rfl, rfl, rfl, rfl, rfl, rfl, rfl, rfl, rfl, rfl⟩

theorem hold_keeps (p : Port) (e : Envelope) (b : Bool) (x : ReqStage) : Keeps s (hold p e b x s) := setBox_keeps p _

theorem handVerify_keeps (p : Port) : Keeps s (handVerify p s) := by
  unfold handVerify
  split
  · exact (handMailbox_keeps p _).trans (setBox_keeps p _)
  · exact .refl s

theorem flow_keeps (p : Port) (e : Envelope) (i : SlotId) : Keeps s (flow p e i s) := by
  unfold flow
  split
  · exact respond_keeps p _
  · exact .ite ((hold_keeps p e true _).trans (handVerify_keeps p))
      (((hold_keeps p e true _).trans (charge_keeps i _)).trans (nextAct_keeps p _ _))

theorem coverPermit_keeps (x : Bool) : Keeps s { s with coverPermit := x } :=
  .ofPending ⟨rfl, rfl, rfl, rfl, rfl, rfl, rfl, rfl, rfl, rfl, rfl, rfl, rfl, rfl, rfl, rfl, rfl⟩

theorem tabBands_keeps (f : BandId → BandFlags × LiveKey) : Keeps s (tabBands f s) :=
  .ofPending ⟨rfl, rfl, rfl, rfl, rfl, rfl, rfl, rfl, rfl, rfl, rfl, rfl, rfl, rfl, rfl, rfl, rfl⟩

theorem lockBands_keeps (sel : BandId → Bool) : Keeps s (lockBands sel s) := tabBands_keeps _

theorem lockRequest_keeps (p : Port) (id : BitVec 16) (v : BitVec 32) : Keeps s (lockRequest p id v s) :=
  .ite (((lockBands_keeps _).trans lanesReact_keeps).trans (respond_keeps p _)) (respond_keeps p _)

theorem effectAct_keeps (p : Port) (b : State) (x : ReqStage) : Keeps s (effectAct p b x s) :=
  .ite (setNext_keeps p x _) (nextAct_keeps p b x)

theorem ownRequest_keeps (p : Port) (e : Envelope) (new : Secret) : Keeps s (ownRequest p e new s) := by
  unfold ownRequest
  split
  · exact respond_keeps p _
  · exact hold_keeps p e false _

theorem revertRequest_keeps (p : Port) (e : Envelope) (code : Secret) : Keeps s (revertRequest p e code s) := by
  unfold revertRequest
  split
  · exact respond_keeps p _
  · have began : Keeps s (enterWiping .revert (.times 1) (hold p e true (ends .ok) s)) :=
      (hold_keeps p e true (ends .ok)).trans (enterWiping_keeps _ _)
    exact began.trans (effectAct_keeps p s (ends .ok))

theorem owner_keeps (p : Port) (e : Envelope) : Keeps s (owner p e s) := by
  obtain ⟨id, body⟩ := e
  unfold owner
  split
  · exact respond_keeps p _
  · cases body
    case lock => exact lockRequest_keeps p _ _
    case own => exact ownRequest_keeps p _ _
    case coverClose => exact (coverPermit_keeps false).trans (respond_keeps p _)
    case revert => exact revertRequest_keeps p _ _
    case statusQuery => exact respond_keeps p _
    case undefined => exact respond_keeps p _
    all_goals exact flow_keeps p _ _

theorem takeEnvelope_keeps (p : Port) (e : Envelope) : Keeps s (takeEnvelope p e s) := by
  unfold takeEnvelope
  split
  · exact respond_keeps p _
  · split
    · exact respond_keeps p _
    · exact owner_keeps p e

theorem editTransfer_keeps (tag : Byte) (f : Transfer → Transfer) : Keeps s (editTransfer tag f s) :=
  .ofPending ⟨rfl, rfl, rfl, rfl, rfl, rfl, rfl, rfl, rfl, rfl, rfl, rfl, rfl, rfl, rfl, rfl, rfl⟩

theorem dqStu_keeps (dq : List Transfer) (stu : Translation) : Keeps s { s with dq := dq, stu := stu } :=
  .ofPending ⟨rfl, rfl, rfl, rfl, rfl, rfl, rfl, rfl, rfl, rfl, rfl, rfl, rfl, rfl, rfl, rfl, rfl⟩

theorem wipeEngine_keeps (x : WipeEngine) : Keeps s { s with wipe := x } :=
  .ofPending ⟨rfl, rfl, rfl, rfl, rfl, rfl, rfl, rfl, rfl, rfl, rfl, rfl, rfl, rfl, rfl, rfl, rfl⟩

theorem stuTake_keeps : Keeps s (stuTake s) := by
  unfold stuTake
  split
  · exact .refl s
  · split
    · exact (dqStu_keeps s.dq _).trans (editTransfer_keeps _ _)
    · exact .refl s

theorem hand_keeps (m : OutMsg) : Keeps s (hand m s) :=
  .ofPending ⟨rfl, rfl, rfl, rfl, rfl, rfl, rfl, rfl, rfl, rfl, rfl, rfl, rfl, rfl, rfl, rfl, rfl⟩

theorem takeDescriptor_keeps (kind tag stream : Byte) (a n : Nat) (slot : Byte) :
    Keeps s (takeDescriptor kind tag stream a n slot s) := by
  unfold takeDescriptor
  split
  · exact hand_keeps _
  · split
    · exact .refl s
    · rename_i k _
      have joined : Keeps s { s with dq := s.dq ++ [newTransfer k tag stream a n slot] } := dqStu_keeps _ s.stu
      refine Keeps.trans ?_ stuTake_keeps
      exact .ite (joined.trans (wipeEngine_keeps _)) joined

theorem takeNext_keeps (l : LaneId) : Keeps s (takeNext l s) := takeFrom_keeps l _

theorem transform_keeps (l : LaneId) (g : Segment) (k : MediaKey) (data : List Byte) : Keeps s (transform l g k data s) := by
  have sent : Keeps s (report g.tag 1 (sectorAddress g g.done) none (hand (sectorMsg k g data) s)) :=
    (hand_keeps _).trans (report_keeps _ _ _ _)
  refine sent.trans ?_
  exact .ite (setLane_keeps l _) ((setLane_keeps l _).trans (takeNext_keeps l))

theorem transformChecked_keeps (l : LaneId) (g : Segment) (data : List Byte) : Keeps s (transformChecked l g data s) := by
  unfold transformChecked
  split
  · exact endRefused_keeps l g _
  · split
    · exact transform_keeps l g _ data
    · exact .refl s

theorem laneSector_keeps (l : LaneId) (g : Segment) (a : Nat) (data : List Byte) : Keeps s (laneSector l g a data s) :=
  .ite (transformChecked_keeps l g data) (endRefused_keeps l g _)

theorem sectorArrives_keeps (d : Direction) (tag : Byte) (a : Nat) (data : List Byte) : Keeps s (sectorArrives d tag a data s) := by
  unfold sectorArrives
  split
  · exact laneSector_keeps .a _ a data
  · split
    · exact laneSector_keeps .b _ a data
    · exact .refl s

theorem orderRefuse_keeps (slot : Byte) : Keeps s (orderRefuse slot s) := by
  unfold orderRefuse
  split
  · exact .refl s
  · dsimp only
    split
    · exact .ite (.refl s) (orderClose_keeps _ _ _)
    · exact .refl s

theorem takeMessage_keeps (m : InMsg) : Keeps s (takeMessage m s) := by
  cases m with
  | descriptor => exact takeDescriptor_keeps _ _ _ _ _ _
  | plainSector => exact .ite (sectorArrives_keeps _ _ _ _) (.refl s)
  | cipherSector => exact .ite (sectorArrives_keeps _ _ _ _) (.refl s)
  | request e => exact takeEnvelope_keeps .link e
  | scrubRefuse slot => exact orderRefuse_keeps slot

/-! ## The commands that bring a message or a request -/

/-- A command that brings a message over the link is that message. -/
theorem exec_message {c : Instr} {m : InMsg} (h : messageOf c = some m) (s : State) : exec c s = .next (receive m s) := by
  have request {e : Envelope} (hr : requestOf c = some (.link, e)) (hm : some (InMsg.request e) = some m) :
      exec c s = .next (receive m s) := by
    rw [exec_linkRequest hr]
    obtain rfl := Option.some.inj hm
    rfl
  unfold messageOf at h
  split at h
  · exact congrArg (fun m => Host.Outcome.next (receive m s)) (Option.some.inj h)
  · exact congrArg (fun m => Host.Outcome.next (receive m s)) (Option.some.inj h)
  · exact congrArg (fun m => Host.Outcome.next (receive m s)) (Option.some.inj h)
  · exact congrArg (fun m => Host.Outcome.next (receive m s)) (Option.some.inj h)
  · split at h
    · rename_i hr
      exact request hr h
    · cases h

/-- A message that the port takes as it arrives. -/
theorem receive_now (m : InMsg) (h : LinkTakes s) : receive m s = settle (takeMessage m s) :=
  receive_takes m h ((takeMessage_keeps m).inbound.trans h.2.1)

theorem exec_message_now {c : Instr} {m : InMsg} (hm : messageOf c = some m) (h : LinkTakes s) :
    exec c s = .next (settle (takeMessage m s)) := by
  rw [exec_message hm, receive_now m h]

/-- The sideband answers once start-up has completed. -/
theorem sidebandOn_of_linkUp (h : linkUp s = true) : sidebandOn s = true := by
  have mode : s.mode = .ready := by simpa [linkUp] using h
  simp [sidebandOn, targetAddress, mode]

theorem exec_sideRequest {c : Instr} {e : Envelope} (h : requestOf c = some (.side, e)) (s : State) :
    exec c s = .next (sideRequest e.id e.body s) := by
  cases c <;> simp only [requestOf, Option.some.injEq, Prod.mk.injEq, reduceCtorEq, false_and, true_and] at h
  case statusQuery p id =>
    obtain ⟨rfl, rfl⟩ := h
    rfl
  case requestBadKind p id kind =>
    obtain ⟨rfl, rfl⟩ := h
    rfl
  all_goals
    subst h
    rfl

theorem linkUp_submitted (p : Port) (s : State) : linkUp (submitted p s) = linkUp s := by cases p <;> rfl

theorem submit_now (e : Envelope) (h : linkUp s = true) : submit e s = settle (takeEnvelope .side e s) := by
  unfold submit
  rw [if_neg (by simp [starting, h])]

/-- A request that its port takes as it arrives. -/
theorem exec_request {c : Instr} {p : Port} {e : Envelope} (h : requestOf c = some (p, e)) (takes : PortTakes p s) :
    exec c s = .next (settle (takeEnvelope p e (submitted p s))) := by
  cases p with
  | link => rw [exec_linkRequest h, receive_now _ takes]; rfl
  | side =>
    have up : linkUp s = true := takes
    have up' : linkUp (submitted .side s) = true := up
    rw [exec_sideRequest h, sideRequest, if_pos (sidebandOn_of_linkUp up)]
    exact congrArg _ (submit_now e up')

end

/-! # Sending, the inbound hold and the locks -/

section

variable {s t : State}

/-! ## Taking and sending (R64 to R67, R72) -/

/-- The state after the head of the outbound queue is sent, before waiting messages are taken. -/
theorem send_eq {m : OutMsg} {ms : List OutMsg} {xs : List InMsg} (h : s.link.outbound = m :: ms)
    (hi : s.link.inbound = xs) :
    send s = drain xs (freedBy m { s with link := { s.link with outbound := ms, lastSent := some m } }) := by
  have stays : (freedBy m { s with link := { s.link with outbound := ms, lastSent := some m } }).link.inbound = xs := by
    rw [← hi]
    unfold freedBy
    split <;> rfl
  unfold send
  split
  · rename_i none
    rw [h] at none
    cases none
  · rename_i head
    rw [h] at head
    cases head
    dsimp only
    rw [stays]

theorem drain_held {ms : List InMsg} (h : 64 ≤ s.link.outbound.length) :
    drain ms s = { s with link := { s.link with inbound := ms } } := by
  cases ms with
  | nil => rfl
  | cons m ms => exact if_pos (decide_eq_true h)

theorem drain_taken {m : InMsg} {ms : List InMsg} (h : s.link.outbound.length < 64) :
    drain (m :: ms) s = drain ms (settle (takeMessage m s)) := by
  have flowing : inboundHeld s = false := decide_eq_false (Nat.not_le.mpr h)
  rw [drain, if_neg (by simp [flowing])]

theorem execSendMessage_up (up : linkUp s = true) : exec .sendMessage s = .next (send s) := congrArg _ (if_pos up)

/-- Settles O21. -/
theorem sendTakesHead : Obligations.SendTakesHead := by
  unfold Obligations.SendTakesHead
  refine ⟨fun c m s message up => ⟨fun held => ?_, fun flowing empty t after => ?_⟩, ?_, ?_⟩
  · rw [exec_message message, receive, if_pos up, drain_held held]
  · rw [exec_message message, receive, if_pos up, empty, List.nil_append, drain_taken flowing, after]
    rfl
  · intro m ms n ns s u up outbound inbound sent
    have freed : u = freedBy m { s with link := { s.link with outbound := ms, lastSent := some m } } := by
      rw [sent]
      cases m with
      | completion c admitted => cases admitted <;> rfl
      | _ => rfl
    have run : exec .sendMessage s = .next (drain (n :: ns) u) := by
      rw [execSendMessage_up up, send_eq outbound inbound, freed]
    have rest : u.link.outbound = ms ∧ u.link.inbound = n :: ns := by
      rw [sent]
      exact ⟨rfl, inbound⟩
    rw [run]
    refine ⟨fun held => ?_, fun flowing t after => ?_⟩
    · rw [drain_held (by rw [rest.1]; exact held), ← rest.2]
    · rw [drain_taken (by rw [rest.1]; exact flowing), ← after]
      refine ⟨fun none => by rw [none]; rfl, fun held => by rw [drain_held held], fun flowing' n' one v after' => ?_⟩
      rw [one, drain_taken flowing', after']
      rfl
  · intro m ms s up outbound empty
    have stays : ({ s.link with outbound := ms, lastSent := some m, inbound := [] } : LinkPort) =
        { s.link with outbound := ms, lastSent := some m } := by rw [← empty]
    rw [execSendMessage_up up, send_eq outbound empty, drain, ← stays]
    cases m with
    | completion c admitted => cases admitted <;> rfl
    | _ => rfl

/-! ## Locks (R3, R6, R7) -/

/-- What `LockedBands` looks at. -/
def lockView (s : State) := (s.w, s.ks, s.bands, s.keys.bands)

theorem LockedBands.congr {u v : State} {sel : BandId → Bool} (h : LockedBands sel s t) (hu : lockView u = lockView s)
    (hv : lockView v = lockView t) : LockedBands sel u v := by
  simp only [lockView, Prod.mk.injEq] at hu hv
  obtain ⟨uw, uks, ubands, ukeys⟩ := hu
  obtain ⟨vw, vks, vbands, vkeys⟩ := hv
  unfold LockedBands SameBand lockActs hasSecret barred theft record flags present entry at h ⊢
  dsimp only at h ⊢
  rw [uw, uks, ubands, ukeys, vw, vks, vbands, vkeys]
  exact h

theorem TrafficOnly.lockView (h : TrafficOnly s t) : lockView t = Machine.lockView s := by
  unfold Machine.lockView
  rw [h.w, h.ks, h.bands, h.keys]

theorem flags_tabBands (f : BandId → BandFlags × LiveKey) (s : State) (b : BandId) : flags (tabBands f s) b = (f b).1 :=
  get_tab16 _ b

theorem entry_tabBands (f : BandId → BandFlags × LiveKey) (s : State) (b : BandId) :
    entry (tabBands f s) (.band b) = (f b).2 := get_tab16 _ b

theorem lockPair_of_stays (b : BandId) (h : lockActs s b = false) : lockPair s b = bandPair s b := by
  unfold lockPair
  dsimp only
  rw [if_pos (by simp [h])]

theorem withLock_eq (r : BandRecord) (f : BandFlags) :
    withLock r f = { f with readLocked := r.rle, writeLocked := r.wle || r.rle } := rfl

/-- The flags after a lock are those of the enables. -/
theorem lockPair_flags (b : BandId) (h : lockActs s b = true) : (lockPair s b).1 = withLock (record s b) (flags s b) := by
  unfold lockPair
  dsimp only
  split
  · rename_i same
    simp only [h, Bool.not_true, Bool.false_or, decide_eq_true_eq] at same
    exact same.symm
  · rfl

/-- A band that its enables leave open keeps its entry. -/
theorem lockPair_entry_open (b : BandId) (rle : (record s b).rle = false) : (lockPair s b).2 = entry s (.band b) := by
  have leftOpen : closed (withLock (record s b) (flags s b)) = false := by simp [closed, withLock_eq, rle]
  unfold lockPair
  dsimp only
  split
  · rfl
  · rw [leftOpen]
    rfl

theorem lockPair_entry_closed (b : BandId) (rle : (record s b).rle = true) (h : closed (flags s b) = true) :
    (lockPair s b).2 = entry s (.band b) := by
  have same : withLock (record s b) (flags s b) = flags s b := by
    simp only [closed, Bool.and_eq_true] at h
    cases hf : flags s b with
    | mk r w p q =>
      rw [hf] at h
      obtain ⟨read, write⟩ := h
      dsimp only at read write
      simp [withLock_eq, rle, read, write]
  unfold lockPair
  dsimp only
  rw [if_pos (by simp [same])]
  rfl

theorem lockPair_entry_closing (b : BandId) (acts : lockActs s b = true) (rle : (record s b).rle = true)
    (h : closed (flags s b) = false) : (lockPair s b).2 = removed (entry s (.band b)) := by
  have shut : closed (withLock (record s b) (flags s b)) = true := by simp [closed, withLock_eq, rle]
  have changed : withLock (record s b) (flags s b) ≠ flags s b := fun same => by
    rw [same, h] at shut
    cases shut
  unfold lockPair
  dsimp only
  rw [if_neg (by simp [acts, changed]), if_pos shut]
  rfl

theorem removed_eq (e : LiveKey) :
    removed e = { key := none, epoch := if e.key.isSome then e.epoch + 1 else e.epoch } := by
  unfold removed
  cases e with
  | mk key epoch => cases key <;> rfl

theorem lockBands_locked (sel : BandId → Bool) (s : State) : LockedBands sel s (lockBands sel s) := by
  refine ⟨rfl, rfl, fun b => ?_⟩
  unfold SameBand lockBands
  rw [flags_tabBands, entry_tabBands]
  by_cases chosen : sel b = true
  · rw [if_pos chosen]
    by_cases acts : lockActs s b = true
    · rw [if_pos (by simp [chosen, acts]), lockPair_flags b acts]
      refine ⟨rfl, lockPair_entry_open b, lockPair_entry_closed b, fun rle opened => ?_⟩
      rw [lockPair_entry_closing b acts rle opened, removed_eq]
      rfl
    · have stays : lockActs s b = false := by simpa using acts
      rw [if_neg (by simp [stays]), lockPair_of_stays b stays]
      exact ⟨rfl, rfl⟩
  · rw [if_neg chosen, if_neg (by simp [chosen])]
    exact ⟨rfl, rfl⟩

theorem ScrubInWiping.noOrders (h : ScrubInWiping s) (ht : theft s ≠ .wiping) : noOrders s = true :=
  h.orderly.noOrders (h.orderly.resting ht)

theorem inRange_iff (v : BitVec 32) : inRange v = true ↔ v.toNat < 65536 := by simp [inRange]

/-- R82's third check, for a complete envelope that may come by the port. -/
theorem mailboxCheck_whole {p : Port} {body : Body} (allowed : portAllows p body = true) (whole : complete body = true) :
    mailboxCheck p body s = if theft s = .wiping ∧ passesInWiping body = false then some .denied else none := by
  unfold mailboxCheck
  rw [if_neg (by simp [allowed]), if_neg (by simp [whole])]
  exact if_congr (by simp) rfl rfl

theorem mailboxCheck_passes {p : Port} {body : Body} (allowed : portAllows p body = true) (whole : complete body = true)
    (h : theft s ≠ .wiping) : mailboxCheck p body s = none := by
  rw [mailboxCheck_whole allowed whole, if_neg (fun hw => h hw.1)]

theorem takeEnvelope_refused {p : Port} {e : Envelope} {x : RStatus} (empty : box p s = none)
    (h : mailboxCheck p e.body s = some x) : takeEnvelope p e s = respond p (plainResponse e.id x) s := by
  unfold takeEnvelope
  rw [empty]
  dsimp only
  rw [h]

theorem takeEnvelope_owner {p : Port} {e : Envelope} (empty : box p s = none) (h : mailboxCheck p e.body s = none) :
    takeEnvelope p e s = owner p e s := by
  unfold takeEnvelope
  rw [empty]
  dsimp only
  rw [h]

theorem execSuspend_on (on : sidebandOn s = true) : exec .suspend s = .next (eventWrite 1 (pointAfter 7 s)) :=
  congrArg Host.Outcome.next (if_pos on)

theorem execLidClosed_on (on : sidebandOn s = true) : exec .lidClosed s = .next (eventWrite 2 (pointAfter 7 s)) :=
  congrArg Host.Outcome.next (if_pos on)

theorem execLockAll_on (on : sidebandOn s = true) : exec .lockAll s = .next (eventWrite 3 (pointAfter 7 s)) :=
  congrArg Host.Outcome.next (if_pos on)

theorem starting_pointAfter (a : Nat) (s : State) : starting (pointAfter a s) = !linkUp s := rfl

theorem exec_lock (id : BitVec 16) (v : BitVec 32) (h : LinkTakes s) :
    exec (.lock id (some v)) s = .next (settle (takeEnvelope .link { id := id, body := .lock (some v) } s)) :=
  exec_request (p := .link) rfl h

/-- Settles O58. -/
theorem locksLockTheirBands : Obligations.LocksLockTheirBands := by
  unfold Obligations.LocksLockTheirBands
  intro s
  refine ⟨fun id v takes empty ht => ?_, fun id v takes empty ht => ?_, fun up orders => ?_, fun down on c event => ?_⟩
  · have reached : takeEnvelope .link { id := id, body := .lock (some v) } s = lockRequest .link id v s :=
      takeEnvelope_owner empty (mailboxCheck_passes rfl rfl ht)
    rw [exec_lock id v takes, reached]
    refine ⟨fun large => ?_, fun small scrub => ?_⟩
    · rw [lockRequest, if_neg (by rw [inRange_iff]; omega)]
      rfl
    · rw [lockRequest, if_pos ((inRange_iff v).mpr small)]
      have orders : noOrders (lockBands (names v) s) = true := scrub.noOrders ht
      refine ⟨_, rfl, (lockBands_locked (names v) s).congr rfl (lanesReact_traffic orders).lockView, ?_⟩
      exact List.getLast?_concat
  · have denied : mailboxCheck .link (.lock (some v)) s = some .denied := by
      rw [mailboxCheck_whole rfl rfl, if_pos ⟨ht, rfl⟩]
    rw [exec_lock id v takes, takeEnvelope_refused (p := .link) empty denied]
    rfl
  · have on := sidebandOn_of_linkUp up
    have running : starting (pointAfter 7 s) = false := by rw [starting_pointAfter, up]; rfl
    have locked (sel : BandId → Bool) (x : State)
        (hx : x = lanesReact (lockBands sel (pointAfter 7 s))) : LockedBands sel s x ∧ x.psp.pointer = 8 := by
      have traffic := lanesReact_traffic (s := lockBands sel (pointAfter 7 s)) orders
      subst hx
      exact ⟨(lockBands_locked sel (pointAfter 7 s)).congr rfl traffic.lockView, by rw [traffic.psp]; rfl⟩
    refine ⟨⟨_, execSuspend_on on, locked _ _ ?_⟩, ⟨_, execLidClosed_on on, locked _ _ ?_⟩,
      ⟨_, execLockAll_on on, locked _ _ ?_⟩⟩
    · rw [eventWrite, running]
      rfl
    · rw [eventWrite, running]
      rfl
    · rw [eventWrite, running]
      rfl
  · have still (v : Byte) : eventWrite v (pointAfter 7 s) = { s with psp := { s.psp with pointer := 8 } } := by
      rw [eventWrite, if_pos (by rw [starting_pointAfter, down]; rfl)]
      rfl
    rcases event with rfl | rfl | rfl
    · rw [execSuspend_on on, still]
    · rw [execLidClosed_on on, still]
    · rw [execLockAll_on on, still]

end

/-! # Bytes written to the window -/

section

variable {s t : State}

/-! ## Bytes written to the window (R170, R171, R174 to R177) -/

theorem execRegisterWrite_on (v : Byte) (on : sidebandOn s = true) :
    exec (.registerWrite v) s = .next (writeByte s.psp.pointer.toNat v s) := congrArg Host.Outcome.next (if_pos on)

theorem execReportPageSelect_on (v : Byte) (on : sidebandOn s = true) :
    exec (.reportPageSelect v) s = .next (writeByte 0x71 v s) := congrArg Host.Outcome.next (if_pos on)

theorem execPointerSet_on (v : Byte) (on : sidebandOn s = true) :
    exec (.pointerSet v) s = .next { s with psp := { s.psp with pointer := v } } := congrArg Host.Outcome.next (if_pos on)

theorem execCheckinStrobe_on (on : sidebandOn s = true) : exec .checkinStrobe s = .next (strobeWrite 1 (pointAfter 8 s)) :=
  congrArg Host.Outcome.next (if_pos on)

theorem pointAfter_pointer (s : State) :
    pointAfter s.psp.pointer.toNat s = { s with psp := { s.psp with pointer := s.psp.pointer + 1 } } := by
  rw [pointAfter, ofNat_succ]

theorem writeEffect_token {a : Nat} {i : Fin 32} (v : Byte) (h : a = 0x10 + i.val) (s : State) :
    writeEffect a v s = { s with psp := { s.psp with token := put s.psp.token i v } } := by
  have place : Fin.ofNat 32 (a - 0x10) = i := Fin.ext (by simp [Fin.ofNat]; omega)
  unfold writeEffect
  rw [if_neg (by omega), if_neg (by omega), if_pos (by simp; omega), tokenWrite, place]

theorem writeEffect_buffer {a : Nat} {i : Fin 64} (v : Byte) (h : a = 0x80 + i.val) (s : State) :
    writeEffect a v s = { s with psp := { s.psp with buffer := put s.psp.buffer i v } } := by
  have place : Fin.ofNat 64 (a - 0x80) = i := Fin.ext (by simp [Fin.ofNat]; omega)
  unfold writeEffect
  rw [if_neg (by omega), if_neg (by omega), if_neg (by simp; omega), if_neg (by omega), if_neg (by omega),
    if_pos (by simp; omega), bufferWrite, place]

/-- A location that only reads, or that nothing stands at. -/
theorem writeEffect_ignored {a : Nat} (v : Byte) (h : a < 7 ∨ (9 ≤ a ∧ a < 0x10) ∨ (0x30 ≤ a ∧ a < 0x70) ∨
    (0x72 ≤ a ∧ a < 0x80) ∨ 0xC0 ≤ a) (s : State) : writeEffect a v s = s := by
  unfold writeEffect
  rw [if_neg (by omega), if_neg (by omega), if_neg (by simp; omega), if_neg (by omega), if_neg (by omega),
    if_neg (by simp; omega)]

theorem eventWrite_undefined {v : Byte} (h : v = 0 ∨ 3 < v.toNat) (s : State) : eventWrite v s = s := by
  have h1 : v ≠ 1 := by bv_omega
  have h2 : v ≠ 2 := by bv_omega
  have h3 : v ≠ 3 := by bv_omega
  unfold eventWrite
  rw [if_neg h1, if_neg h2, if_neg h3, ite_self]

theorem pageWrite_eq (v : Byte) (s : State) :
    pageWrite v s = { s with psp := { s.psp with page := if v.toNat < 8 then v.toNat else s.psp.page } } := by
  unfold pageWrite
  by_cases h : v.toNat < 8
  · rw [if_pos (by omega), if_pos h]
  · rw [if_neg (by omega), if_neg h]

theorem takeEnvelope_busy {p : Port} {e : Envelope} (h : box p s ≠ none) :
    takeEnvelope p e s = respond p (plainResponse e.id .busy) s := by
  unfold takeEnvelope
  split
  · rfl
  · contradiction

theorem box_submitted (p q : Port) (s : State) : box q (submitted p s) = box q s := by
  cases p <;> cases q <;> rfl

theorem mailboxCheck_submitted (p q : Port) (body : Body) (s : State) :
    mailboxCheck q body (submitted p s) = mailboxCheck q body s := by
  cases p <;> rfl

/-- A write of 0x01 to the submit byte. -/
theorem registerWrite_submit (on : sidebandOn s = true) (pointer : s.psp.pointer = 0x70) :
    exec (.registerWrite 1) s = .next (submit (bufferEnvelope s) (submitted .side s)) := by
  have at' : s.psp.pointer.toNat = 0x70 := by rw [pointer]; rfl
  rw [execRegisterWrite_on 1 on, at']
  rfl

/-- Settles O59. -/
theorem windowWrites : Obligations.WindowWrites := by
  unfold Obligations.WindowWrites
  intro v s
  refine ⟨fun off => ⟨congrArg Host.Outcome.next (if_neg (by simp [off])), congrArg Host.Outcome.next (if_neg (by simp [off])),
    congrArg Host.Outcome.next (if_neg (by simp [off]))⟩, fun on => ?_⟩
  refine ⟨execPointerSet_on v on, ?_, fun i pointer => ?_, fun i pointer => ?_, fun pointer => ?_, fun pointer => ?_,
    fun pointer => ?_, fun pointer => ?_, fun outside => ?_⟩
  · rw [execReportPageSelect_on v on, show writeByte 0x71 v s = pageWrite v (pointAfter 0x71 s) from rfl, pageWrite_eq]
    rfl
  · rw [execRegisterWrite_on v on, writeByte, writeEffect_token v pointer, pointAfter_pointer]
  · rw [execRegisterWrite_on v on, writeByte, writeEffect_buffer v pointer, pointAfter_pointer]
  · have at' : s.psp.pointer.toNat = 7 := by rw [pointer]; rfl
    rw [execRegisterWrite_on v on, at', show writeByte 7 v s = eventWrite v (pointAfter 7 s) from rfl]
    refine ⟨fun hv => ?_, fun hv => ?_, fun hv => ?_, fun hv => ?_⟩
    · rw [hv, execSuspend_on on]
    · rw [hv, execLidClosed_on on]
    · rw [hv, execLockAll_on on]
    · rw [eventWrite_undefined hv]
      rfl
  · have at' : s.psp.pointer.toNat = 8 := by rw [pointer]; rfl
    rw [execRegisterWrite_on v on, at', show writeByte 8 v s = strobeWrite v (pointAfter 8 s) from rfl]
    refine ⟨fun hv => ?_, fun hv => ?_⟩
    · rw [hv, execCheckinStrobe_on on]
    · rw [strobeWrite, if_neg hv]
      rfl
  · have at' : s.psp.pointer.toNat = 0x71 := by rw [pointer]; rfl
    rw [execRegisterWrite_on v on, at', execReportPageSelect_on v on]
  · have at' : s.psp.pointer.toNat = 0x70 := by rw [pointer]; rfl
    refine ⟨rfl, fun hv => ?_, fun hv e envelope => ?_⟩
    · rw [execRegisterWrite_on v on, at', show writeByte 0x70 v s = submitWrite v (pointAfter 0x70 s) from rfl, submitWrite,
        if_neg hv]
      rfl
    · rw [hv, registerWrite_submit on pointer, ← envelope]
      refine ⟨fun down => ?_, fun up => ⟨fun c request => ?_, fun full => ?_, fun empty x refused => ?_⟩⟩
      · rw [submit, if_pos (by rw [starting, linkUp_submitted, down]; rfl)]
        rfl
      · rw [exec_request request up, submit_now e ((linkUp_submitted .side s).trans up)]
      · rw [submit_now e ((linkUp_submitted .side s).trans up), takeEnvelope_busy (by rw [box_submitted]; exact full)]
        rfl
      · rw [submit_now e ((linkUp_submitted .side s).trans up), takeEnvelope_refused (by rw [box_submitted]; exact empty)
          (by rw [mailboxCheck_submitted]; exact refused)]
        rfl
  · rw [execRegisterWrite_on v on, writeByte, writeEffect_ignored v outside, pointAfter_pointer]

end

/-! # Transfer records, the COMPLETION and admission -/

section

variable {s : State} {tag : Byte} {f : Transfer → Transfer} {r : Transfer}

/-! ## Transfer records (R42, R43, R71) -/

theorem editRecord_append_absent {ts us : List Transfer} (h : ∀ t ∈ ts, t.tag ≠ tag) :
    editRecord tag f (ts ++ us) = ts ++ editRecord tag f us := by
  induction ts with
  | nil => rfl
  | cons t ts ih =>
    rw [List.cons_append, editRecord, if_neg (h t (by simp)), ih fun x hx => h x (by simp [hx])]
    rfl

theorem editRecord_append_present {ts us : List Transfer} (h : ∃ t ∈ ts, t.tag = tag) :
    editRecord tag f (ts ++ us) = editRecord tag f ts ++ us := by
  induction ts with
  | nil => simp at h
  | cons t ts ih =>
    rw [List.cons_append, editRecord, editRecord]
    by_cases ht : t.tag = tag
    · rw [if_pos ht, if_pos ht]
      rfl
    · obtain ⟨x, hx, hxt⟩ := h
      have rest : ∃ x ∈ ts, x.tag = tag := by
        rcases List.mem_cons.mp hx with rfl | hx
        · exact absurd hxt ht
        · exact ⟨x, hx, hxt⟩
      rw [if_neg ht, if_neg ht, ih rest]
      rfl

theorem transfer_tag (h : transfer s tag = some r) : r.tag = tag := by
  simpa using List.find?_some h

theorem find_editRecord_same {ts : List Transfer} (h : ts.find? (fun t => t.tag = tag) = some r) (keeps : (f r).tag = tag) :
    (editRecord tag f ts).find? (fun t => t.tag = tag) = some (f r) := by
  induction ts with
  | nil => simp at h
  | cons t ts ih =>
    by_cases ht : t.tag = tag
    · rw [List.find?_cons_of_pos (by simpa using ht)] at h
      obtain rfl := Option.some.inj h
      rw [editRecord, if_pos ht, List.find?_cons_of_pos (by simpa using keeps)]
    · rw [List.find?_cons_of_neg (by simpa using ht)] at h
      rw [editRecord, if_neg ht, List.find?_cons_of_neg (by simpa using ht), ih h]

theorem find_editRecord_other {ts : List Transfer} {other : Byte} (keeps : ∀ x, (f x).tag = x.tag) (h : other ≠ tag) :
    (editRecord tag f ts).find? (fun t => t.tag = other) = ts.find? fun t => t.tag = other := by
  induction ts with
  | nil => rfl
  | cons t ts ih =>
    by_cases ht : t.tag = tag
    · have here : t.tag ≠ other := fun e => h (e.symm.trans ht)
      rw [editRecord, if_pos ht, List.find?_cons_of_neg (by simpa [keeps] using here),
        List.find?_cons_of_neg (by simpa using here)]
    · rw [editRecord, if_neg ht, List.find?_cons, List.find?_cons, ih]

theorem transfer_editTransfer_same (h : transfer s tag = some r) (keeps : (f r).tag = tag) :
    transfer (editTransfer tag f s) tag = some (f r) := find_editRecord_same h keeps

theorem transfer_editTransfer_other {other : Byte} (keeps : ∀ x, (f x).tag = x.tag) (h : other ≠ tag) :
    transfer (editTransfer tag f s) other = transfer s other := find_editRecord_other keeps h

theorem transfer_congr {t : State} (h : t.dq = s.dq) (tag : Byte) : transfer t tag = transfer s tag := by
  unfold transfer
  rw [h]

/-- A record as it stands when its COMPLETION is handed. -/
def completing (r : Transfer) : Transfer := { r with stage := .completing }

variable {n a : Nat} {x : Option TStatus}

theorem counted_order : (counted n a x r).order = r.order := by cases x <;> rfl
theorem counted_stage : (counted n a x r).stage = r.stage := by cases x <;> rfl
theorem counted_count : (counted n a x r).count = r.count := by cases x <;> rfl
theorem counted_processed : (counted n a x r).processed = r.processed + if x = none then n else 0 := by cases x <;> rfl
theorem counted_refused : (counted n a x r).refused = r.refused + if x = none then 0 else n := by cases x <;> rfl
theorem counted_firstRefusal : (counted n a x r).firstRefusal =
    (match x with
     | some y => firstRefusal r.firstRefusal a y
     | none => r.firstRefusal) := by cases x <;> rfl

theorem counted_sum : (counted n a x r).processed + (counted n a x r).refused = r.processed + r.refused + n := by
  rw [counted_processed, counted_refused]
  split <;> omega

/-- Until every sector of a transfer is counted, nothing is handed for it. -/
theorem account_waiting (h : transfer s tag = some r) (more : accounted r = false) : account tag s = s := by
  unfold account
  rw [h]
  dsimp only
  rw [if_neg (by simp [more])]

/-- Once every sector is counted the COMPLETION is handed, and the record enters COMPLETING. -/
theorem account_completes (h : transfer s tag = some r) (all : accounted r = true) (plain : r.order = none) :
    account tag s = hand (completionOf r) (editTransfer tag completing s) := by
  unfold account
  rw [h]
  dsimp only
  rw [if_pos all, plain]
  rfl

/-- And a SCRUB transfer's order is closed with its counts. -/
theorem account_closes {i : OrderSlot} (h : transfer s tag = some r) (all : accounted r = true) (order : r.order = some i) :
    account tag s =
      orderClose i r.processed r.refused (hand (completionOf r) (editTransfer tag completing s)) := by
  unfold account
  rw [h]
  dsimp only
  rw [if_pos all, order]
  rfl

theorem transfer_counted (h : transfer s tag = some r) :
    transfer (editTransfer tag (counted n a x) s) tag = some (counted n a x r) :=
  transfer_editTransfer_same h ((counted_tag n a x r).trans (transfer_tag h))

theorem accounted_counted :
    accounted (counted n a x r) = (decide (r.processed + r.refused + n = r.count) && decide (r.stage ≠ .completing)) := by
  unfold accounted
  rw [counted_sum, counted_count, counted_stage]

theorem report_waiting (h : transfer s tag = some r) (more : r.processed + r.refused + n ≠ r.count) :
    report tag n a x s = editTransfer tag (counted n a x) s :=
  account_waiting (transfer_counted h) (by rw [accounted_counted]; simp [more])

theorem report_completes (h : transfer s tag = some r) (all : r.processed + r.refused + n = r.count)
    (stage : r.stage ≠ .completing) (plain : r.order = none) :
    report tag n a x s = hand (completionOf (counted n a x r))
      (editTransfer tag completing (editTransfer tag (counted n a x) s)) :=
  account_completes (transfer_counted h) (by rw [accounted_counted]; simp [all, stage]) (counted_order.trans plain)

theorem report_closes {i : OrderSlot} (h : transfer s tag = some r) (all : r.processed + r.refused + n = r.count)
    (stage : r.stage ≠ .completing) (order : r.order = some i) :
    report tag n a x s = orderClose i (counted n a x r).processed (counted n a x r).refused
      (hand (completionOf (counted n a x r)) (editTransfer tag completing (editTransfer tag (counted n a x) s))) :=
  account_closes (transfer_counted h) (by rw [accounted_counted]; simp [all, stage]) (counted_order.trans order)

theorem transfer_completing (h : transfer s tag = some r) :
    transfer (editTransfer tag completing (editTransfer tag (counted n a x) s)) tag = some (completing (counted n a x r)) :=
  transfer_editTransfer_same (transfer_counted h) ((counted_tag n a x r).trans (transfer_tag h))

theorem completionStatus_of_none (h : r.refused = 0) : completionStatus r = .ok := by
  unfold completionStatus
  split
  · rw [if_pos h]
  · rfl

theorem completionStatus_of_some {b : Nat} {y : TStatus} (h : r.refused ≠ 0) (first : r.firstRefusal = some (b, y)) :
    completionStatus r = y := by
  unfold completionStatus
  rw [first]
  exact if_neg h

/-- Settles O35. -/
theorem completionAccountsForEverySector : Obligations.CompletionAccountsForEverySector := by
  unfold Obligations.CompletionAccountsForEverySector
  intro s tag n a x t found plain stage
  refine ⟨fun all => ?_, fun more => ?_⟩
  · rw [report_completes found all stage plain]
    have tagged : (counted n a x t).tag = tag := (counted_tag n a x t).trans (transfer_tag found)
    refine ⟨_, _, rfl, transfer_completing found, rfl, tagged, counted_processed, counted_refused, counted_sum.trans all,
      counted_firstRefusal, completionStatus_of_none, fun b y refused first => completionStatus_of_some refused first⟩
  · rw [report_waiting found more]
    exact ⟨rfl, _, transfer_counted found, counted_stage, counted_processed, counted_refused⟩

/-! ## Admission (R25 to R29) -/

theorem admission_none (kind tag stream : Byte) (a n : Nat) (slot : Byte) (h : admission kind tag stream a n slot s = none) :
    n ≠ 0 ∧ stream.toNat ≤ 1 ∧ (∀ t ∈ s.dq, t.tag ≠ tag) ∧ kind.toNat ≤ 2 := by
  obtain ⟨some, stream, free, -, kinds⟩ := (admittedWithinBounds kind tag stream a n slot s).1.mp h
  refine ⟨some, stream, free, ?_⟩
  rcases kinds with hk | ⟨hk, -⟩
  · omega
  · rw [hk]
    decide

theorem stuTake_busy (h : s.stu.current ≠ none) : stuTake s = s := by
  unfold stuTake
  split
  · rfl
  · contradiction

/-- An idle STU takes the oldest queued transfer with untranslated addresses. -/
theorem stuTake_next (idle : s.stu.current = none) (h : nextTransfer s = some r) :
    stuTake s = editTransfer r.tag (fun x => { x with stage := .translating })
      { s with stu := { s.stu with current := some r.tag } } := by
  unfold stuTake
  split
  · rename_i busy
    rw [idle] at busy
    cases busy
  · rw [h]

/-- A descriptor that a check refuses. -/
theorem takeDescriptor_refused {kind stream slot : Byte} {y : TStatus} (h : admission kind tag stream a n slot s = some y) :
    takeDescriptor kind tag stream a n slot s = hand (refusalOf tag a n y) s := by
  unfold takeDescriptor
  rw [h]

theorem takeDescriptor_admitted {kind stream slot : Byte} {k : Kind} (h : admission kind tag stream a n slot s = none)
    (hk : kindOf kind = some k) :
    takeDescriptor kind tag stream a n slot s =
      stuTake (if k = .scrub then markAnswered slot { s with dq := s.dq ++ [newTransfer k tag stream a n slot] }
        else { s with dq := s.dq ++ [newTransfer k tag stream a n slot] }) := by
  unfold takeDescriptor
  rw [h]
  dsimp only
  rw [hk]

/-- The part after a descriptor is admitted, before an idle STU takes it. -/
def admitted (k : Kind) (tag stream : Byte) (a n : Nat) (slot : Byte) (s : State) : State :=
  { s with
    dq := s.dq ++ [newTransfer k tag stream a n slot],
    wipe := if k = .scrub then
        { s.wipe with
          orders := put s.wipe.orders (Fin.ofNat 4 slot.toNat)
            ((s.wipe.orders.get (Fin.ofNat 4 slot.toNat)).map fun o => { o with answered := true }) }
      else s.wipe }

theorem takeDescriptor_eq {kind stream slot : Byte} {k : Kind} (h : admission kind tag stream a n slot s = none)
    (hk : kindOf kind = some k) :
    takeDescriptor kind tag stream a n slot s = stuTake (admitted k tag stream a n slot s) := by
  rw [takeDescriptor_admitted h hk]
  unfold admitted
  cases k <;> rfl

theorem newTransfer_untranslated {k : Kind} {stream slot : Byte} (h : n ≠ 0) :
    (newTransfer k tag stream a n slot).progress < transferEnd (newTransfer k tag stream a n slot) := by
  show a < a + n
  omega

theorem stuTake_frame (s : State) : stuTake s = { s with dq := (stuTake s).dq, stu := (stuTake s).stu } := by
  unfold stuTake
  split
  · rfl
  · split <;> rfl

/-- A record that has just joined the DQ, and what an idle STU then does. -/
theorem stuTake_joined {new : Transfer} {old : List Transfer} (dq : s.dq = old ++ [new])
    (free : ∀ t ∈ old, t.tag ≠ new.tag) (queued : new.stage = .queued) (untranslated : new.progress < transferEnd new) :
    ∃ st : XferStage, (stuTake s).dq.map Transfer.tag = old.map Transfer.tag ++ [new.tag] ∧
      (stuTake s).dq.getLast? = some { new with stage := st } ∧
      (s.stu.current ≠ none → (stuTake s).dq = old ++ [{ new with stage := st }] ∧ st = .queued ∧ (stuTake s).stu = s.stu) ∧
      (s.stu.current = none → (∀ t ∈ old, t.stage = .queued → transferEnd t ≤ t.progress) →
        (stuTake s).dq = old ++ [{ new with stage := st }] ∧ st = .translating ∧
        (stuTake s).stu = { s.stu with current := some new.tag }) ∧
      (s.stu.current = none → ∀ t : Transfer,
        old.find? (fun y => decide (y.progress < transferEnd y) && decide (y.stage = .queued)) = some t →
        (stuTake s).dq = editRecord t.tag (fun y => { y with stage := .translating }) old ++ [{ new with stage := st }] ∧
        st = .queued ∧ (stuTake s).stu = { s.stu with current := some t.tag }) := by
  have same : { new with stage := XferStage.queued } = new := by rw [← queued]
  by_cases idle : s.stu.current = none
  · cases found : old.find? (fun y => decide (y.progress < transferEnd y) && decide (y.stage = .queued)) with
    | none =>
      have next : nextTransfer s = some new := by
        rw [nextTransfer, dq, List.find?_append, found, List.find?_cons_of_pos (by simp [untranslated, queued])]
        rfl
      have edited : (stuTake s).dq = old ++ [{ new with stage := .translating }] := by
        rw [stuTake_next idle next]
        show editRecord new.tag _ s.dq = _
        rw [dq, editRecord_append_absent free, editRecord, if_pos rfl]
      have stu : (stuTake s).stu = { s.stu with current := some new.tag } := by rw [stuTake_next idle next]; rfl
      refine ⟨.translating, by rw [edited, List.map_append]; rfl, by rw [edited, List.getLast?_concat],
        fun busy => absurd idle busy, fun _ _ => ⟨edited, rfl, stu⟩, fun _ t ht => ?_⟩
      cases ht
    | some t =>
      have next : nextTransfer s = some t := by
        rw [nextTransfer, dq, List.find?_append, found]
        rfl
      have mem := List.mem_of_find?_eq_some found
      have waiting := List.find?_some found
      simp only [Bool.and_eq_true, decide_eq_true_eq] at waiting
      have edited : (stuTake s).dq = editRecord t.tag (fun y => { y with stage := .translating }) old ++ [new] := by
        rw [stuTake_next idle next]
        show editRecord t.tag _ s.dq = _
        rw [dq, editRecord_append_present ⟨t, mem, rfl⟩]
      have stu : (stuTake s).stu = { s.stu with current := some t.tag } := by rw [stuTake_next idle next]; rfl
      refine ⟨.queued, ?_, by rw [edited, List.getLast?_concat, same], fun busy => absurd idle busy, fun _ none => ?_,
        fun _ u hu => ?_⟩
      · rw [edited, List.map_append, map_tag_editRecord t.tag (fun y => { y with stage := .translating }) (fun _ => rfl) old]
        rfl
      · have := none t mem waiting.2
        omega
      · obtain rfl := Option.some.inj hu
        exact ⟨by rw [edited, same], rfl, stu⟩
  · rw [stuTake_busy idle, dq]
    refine ⟨.queued, List.map_append, by rw [same, List.getLast?_concat], fun _ => ⟨by rw [same], rfl, rfl⟩,
      fun h => absurd h idle, fun h => absurd h idle⟩

/-- Settles O23. -/
theorem descriptorAdmission : Obligations.DescriptorAdmission := by
  unfold Obligations.DescriptorAdmission
  intro kind tag stream a n slot s takes
  have run : exec (.descriptor kind tag stream a n slot) s =
      .next (settle (takeDescriptor kind tag stream a.toNat n.toNat slot s)) :=
    exec_message_now (m := .descriptor kind tag stream a.toNat n.toNat slot) rfl takes
  refine ⟨fun y refused => ?_, fun passes => ?_⟩
  · have zero : n = 0 ↔ n.toNat = 0 := by bv_omega
    rw [run, takeDescriptor_refused refused]
    simp only [refusalOf, hand, zero]
  · obtain ⟨positive, stream1, free, kind2⟩ := admission_none kind tag stream a.toNat n.toNat slot passes
    obtain ⟨k, hk⟩ : ∃ k, kindOf kind = some k := by
      rw [← Option.ne_none_iff_exists', ne_eq, kindOf_none_iff]
      omega
    have streamed : decide (stream ≠ 0) = decide (stream = 1) := decide_eq_decide.mpr (by bv_omega)
    obtain ⟨st, tags, last, busy, taken, other⟩ := stuTake_joined (s := admitted k tag stream a.toNat n.toNat slot s)
      (new := newTransfer k tag stream a.toNat n.toNat slot) (old := s.dq) rfl free rfl (newTransfer_untranslated positive)
    rw [run, takeDescriptor_eq passes hk]
    refine ⟨stuTake (admitted k tag stream a.toNat n.toNat slot s), k, _, rfl, hk, tags, last, rfl, rfl, rfl, rfl, rfl, rfl, rfl, rfl,
      rfl, streamed, busy, taken, other, ?_⟩
    exact stuTake_frame _

end

/-! # Cut points and the pieces they cut -/

section

variable {s : State} {tr : Transfer}

/-! ## Cut points (R30, R31) -/

theorem leastCut_le (p bound : Nat) (cs : List Nat) : leastCut p bound cs ≤ bound := by
  induction cs generalizing bound with
  | nil => exact Nat.le_refl _
  | cons c cs ih =>
    unfold leastCut
    split
    · rename_i inside
      simp only [Bool.and_eq_true, decide_eq_true_eq] at inside
      exact (ih c).trans (Nat.le_of_lt inside.2)
    · exact ih bound

theorem lt_leastCut {p bound : Nat} (h : p < bound) (cs : List Nat) : p < leastCut p bound cs := by
  induction cs generalizing bound with
  | nil => exact h
  | cons c cs ih =>
    unfold leastCut
    split
    · rename_i inside
      simp only [Bool.and_eq_true, decide_eq_true_eq] at inside
      exact ih inside.1
    · exact ih h

theorem leastCut_mem (p bound : Nat) (cs : List Nat) : leastCut p bound cs = bound ∨ leastCut p bound cs ∈ cs := by
  induction cs generalizing bound with
  | nil => exact .inl rfl
  | cons c cs ih =>
    unfold leastCut
    split
    · rcases ih c with h | h
      · exact .inr (by rw [h]; exact List.mem_cons_self)
      · exact .inr (List.mem_cons_of_mem _ h)
    · rcases ih bound with h | h
      · exact .inl h
      · exact .inr (List.mem_cons_of_mem _ h)

theorem leastCut_le_cut {p bound c : Nat} {cs : List Nat} (h : c ∈ cs) (hp : p < c) : leastCut p bound cs ≤ c := by
  induction cs generalizing bound with
  | nil => cases h
  | cons d cs ih =>
    unfold leastCut
    rcases List.mem_cons.mp h with rfl | h
    · split
      · exact leastCut_le _ _ _
      · rename_i outside
        simp only [Bool.and_eq_true, decide_eq_true_eq] at outside
        exact (leastCut_le _ _ _).trans (by omega)
    · exact ih h

theorem mem_rangedBands (b : BandId) : b ∈ rangedBands ↔ b ≠ 0 := by
  revert b
  decide

theorem mem_bandEdges (s : State) (c : Nat) : c ∈ bandEdges s ↔ ∃ b : BandId, b ≠ 0 ∧ (record s b).length ≠ 0 ∧
    (c = (record s b).start ∨ c = (record s b).start + (record s b).length) := by
  unfold bandEdges
  rw [List.mem_flatMap]
  refine exists_congr fun b => ?_
  rw [mem_rangedBands]
  refine and_congr_right fun _ => ?_
  split
  · rename_i empty
    simp [empty]
  · rename_i used
    simp [used]

theorem coverActive_iff (s : State) :
    coverActive s = true ↔ 0 < s.w.config.coverLength ∧ (flags s s.w.config.coverBand).readLocked = true := by
  simp [coverActive]

theorem mem_cutPoints (k : Kind) (s : State) (c : Nat) : c ∈ cutPoints k s ↔
    (s.w.config.mode = .split ∧ c = s.w.config.split) ∨
      (k ≠ .scrub ∧
        ((0 < s.w.config.coverLength ∧ (flags s s.w.config.coverBand).readLocked = true ∧ c = s.w.config.coverLength) ∨
          ∃ b : BandId, b ≠ 0 ∧ (record s b).length ≠ 0 ∧
            (c = (record s b).start ∨ c = (record s b).start + (record s b).length))) := by
  have splitPoint : c ∈ (if s.w.config.mode = .split then [s.w.config.split] else []) ↔
      s.w.config.mode = .split ∧ c = s.w.config.split := by
    split
    · rename_i h
      simp [h]
    · rename_i h
      simp [h]
  have coverPoint : c ∈ (if coverActive s then [s.w.config.coverLength] else []) ↔
      0 < s.w.config.coverLength ∧ (flags s s.w.config.coverBand).readLocked = true ∧ c = s.w.config.coverLength := by
    rw [← and_assoc, ← coverActive_iff]
    split
    · rename_i h
      simp [h]
    · rename_i h
      simp [h]
  cases k with
  | scrub => simp [cutPoints, splitPoint]
  | read | write =>
    simp only [cutPoints, List.mem_append, splitPoint, coverPoint, mem_bandEdges, ne_eq, reduceCtorEq, not_false_eq_true,
      true_and]
    exact or_comm

/-- Between two cut points every address lies in the same bands. -/
theorem covers_piece {a : Nat} (kind : tr.kind ≠ .scrub) (low : tr.progress ≤ a) (high : a < pieceEnd tr s) {b : BandId}
    (hb : b ≠ 0) : covers s a b = covers s tr.progress b := by
  by_cases used : (record s b).length = 0
  · simp [covers, used]
  have start : tr.progress < (record s b).start → pieceEnd tr s ≤ (record s b).start :=
    leastCut_le_cut ((mem_cutPoints _ _ _).mpr (.inr ⟨kind, .inr ⟨b, hb, used, .inl rfl⟩⟩))
  have stop : tr.progress < (record s b).start + (record s b).length →
      pieceEnd tr s ≤ (record s b).start + (record s b).length :=
    leastCut_le_cut ((mem_cutPoints _ _ _).mpr (.inr ⟨kind, .inr ⟨b, hb, used, .inr rfl⟩⟩))
  have lower : (record s b).start ≤ a ↔ (record s b).start ≤ tr.progress := by omega
  have upper : a < (record s b).start + (record s b).length ↔ tr.progress < (record s b).start + (record s b).length := by omega
  simp only [covers, lower, upper]

/-- Settles O25. -/
theorem piecesAreCut : Obligations.PiecesAreCut := by
  unfold Obligations.PiecesAreCut
  refine ⟨mem_cutPoints, fun t s => ⟨fun mode below => ?_, fun kind length locked below => ?_⟩, fun t s more => ?_,
    fun t s a kind _ low high => ?_⟩
  · exact leastCut_le_cut ((mem_cutPoints _ _ _).mpr (.inl ⟨mode, rfl⟩)) below
  · exact leastCut_le_cut ((mem_cutPoints _ _ _).mpr (.inr ⟨kind, .inl ⟨length, locked, rfl⟩⟩)) below
  · exact ⟨lt_leastCut more _, leastCut_le _ _ _, leastCut_mem _ _ _, fun c hc beyond => leastCut_le_cut hc beyond⟩
  · unfold bandOf
    rw [List.find?_congr fun b hb => covers_piece kind low high ((mem_rangedBands b).mp hb)]

end

/-! # Reports, segments that end refused and the sector a lane awaits -/

/-! ## Reports on a transfer that carries no order -/

/-- Two states differ at most in the transfer records and the outbound queue. -/
def QueueOnly (s t : State) : Prop := t = { s with dq := t.dq, link := { s.link with outbound := t.link.outbound } }

section

variable {s t : State} {tag : Byte} {r : Transfer} {n a : Nat} {x : Option TStatus} (l : LaneId)

theorem QueueOnly.lane (h : QueueOnly s t) : lane l t = lane l s := by
  rw [h]
  cases l <;> rfl

theorem QueueOnly.traffic (h : QueueOnly s t) : TrafficOnly s t := by
  unfold TrafficOnly
  rw [h]

theorem QueueOnly.keyCheck (h : QueueOnly s t) (k : KeyName) (e : BitVec 32) : keyCheck t k e = keyCheck s k e := by
  rw [h]
  cases k <;> rfl

theorem setLane_lane : setLane l (lane l s) s = s := by cases l <;> rfl

theorem setLane_idle (h : lane l s = Lane.idle) : setLane l Lane.idle s = s := h ▸ setLane_lane l

theorem lane_setLane_other {j : LaneId} (x : Lane) (h : j ≠ l) : lane j (setLane l x s) = lane j s := by
  cases l <;> cases j <;> first | rfl | contradiction

theorem transfer_setLane (x : Lane) (tag : Byte) : transfer (setLane l x s) tag = transfer s tag :=
  transfer_congr (setLane_dq s l x) tag

theorem keyCheck_setLane (x : Lane) (k : KeyName) (e : BitVec 32) : keyCheck (setLane l x s) k e = keyCheck s k e := by
  cases l <;> cases k <;> rfl

/-- A record as a report leaves it: with the last of its sectors counted it enters COMPLETING. -/
def reported (n a : Nat) (x : Option TStatus) (r : Transfer) : Transfer :=
  if accounted (counted n a x r) then completing (counted n a x r) else counted n a x r

theorem reported_cases (n a : Nat) (x : Option TStatus) (r : Transfer) :
    reported n a x r = completing (counted n a x r) ∨ reported n a x r = counted n a x r := by
  unfold reported
  split
  · exact .inl rfl
  · exact .inr rfl

theorem reported_processed : (reported n a x r).processed = r.processed + if x = none then n else 0 := by
  rcases reported_cases n a x r with h | h <;> rw [h] <;> exact counted_processed
theorem reported_refused : (reported n a x r).refused = r.refused + if x = none then 0 else n := by
  rcases reported_cases n a x r with h | h <;> rw [h] <;> exact counted_refused
theorem reported_firstRefusal {y : TStatus} :
    (reported n a (some y) r).firstRefusal = firstRefusal r.firstRefusal a y := by
  rcases reported_cases n a (some y) r with h | h <;> rw [h] <;> rfl

/-- A report on a transfer without an order changes its record, and hands a COMPLETION at most. -/
theorem report_plain (found : transfer s tag = some r) (plain : r.order = none) :
    QueueOnly s (report tag n a x s) ∧ transfer (report tag n a x s) tag = some (reported n a x r) ∧
    ∀ other ≠ tag, transfer (report tag n a x s) other = transfer s other := by
  have tagged : ∀ y, (counted n a x y).tag = y.tag := counted_tag n a x
  unfold reported
  cases all : accounted (counted n a x r) with
  | false =>
    have eq : report tag n a x s = editTransfer tag (counted n a x) s := account_waiting (transfer_counted found) all
    rw [eq]
    exact ⟨rfl, transfer_counted found, fun other h => transfer_editTransfer_other tagged h⟩
  | true =>
    have eq : report tag n a x s = hand (completionOf (counted n a x r))
        (editTransfer tag completing (editTransfer tag (counted n a x) s)) :=
      account_completes (transfer_counted found) all (counted_order.trans plain)
    rw [eq]
    refine ⟨rfl, transfer_completing found, fun other h => ?_⟩
    exact (transfer_editTransfer_other (s := editTransfer tag (counted n a x) s) (f := completing) (fun _ => rfl) h).trans
      (transfer_editTransfer_other tagged h)

/-! ## A segment that ends on a lane with nothing queued -/

theorem takeNext_empty (h : (lane l s).queue = []) : takeNext l s = setLane l Lane.idle s := by
  unfold takeNext
  rw [h]
  rfl

theorem takeNext_idle (h : lane l s = Lane.idle) : takeNext l s = s := by
  rw [takeNext_empty l (by rw [h]; rfl), setLane_idle l h]

theorem dropSegment_empty (h : (lane l s).queue = []) : dropSegment l s = setLane l Lane.idle s := by
  unfold dropSegment
  rw [h]
  rfl

/-- A segment that ends refused, with nothing queued, leaves its lane IDLE and its rest refused in one report. -/
theorem endRefused_rest {g : Segment} {y : TStatus} (empty : (lane l s).queue = []) (found : transfer s g.tag = some r)
    (plain : r.order = none) :
    endRefused l g y s =
      report g.tag (g.count - g.done) (sectorAddress g g.done) (some y) (setLane l Lane.idle s) := by
  unfold endRefused
  rw [dropSegment_empty l empty]
  refine takeNext_idle l ?_
  have frame := (report_plain (n := g.count - g.done) (a := sectorAddress g g.done) (x := some y)
    ((transfer_setLane l Lane.idle g.tag).trans found) plain).1
  rw [frame.lane l, lane_setLane_same]

/-- What a segment leaves that ended refused on a lane with nothing queued. -/
def EndsRefused (l : LaneId) (g : Segment) (y : TStatus) (r : Transfer) (s x : State) : Prop :=
  TrafficOnly s x ∧ lane l x = Lane.idle ∧ (∀ j, j ≠ l → lane j x = lane j s) ∧
  transfer x g.tag = some (reported (g.count - g.done) (sectorAddress g g.done) (some y) r) ∧
  ∀ other ≠ g.tag, transfer x other = transfer s other

theorem endRefused_ends {g : Segment} {y : TStatus} (empty : (lane l s).queue = []) (found : transfer s g.tag = some r)
    (plain : r.order = none) : EndsRefused l g y r s (endRefused l g y s) := by
  rw [endRefused_rest l empty found plain]
  obtain ⟨frame, same, others⟩ := report_plain (n := g.count - g.done) (a := sectorAddress g g.done) (x := some y)
    ((transfer_setLane l Lane.idle g.tag).trans found) plain
  refine ⟨(setLane_traffic l _).trans frame.traffic, by rw [frame.lane l, lane_setLane_same], fun j hj => ?_, same,
    fun other h => (others other h).trans (transfer_setLane l _ _)⟩
  rw [frame.lane j, lane_setLane_other l _ hj]

/-! ## The segment that a sector matches -/

section

variable {d : Direction} {g : Segment}

theorem matching_some (h : matching l d tag a s = some g) :
    (lane l s).state = .awaiting ∧ (lane l s).inFlight = some g ∧ g.direction = d ∧ g.tag = tag ∧
      inAddressSet g a = true := by
  unfold matching at h
  split at h
  · rename_i f state flight
    split at h
    · rename_i cond
      cases h
      simp only [Bool.and_eq_true, decide_eq_true_eq] at cond
      exact ⟨state, flight, cond.1.1, cond.1.2, cond.2⟩
    · cases h
  · cases h

theorem matching_self (state : (lane l s).state = .awaiting) (flight : (lane l s).inFlight = some g)
    (set : inAddressSet g a = true) : matching l g.direction g.tag a s = some g := by
  unfold matching
  rw [state, flight]
  simp [set]

theorem inAddressSet_base {i : Nat} (stride : 0 < g.stride) (h : i < g.count) (ha : a = comparedBase g + i * g.stride) :
    inAddressSet g a = true := by
  subst ha
  simp [inAddressSet, Nat.mul_mod_left, Nat.mul_div_cancel _ stride, h]

theorem of_inAddressSet (h : inAddressSet g a = true) : ∃ i, i < g.count ∧ a = comparedBase g + i * g.stride := by
  simp only [inAddressSet, Bool.and_eq_true, decide_eq_true_eq] at h
  obtain ⟨⟨low, aligned⟩, inside⟩ := h
  refine ⟨_, inside, ?_⟩
  have := Nat.div_mul_cancel (Nat.dvd_of_mod_eq_zero aligned)
  omega

/-- A sector that one lane's segment matches is given to that lane, lane A first. -/
theorem sectorArrives_matches {data : List Byte} (h : matching l d tag a s = some g)
    (first : l = .b → matching .a d tag a s = none) : sectorArrives d tag a data s = laneSector l g a data s := by
  unfold sectorArrives
  cases l with
  | a => rw [h]
  | b => rw [first rfl, h]

theorem sectorArrives_none {data : List Byte} (h : ∀ l, matching l d tag a s = none) :
    sectorArrives d tag a data s = s := by
  unfold sectorArrives
  rw [h .a, h .b]

end

/-- The command that brings a sector of a direction. -/
def sectorCommand (d : Direction) (tag : Byte) (b : BitVec 48) (data : List Byte) : Instr :=
  match d with
  | .read => .cipherSector tag b data
  | _ => .plainSector tag b data

theorem exec_sector {tag : Byte} {d : Direction} {b : BitVec 48} {data : List Byte} (takes : LinkTakes s)
    (h : d ≠ .fill) : exec (sectorCommand d tag b data) s =
      .next (settle (if data.length = sectorSize s then sectorArrives d tag b.toNat data s else s)) := by
  cases d with
  | read => exact exec_message_now (m := .cipherSector tag b.toNat data) rfl takes
  | write => exact exec_message_now (m := .plainSector tag b.toNat data) rfl takes
  | fill => contradiction

/-- Nothing matches a sector whose address is none of a segment's of its kind and tag. -/
theorem matching_none {d : Direction} {b : Nat}
    (h : ∀ l g, (lane l s).inFlight = some g → (lane l s).state = .awaiting → g.direction = d → g.tag = tag →
      ∀ i, i < g.count → b ≠ comparedBase g + i * g.stride) : matching l d tag b s = none := by
  cases found : matching l d tag b s with
  | none => rfl
  | some g =>
    obtain ⟨state, flight, direction, hg, set⟩ := matching_some l found
    obtain ⟨i, hi, hb⟩ := of_inAddressSet set
    exact absurd hb (h l g flight state direction hg i hi)

/-- Settles O33. -/
theorem unmatchedSectorDiscarded : Obligations.UnmatchedSectorDiscarded := by
  unfold Obligations.UnmatchedSectorDiscarded
  refine ⟨fun s tag a data takes => ⟨fun none _ => ?_, fun none _ => ?_⟩, ?_⟩
  · refine (exec_sector (d := .read) takes (by decide)).trans ?_
    rw [sectorArrives_none fun l => matching_none l fun l g flight state direction => ?_, ite_self]
    simpa [comparedBase, direction] using none l g flight state direction
  · refine (exec_sector (d := .write) takes (by decide)).trans ?_
    rw [sectorArrives_none fun l => matching_none l fun l g flight state direction => ?_, ite_self]
    simpa [comparedBase, direction] using none l g flight state direction
  intro l s g t i a data c takes flight state empty stride size found plain first inside other command
  have run : g.direction ≠ .fill ∧ c = sectorCommand g.direction g.tag a data ∧
      a.toNat = comparedBase g + i * g.stride := by
    rcases command with ⟨direction, address, hc⟩ | ⟨direction, address, hc⟩ <;>
      simp [direction, address, hc, sectorCommand, comparedBase]
  obtain ⟨direction, rfl, address⟩ := run
  have awaited : a.toNat ≠ comparedBase g + g.done * g.stride := by
    rw [address]
    intro h
    exact other (Nat.eq_of_mul_eq_mul_right stride (Nat.add_left_cancel h))
  have arrives : sectorArrives g.direction g.tag a.toNat data s = endRefused l g .sequenceError s := by
    rw [sectorArrives_matches l (matching_self l state flight (inAddressSet_base stride inside address)) first]
    exact if_neg awaited
  obtain ⟨traffic, idle, lanes, same, -⟩ := endRefused_ends (y := .sequenceError) l empty found plain
  refine ⟨_, _, ?_, idle, lanes, same, ?_, ?_, reported_firstRefusal, traffic.keys, traffic.bands, traffic.w, traffic.ks⟩
  · rw [exec_sector takes direction, if_pos size, arrives]
  · simp [reported_refused]
  · simp [reported_processed]

end

/-! # A sector transformed -/

/-! ## A sector transformed -/

section

variable {s : State} {r : Transfer} {g : Segment} {k : MediaKey} {data : List Byte} (l : LaneId)

theorem keyCheck_live {key : KeyName} {k : MediaKey} (h : (entry s key).key = some k) :
    keyCheck s key (entry s key).epoch = none := by
  simp [keyCheck, present, h]

theorem transformChecked_live (key : (entry s g.key).key = some k) (epoch : (entry s g.key).epoch = g.epoch) :
    transformChecked l g data s = transform l g k data s := by
  unfold transformChecked
  rw [← epoch, keyCheck_live key, key]

theorem afterSector_more (h : g.done + 1 < g.count) :
    afterSector l g s = setLane l (servingLane (advanced g) (lane l s).queue) s := if_pos h

theorem afterSector_last (h : g.done + 1 = g.count) (empty : (lane l s).queue = []) :
    afterSector l g s = setLane l Lane.idle s := by
  unfold afterSector
  rw [if_neg (by omega), dropSegment_empty l empty, takeNext_idle l (lane_setLane_same s l _)]

/-- The state with a sector's message handed and the sector counted. -/
def sectorDone (g : Segment) (m : OutMsg) (s : State) : State :=
  { s with
    link := { s.link with outbound := s.link.outbound ++ [m] },
    dq := editRecord g.tag (fun r => { r with processed := r.processed + 1 }) s.dq }

theorem lane_hand (m : OutMsg) : lane l (hand m s) = lane l s := by cases l <;> rfl

theorem lane_sectorDone (m : OutMsg) : lane l (sectorDone g m s) = lane l s := by cases l <;> rfl

theorem report_sector {m : OutMsg} {a : Nat} (found : transfer s g.tag = some r)
    (more : r.processed + 1 + r.refused < r.count) : report g.tag 1 a none (hand m s) = sectorDone g m s :=
  report_waiting (s := hand m s) found (by omega)

/-- A sector that is neither its segment's last nor its transfer's. -/
theorem transform_more (found : transfer s g.tag = some r) (more : r.processed + 1 + r.refused < r.count)
    (h : g.done + 1 < g.count) :
    transform l g k data s =
      setLane l (servingLane (advanced g) (lane l s).queue) (sectorDone g (sectorMsg k g data) s) := by
  unfold transform
  rw [report_sector found more, afterSector_more l h, lane_sectorDone]

/-- The last sector of a segment, but not of its transfer, on a lane with nothing queued. -/
theorem transform_last (found : transfer s g.tag = some r) (more : r.processed + 1 + r.refused < r.count)
    (h : g.done + 1 = g.count) (empty : (lane l s).queue = []) :
    transform l g k data s = setLane l Lane.idle (sectorDone g (sectorMsg k g data) s) := by
  unfold transform
  rw [report_sector found more, afterSector_last l h (by rw [lane_sectorDone, empty])]

theorem servingLane_awaiting {q : List Segment} (h : g.direction ≠ .fill) :
    servingLane g q = { queue := q, inFlight := some g, state := .awaiting, timer := some 256 } := by
  unfold servingLane
  split
  · contradiction
  · rfl

theorem servingLane_filling {q : List Segment} (h : g.direction = .fill) :
    servingLane g q = { queue := q, inFlight := some g, state := .filling, timer := none } := by
  unfold servingLane
  rw [h]

/-- An awaited sector, under a live key, is transformed. -/
theorem exec_awaited {a : BitVec 48} (takes : LinkTakes s) (flight : (lane l s).inFlight = some g)
    (state : (lane l s).state = .awaiting) (inside : g.done < g.count) (stride : 0 < g.stride)
    (size : data.length = sectorSize s) (key : (entry s g.key).key = some k) (epoch : (entry s g.key).epoch = g.epoch)
    (first : l = .b → matching .a g.direction g.tag a.toNat s = none) (direction : g.direction ≠ .fill)
    (address : a.toNat = comparedBase g + g.done * g.stride) :
    exec (sectorCommand g.direction g.tag a data) s = .next (settle (transform l g k data s)) := by
  rw [exec_sector takes direction, if_pos size,
    sectorArrives_matches l (matching_self l state flight (inAddressSet_base stride inside address)) first]
  refine congrArg (fun x => Host.Outcome.next (settle x)) ?_
  exact (if_pos address).trans (transformChecked_live l key epoch)

theorem transform_awaited (found : transfer s g.tag = some r) (more : r.processed + 1 + r.refused < r.count)
    (h : g.done + 1 < g.count) (state : (lane l s).state = .awaiting) (direction : g.direction ≠ .fill) :
    transform l g k data s = setLane l { lane l s with inFlight := some (advanced g), timer := some 256 }
      (sectorDone g (sectorMsg k g data) s) := by
  rw [transform_more l found more h, servingLane_awaiting (g := advanced g) direction, ← state]

theorem transform_filling (found : transfer s g.tag = some r) (more : r.processed + 1 + r.refused < r.count)
    (h : g.done + 1 < g.count) (state : (lane l s).state = .filling) (timer : (lane l s).timer = none)
    (direction : g.direction = .fill) :
    transform l g k data s = setLane l { lane l s with inFlight := some (advanced g) }
      (sectorDone g (sectorMsg k g data) s) := by
  rw [transform_more l found more h, servingLane_filling (g := advanced g) direction, ← state, ← timer]

theorem sectorMsg_read (h : g.direction = .read) : sectorMsg k g data =
    .plainSector g.tag (g.drive + g.done * g.stride) (decipher k (g.media + g.done * g.stride) data) := by
  unfold sectorMsg
  rw [h]
  rfl

theorem sectorMsg_enciphered (h : g.direction ≠ .read) : sectorMsg k g data =
    .cipherSector g.tag (g.media + g.done * g.stride) (encipher k (g.media + g.done * g.stride) data) := by
  unfold sectorMsg
  split
  · contradiction
  · rfl

/-- Settles O31. -/
theorem awaitedSectorIsTransformed : Obligations.AwaitedSectorIsTransformed := by
  unfold Obligations.AwaitedSectorIsTransformed
  refine ⟨?_, ?_⟩
  · intro l s g k a data t takes flight state inside stride size key epoch found more first
    refine ⟨fun direction address => ?_, fun direction address => ?_⟩
    · have base : a.toNat = comparedBase g + g.done * g.stride := by simpa [comparedBase, direction] using address
      have run := exec_awaited l takes flight state (by omega) stride size key epoch first (by simp [direction]) base
      rw [transform_awaited l found more inside state (by simp [direction]), sectorMsg_read direction, direction] at run
      exact run
    · have base : a.toNat = comparedBase g + g.done * g.stride := by simpa [comparedBase, direction] using address
      have run := exec_awaited l takes flight state (by omega) stride size key epoch first (by simp [direction]) base
      rw [transform_awaited l found more inside state (by simp [direction]), sectorMsg_enciphered (by simp [direction]),
        direction] at run
      exact run
  · intro l s g k a data t c m takes flight state last empty stride size key epoch found plain stage first command
    have run : g.direction ≠ .fill ∧ a.toNat = comparedBase g + g.done * g.stride ∧
        c = sectorCommand g.direction g.tag a data ∧ m = sectorMsg k g data := by
      rcases command with ⟨direction, address, hc, hm⟩ | ⟨direction, address, hc, hm⟩
      · exact ⟨by simp [direction], by simp [direction, comparedBase, address], by simp [direction, hc, sectorCommand],
          by rw [hm, sectorMsg_read direction]⟩
      · exact ⟨by simp [direction], by simp [direction, comparedBase, address], by simp [direction, hc, sectorCommand],
          by rw [hm, sectorMsg_enciphered (by simp [direction])]⟩
    obtain ⟨direction, address, rfl, rfl⟩ := run
    obtain ⟨frame, same, -⟩ := report_plain (s := hand (sectorMsg k g data) s) (n := 1) (a := sectorAddress g g.done)
      (x := none) found plain
    have ends : transform l g k data s = setLane l Lane.idle
        (report g.tag 1 (sectorAddress g g.done) none (hand (sectorMsg k g data) s)) :=
      afterSector_last l last (by rw [frame.lane l, lane_hand, empty])
    have traffic : TrafficOnly s (transform l g k data s) := by
      rw [ends]
      exact (TrafficOnly.trans (t := hand (sectorMsg k g data) s) rfl frame.traffic).trans (setLane_traffic l _)
    refine ⟨_, reported 1 (sectorAddress g g.done) none t,
      exec_awaited l takes flight state (by omega) stride size key epoch first direction address, ?_,
      fun j hj => ?_, ?_, ?_, ?_, traffic.keys, traffic.bands, traffic.w, traffic.ks,
      fun more => ?_, fun all => ?_⟩
    · rw [ends, lane_setLane_same]
    · rw [ends, lane_setLane_other l _ hj, frame.lane j, lane_hand]
    · rw [ends, transfer_setLane, same]
    · simp [reported_processed]
    · simp [reported_refused]
    · rw [ends, setLane_link, report_waiting (s := hand (sectorMsg k g data) s) found (by omega)]
      rfl
    · rw [ends, setLane_link, report_completes (s := hand (sectorMsg k g data) s) found (by omega) stage plain]
      exact ⟨_, List.append_assoc _ _ _, (counted_tag _ _ _ _).trans (transfer_tag found), rfl, rfl⟩

end

/-! # What a change of the theft state leaves -/

/-! ## Announcements -/

section

variable {s t u : State}

theorem mem_placeState (m : OutMsg) (xs : List OutMsg) : m ∈ placeState m xs := by
  induction xs with
  | nil => exact List.mem_singleton.mpr rfl
  | cons x xs ih =>
    unfold placeState
    split
    · exact List.mem_cons_self
    · exact List.mem_cons_of_mem _ ih

theorem announced_announce (m : OutMsg) (h : stateMsg s = m) : Announced m s (announce s) := by
  intro up
  subst h
  refine ⟨?_, ?_⟩
  · unfold announce
    rw [if_pos up]
    show (s.psp.notice ||| 1#4).getLsbD 0 = true
    simp
  · unfold announce
    rw [if_pos up]
    exact mem_placeState _ _

theorem announce_frame (s : State) : announce s =
    { s with psp := { s.psp with notice := (announce s).psp.notice },
             link := { s.link with outbound := (announce s).link.outbound } } := by
  unfold announce
  split <;> rfl

theorem announce_w : (announce s).w = s.w := by rw [announce_frame]
theorem announce_ks : (announce s).ks = s.ks := by rw [announce_frame]
theorem announce_bands : (announce s).bands = s.bands := by rw [announce_frame]
theorem announce_keys : (announce s).keys = s.keys := by rw [announce_frame]
theorem announce_twu : (announce s).twu = s.twu := by rw [announce_frame]
theorem announce_engine : (announce s).engine = s.engine := by rw [announce_frame]
theorem announce_dq : (announce s).dq = s.dq := by rw [announce_frame]
theorem announce_laneA : (announce s).laneA = s.laneA := by rw [announce_frame]
theorem announce_laneB : (announce s).laneB = s.laneB := by rw [announce_frame]

theorem Carried.congr {p : PageId} (h : Carried p s) (ks : t.ks = s.ks) (page : pageOf t p = pageOf s p) : Carried p t := by
  unfold Carried reference committed at *
  rw [ks, page]
  exact h

theorem Carried.announce {p : PageId} (h : Carried p s) : Carried p (announce s) :=
  h.congr announce_ks (by rw [pageOf, announce_w]; rfl)

theorem Carried.traffic {p : PageId} (h : Carried p s) (k : TrafficOnly s t) : Carried p t :=
  h.congr k.ks (by rw [pageOf, k.w]; rfl)

/-! ## The bands of a theft change -/

theorem flags_shutBands (b : BandId) : flags (shutBands s) b = (shutPair s b).1 := flags_tabBands _ s b

theorem entry_shutBands (b : BandId) : entry (shutBands s) (.band b) = removed (entry s (.band b)) := entry_tabBands _ s b

theorem flags_awaitBands (b : BandId) : flags (awaitBands s) b = (awaitPair s b).1 := flags_tabBands _ s b

theorem entry_awaitBands (b : BandId) : entry (awaitBands s) (.band b) = (awaitPair s b).2 := entry_tabBands _ s b

theorem not_present_of_removed {e : LiveKey} {k : KeyName} (h : entry t k = removed e) : present t k = false := by
  rw [present, h, removed_absent]

/-! ## The parts of a theft change -/

theorem theftMoved_w (x : Theft) : (theftMoved x s).w = { s.w with watch := watchAs x s.w.watch } := by
  rw [theftMoved, bandsAs_frame]

theorem theftMoved_twu (x : Theft) : (theftMoved x s).twu = countersAs x s.twu := by rw [theftMoved, bandsAs_frame]

theorem theftCore_w (x : Theft) : (theftCore x s).w = { s.w with watch := watchAs x s.w.watch } := by
  rw [theftCore_eq, queuePage_w, theftMoved_w]

theorem theftCore_twu (x : Theft) : (theftCore x s).twu = countersAs x s.twu := by
  rw [theftCore_eq, queuePage_twu, theftMoved_twu]

theorem theftCore_flags (x : Theft) (b : BandId) : flags (theftCore x s) b = flags (theftMoved x s) b := by
  rw [theftCore_eq]
  unfold flags
  rw [queuePage_bands]

theorem theftCore_entry (x : Theft) (k : KeyName) : entry (theftCore x s) k = entry (theftMoved x s) k := by
  rw [theftCore_eq]
  unfold entry
  rw [queuePage_keys]

theorem theftCore_cover (x : Theft) : (theftCore x s).keys.cover = s.keys.cover := by
  rw [theftCore_eq, queuePage_keys, theftMoved, bandsAs_frame]

theorem theftCore_fill (x : Theft) : (theftCore x s).keys.fill = s.keys.fill := by
  rw [theftCore_eq, queuePage_keys, theftMoved, bandsAs_frame]

theorem theftCore_engine (x : Theft) : (theftCore x s).engine = s.engine := by
  rw [theftCore_eq, queuePage_engine, theftMoved, bandsAs_frame]

theorem theftCore_mode (x : Theft) : (theftCore x s).mode = s.mode := by
  rw [theftCore_eq, queuePage_mode, theftMoved, bandsAs_frame]

theorem carried_theftCore (x : Theft) : Carried watchPage (theftCore x s) := carried_queuePage_same _ _ _

/-- Every band is closed with no key and no pending open load. -/
def AllShut (s : State) : Prop :=
  ∀ b : BandId, closed (flags s b) = true ∧ (flags s b).pendingLoad = false ∧ present s (.band b) = false

theorem AllShut.congr (h : AllShut s) (bands : t.bands = s.bands) (keys : t.keys.bands = s.keys.bands) : AllShut t := by
  unfold AllShut flags present entry at *
  rw [bands]
  simpa only [keys] using h

theorem shutBands_shut : AllShut (shutBands s) := fun b => by
  refine ⟨?_, ?_, not_present_of_removed (entry_shutBands b)⟩ <;> rw [flags_shutBands] <;> rfl

theorem theftCore_shut {x : Theft} (h : x = .alarm ∨ x = .wiping) : AllShut (theftCore x s) := by
  refine (shutBands_shut (s := { s with w := { s.w with watch := watchAs x s.w.watch }, twu := countersAs x s.twu })).congr
    ?_ ?_
  · rw [theftCore_eq, queuePage_bands]
    rcases h with rfl | rfl <;> rfl
  · rw [theftCore_eq, queuePage_keys]
    rcases h with rfl | rfl <;> rfl

theorem theftCore_removed {x : Theft} (h : x = .alarm ∨ x = .wiping) (b : BandId) :
    entry (theftCore x s) (.band b) = removed (entry s (.band b)) := by
  rw [theftCore_entry]
  rcases h with rfl | rfl <;> exact entry_shutBands b

/-! ## Entry into ALARM and WIPING -/

theorem wipeBegin_frame (c : Cause) (p : Passes) : wipeBegin c p s =
    { s with w := { s.w with plan := freshPlan c p .root }, wipe := (wipeBegin c p s).wipe, ks := (wipeBegin c p s).ks } := by
  rw [wipeBegin, journalWait, queuePage_frame]
  rfl

theorem wipeBegin_wipe (c : Cause) (p : Passes) : (wipeBegin c p s).wipe =
    { s.wipe with activity := .rootWait, abandon := false, issuePoint := 0, running := false, written := 0, refused := 0,
                  rootNeeds := false, toHand := none } := by
  rw [wipeBegin, journalWait, queuePage_wipe]

theorem carried_wipeBegin_journal (c : Cause) (p : Passes) : Carried journalPage (wipeBegin c p s) :=
  carried_queuePage_same _ _ _

theorem carried_wipeBegin_watch (c : Cause) (p : Passes) (h : Carried watchPage s) : Carried watchPage (wipeBegin c p s) :=
  carried_queuePage _ _ (h.congr rfl rfl)

/-- The state of an entry into WIPING before the lanes react to it. -/
def wipingCore (c : Cause) (p : Passes) (s : State) : State := wipeBegin c p (theftCore .wiping s)

theorem enterWiping_eq (c : Cause) (p : Passes) : enterWiping c p s = announce (lanesReact (wipingCore c p s)) := rfl

theorem wipingCore_w (c : Cause) (p : Passes) : (wipingCore c p s).w =
    { s.w with watch := watchAs .wiping s.w.watch, plan := freshPlan c p .root } := by
  rw [wipingCore, wipeBegin_frame, theftCore_w]

theorem wipingCore_twu (c : Cause) (p : Passes) : (wipingCore c p s).twu = countersAs .wiping s.twu := by
  rw [wipingCore, wipeBegin_frame, theftCore_twu]

theorem wipingCore_shut (c : Cause) (p : Passes) : AllShut (wipingCore c p s) := by
  refine (theftCore_shut (s := s) (.inr rfl)).congr ?_ ?_ <;> rw [wipingCore, wipeBegin_frame]

theorem wipingCore_removed (c : Cause) (p : Passes) (b : BandId) :
    entry (wipingCore c p s) (.band b) = removed (entry s (.band b)) := by
  rw [← theftCore_removed (.inr rfl), wipingCore, wipeBegin_frame]
  rfl

theorem wipingCore_cover (c : Cause) (p : Passes) : (wipingCore c p s).keys.cover = s.keys.cover := by
  rw [wipingCore, wipeBegin_frame, theftCore_cover]

theorem wipingCore_fill (c : Cause) (p : Passes) : (wipingCore c p s).keys.fill = s.keys.fill := by
  rw [wipingCore, wipeBegin_frame, theftCore_fill]

theorem wipingCore_mode (c : Cause) (p : Passes) : (wipingCore c p s).mode = s.mode := by
  rw [wipingCore, wipeBegin_frame, theftCore_mode]

theorem wipingCore_wipe (c : Cause) (p : Passes) : (wipingCore c p s).wipe =
    { s.wipe with activity := .rootWait, abandon := false, issuePoint := 0, running := false, written := 0, refused := 0,
                  rootNeeds := false, toHand := none } := by
  rw [wipingCore, wipeBegin_wipe, theftCore_wipe]

/-- What the theft state WIPING stands for once it is entered with a cause and passes. -/
structure EntersWiping (c : Cause) (p : Passes) (s t : State) : Prop where
  w : t.w = { s.w with watch := watchAs .wiping s.w.watch, plan := freshPlan c p .root }
  twu : t.twu = countersAs .wiping s.twu
  shut : AllShut t
  removed : ∀ b : BandId, entry t (.band b) = removed (entry s (.band b))
  cover : t.keys.cover = s.keys.cover
  fill : t.keys.fill = s.keys.fill
  wipe : t.wipe = { s.wipe with
    activity := .rootWait, abandon := false, issuePoint := 0, running := false, written := 0, refused := 0,
    rootNeeds := false, toHand := none }
  watchPage : Carried watchPage t
  journalPage : Carried journalPage t
  announced : Announced (.state .wiping (some c)) s t

theorem linkUp_congr (h : t.mode = s.mode) : linkUp t = linkUp s := by
  unfold linkUp
  rw [h]

theorem stateMsg_congr (watch : t.w = s.w) : stateMsg t = stateMsg s := by
  unfold stateMsg shownCause theft
  rw [watch]

/-- An entry into WIPING, with no order open. -/
theorem enterWiping_enters (c : Cause) (p : Passes) (orders : noOrders s = true) :
    EntersWiping c p s (enterWiping c p s) := by
  have none : noOrders (wipingCore c p s) = true := by
    have same : (wipingCore c p s).wipe.orders = s.wipe.orders := by rw [wipingCore_wipe]
    unfold noOrders
    rw [same]
    exact orders
  have react := lanesReact_traffic none
  rw [enterWiping_eq]
  refine ⟨?_, ?_, ?_, fun b => ?_, ?_, ?_, ?_, ?_, ?_, ?_⟩
  · rw [announce_w, react.w, wipingCore_w]
  · rw [announce_twu, react.twu, wipingCore_twu]
  · refine (wipingCore_shut (s := s) c p).congr ?_ ?_
    · rw [announce_bands, react.bands]
    · rw [announce_keys, react.keys]
  · rw [← wipingCore_removed c p]
    unfold entry
    rw [announce_keys, react.keys]
  · rw [announce_keys, react.keys, wipingCore_cover]
  · rw [announce_keys, react.keys, wipingCore_fill]
  · rw [announce_wipe, react.wipe, wipingCore_wipe]
  · exact ((carried_wipeBegin_watch c p (carried_theftCore .wiping)).traffic react).announce
  · exact ((carried_wipeBegin_journal c p).traffic react).announce
  · intro up
    refine announced_announce _ ?_ ((linkUp_congr (react.mode.trans (wipingCore_mode c p))).trans up)
    rw [stateMsg_congr (react.w.trans rfl)]
    unfold stateMsg shownCause theft
    rw [wipingCore_w]
    rfl

/-- A change into ALARM without a wipe, with no order open. -/
structure EntersLockdown (s t : State) : Prop where
  w : t.w = { s.w with watch := watchAs .alarm s.w.watch }
  twu : t.twu = { s.twu with grace := 0 }
  shut : AllShut t
  removed : ∀ b : BandId, entry t (.band b) = removed (entry s (.band b))
  cover : t.keys.cover = s.keys.cover
  fill : t.keys.fill = s.keys.fill
  wipe : t.wipe = s.wipe
  watchPage : Carried watchPage t
  announced : Announced (.state .alarm none) s t

theorem theftCore_noOrders (x : Theft) (orders : noOrders s = true) : noOrders (theftCore x s) = true := by
  unfold noOrders
  rw [theftCore_wipe]
  exact orders

theorem changeTheft_announced (x : Theft) (hx : x ≠ .wiping) (orders : noOrders s = true) :
    Announced (.state x none) s (changeTheft x s) := by
  have react := lanesReact_traffic (theftCore_noOrders x orders)
  intro up
  refine announced_announce _ ?_ ((linkUp_congr (react.mode.trans (theftCore_mode x))).trans up)
  rw [stateMsg_congr react.w]
  unfold stateMsg shownCause
  rw [theft_theftCore, if_neg hx]

theorem changeTheft_w (x : Theft) (orders : noOrders s = true) :
    (changeTheft x s).w = { s.w with watch := watchAs x s.w.watch } := by
  rw [changeTheft, announce_w, lanesReact_w (theftCore_noOrders x orders), theftCore_w]

theorem changeTheft_twu (x : Theft) (orders : noOrders s = true) : (changeTheft x s).twu = countersAs x s.twu := by
  rw [changeTheft, announce_twu, lanesReact_twu (theftCore_noOrders x orders), theftCore_twu]

theorem changeTheft_wipe (x : Theft) (orders : noOrders s = true) : (changeTheft x s).wipe = s.wipe := by
  rw [changeTheft, announce_wipe, lanesReact_wipe (theftCore_noOrders x orders), theftCore_wipe]

theorem changeTheft_keys (x : Theft) (orders : noOrders s = true) : (changeTheft x s).keys = (theftCore x s).keys := by
  rw [changeTheft, announce_keys, lanesReact_keys (theftCore_noOrders x orders)]

theorem changeTheft_bands (x : Theft) (orders : noOrders s = true) : (changeTheft x s).bands = (theftCore x s).bands := by
  rw [changeTheft, announce_bands, lanesReact_bands (theftCore_noOrders x orders)]

theorem changeTheft_carried (x : Theft) (orders : noOrders s = true) : Carried watchPage (changeTheft x s) :=
  ((carried_theftCore x).traffic (lanesReact_traffic (theftCore_noOrders x orders))).announce

theorem changeTheft_alarm (orders : noOrders s = true) : EntersLockdown s (changeTheft .alarm s) where
  w := changeTheft_w .alarm orders
  twu := changeTheft_twu .alarm orders
  shut := (theftCore_shut (.inl rfl)).congr (changeTheft_bands _ orders) (by rw [changeTheft_keys _ orders])
  removed := fun b => by
    rw [← theftCore_removed (.inl rfl)]
    unfold entry
    rw [changeTheft_keys _ orders]
  cover := by rw [changeTheft_keys _ orders, theftCore_cover]
  fill := by rw [changeTheft_keys _ orders, theftCore_fill]
  wipe := changeTheft_wipe _ orders
  watchPage := changeTheft_carried _ orders
  announced := changeTheft_announced _ (by simp) orders

theorem enterAlarm_lockdown {p : Policy} (policy : s.w.watch.policy = some p) (action : p.action = .lockdown) :
    enterAlarm s = changeTheft .alarm s := by
  unfold enterAlarm
  rw [policy]
  exact if_neg (by simp [action])

theorem enterAlarm_wipe {p : Policy} (policy : s.w.watch.policy = some p) (action : p.action = .wipe) :
    enterAlarm s = enterWiping .theft (.times p.passes) s := by
  unfold enterAlarm
  rw [policy]
  exact if_pos action

/-- The transition into ALARM under a policy, with no order open. -/
theorem enterAlarm_enters {p : Policy} (policy : s.w.watch.policy = some p) (orders : noOrders s = true) :
    EntersAlarm p s (enterAlarm s) := by
  unfold EntersAlarm
  cases action : p.action with
  | lockdown =>
    have enters := changeTheft_alarm orders
    rw [enterAlarm_lockdown policy action]
    refine ⟨?_, ?_, ?_, ?_, enters.watchPage, enters.cover, enters.fill, enters.shut, ?_, ?_, enters.wipe, enters.announced⟩
    · rw [enters.w]
      exact policy
    · rw [enters.w]
      rfl
    · rw [enters.w]
      rfl
    · rw [enters.twu]
    · rw [theft, enters.w]
      rfl
    · rw [enters.w]
  | wipe =>
    have enters := enterWiping_enters .theft (.times p.passes) orders
    rw [enterAlarm_wipe policy action]
    refine ⟨?_, ?_, ?_, ?_, enters.watchPage, enters.cover, enters.fill, enters.shut, ?_, ?_, ?_, enters.journalPage,
      enters.announced, ?_⟩
    · rw [enters.w]
      exact policy
    · rw [enters.w]
      rfl
    · rw [enters.w]
      rfl
    · rw [enters.twu]
      rfl
    · rw [theft, enters.w]
      rfl
    · rw [enters.twu]
      rfl
    · rw [enters.wipe]
    · rw [enters.w]
      rfl

/-! ## Entry into SUSPECT, and the return to ARMED -/

theorem suspectCore_enters (i : Indicator) {p : Policy} :
    EntersSuspect i p s (announce (suspectCore i p.graceSeconds s)) := by
  unfold suspectCore EntersSuspect
  refine ⟨?_, ?_, ?_, (carried_queuePage_same _ _ _).announce, ?_, ?_, ?_, ?_, fun up => announced_announce _ ?_ ?_⟩
  · rw [announce_w, queuePage_w]
  · rw [announce_twu, queuePage_twu]
    rfl
  · rw [announce_twu, queuePage_twu]
  · rw [announce_keys, queuePage_keys]
  · rw [announce_bands, queuePage_bands]
  · rw [announce_w, queuePage_w]
  · rw [announce_wipe, queuePage_wipe]
  · unfold stateMsg shownCause theft
    rw [queuePage_w]
    rfl
  · rw [linkUp_congr (queuePage_mode _ _ _)]
    exact up

theorem enterSuspect_grace (i : Indicator) {p : Policy} (policy : s.w.watch.policy = some p) (grace : p.graceSeconds ≠ 0) :
    enterSuspect i s = announce (suspectCore i p.graceSeconds s) := by
  unfold enterSuspect
  rw [policy]
  exact if_neg grace

theorem enterSuspect_noGrace (i : Indicator) {p : Policy} (policy : s.w.watch.policy = some p) (grace : p.graceSeconds = 0) :
    enterSuspect i s = enterAlarm s := by
  unfold enterSuspect
  rw [policy]
  exact if_pos grace

theorem bandsAs_still {old new : Theft} (h : old ≠ .alarm) (ha : new ≠ .alarm) (hw : new ≠ .wiping) (hd : new ≠ .wiped) :
    bandsAs old new s = s := by
  unfold bandsAs
  split
  · contradiction
  · contradiction
  · contradiction
  · rw [if_neg h]

/-- SUSPECT becomes ARMED: no band and no key changes. -/
theorem changeTheft_armed (suspect : theft s = .suspect) (orders : noOrders s = true) :
    ReturnsToArmed s (changeTheft .armed s) ∧ (changeTheft .armed s).keys = s.keys ∧
      (changeTheft .armed s).bands = s.bands := by
  refine ⟨⟨?_, changeTheft_carried _ orders, changeTheft_announced _ (by simp) orders⟩, ?_, ?_⟩
  · rw [changeTheft_w _ orders]
    rfl
  · rw [changeTheft_keys _ orders, theftCore_eq, queuePage_keys, theftMoved,
      bandsAs_still (by simp [suspect]) (by simp) (by simp) (by simp)]
  · rw [changeTheft_bands _ orders, theftCore_eq, queuePage_bands, theftMoved,
      bandsAs_still (by simp [suspect]) (by simp) (by simp) (by simp)]

/-! ## Indicators -/

theorem assertIndicator_disabled (i : Indicator) (h : enabled s i = false) : assertIndicator i s = s := by
  unfold assertIndicator
  simp [h]

theorem assertIndicator_armed (i : Indicator) (h : enabled s i = true) (armed : theft s = .armed) :
    assertIndicator i s = enterSuspect i s := by
  unfold assertIndicator
  rw [if_pos h, armed]

theorem assertIndicator_suspect (i : Indicator) (h : enabled s i = true) (suspect : theft s = .suspect)
    (cause : s.w.watch.cause ≠ some i) : assertIndicator i s = enterAlarm s := by
  unfold assertIndicator
  rw [if_pos h, suspect]
  exact if_neg cause

theorem assertIndicator_cause (i : Indicator) (suspect : theft s = .suspect) (cause : s.w.watch.cause = some i) :
    assertIndicator i s = s := by
  unfold assertIndicator
  rw [suspect]
  simp [cause]

theorem suspectCheck_clear (suspect : theft s = .suspect) (h : anyAsserted s = false) :
    suspectCheck s = changeTheft .armed s := by
  unfold suspectCheck
  simp [suspect, h]

theorem suspectCheck_asserted (h : anyAsserted s = true) : suspectCheck s = s := by
  unfold suspectCheck
  simp [h]

theorem enabled_eq {p : Policy} (policy : s.w.watch.policy = some p) (i : Indicator) : enabled s i = inSet p.enabled i := by
  simp [enabled, policy]

theorem budgetAsserted_eq {p : Policy} (policy : s.w.watch.policy = some p) :
    budgetAsserted s = decide (p.budget ≤ failureSum s) := by
  simp [budgetAsserted, policy]

theorem checkinAsserted_eq {p : Policy} (policy : s.w.watch.policy = some p) :
    checkinAsserted s = decide (watchPeriod p.periodIndex ≤ s.twu.counter) := by
  simp [checkinAsserted, policy]

/-- The check of SUSPECT, indicator by indicator. -/
theorem anyAsserted_eq {p : Policy} (policy : s.w.watch.policy = some p) : anyAsserted s = true ↔
    (inSet p.enabled .checkin = true ∧ watchPeriod p.periodIndex ≤ s.twu.counter) ∨
    (inSet p.enabled .tether = true ∧ s.twu.tetherLost = true) ∨
    (inSet p.enabled .tamper = true ∧ s.w.watch.latch = true) ∨
    (inSet p.enabled .budget = true ∧ p.budget ≤ failureSum s) := by
  simp [anyAsserted, asserted, enabled_eq policy, checkinAsserted_eq policy, budgetAsserted_eq policy, or_assoc]

end

/-! # Results, the end of a pass and DONE -/

/-! ## Results -/

section

variable {s t : State}

theorem storeResult_frame (e : Ended) (a b c : Nat) : storeResult e a b c s =
    { s with wipe := { s.wipe with ring := (storeResult e a b c s).wipe.ring, ringNext := s.wipe.ringNext + 1 },
             psp := { s.psp with notice := s.psp.notice ||| if linkUp s then noticeResult else 0 } } := rfl

theorem storeResult_stores (e : Ended) (a b c : Nat) : StoresResult e a b c s (storeResult e a b c s) := by
  refine ⟨rfl, fun up => ?_, fun i => ?_⟩
  · show (s.psp.notice ||| if linkUp s then noticeResult else 0).getLsbD 1 = true
    rw [if_pos up]
    simp [noticeResult]
  · have lost : (match s.wipe.ring.get s.wipe.ringNext with
        | some r => r.unread
        | none => false) = (s.wipe.ring.get s.wipe.ringNext).any fun r => r.unread := by
      cases s.wipe.ring.get s.wipe.ringNext <;> rfl
    show (put s.wipe.ring s.wipe.ringNext _).get i = _
    rw [get_put]
    split
    · rename_i h
      subst h
      rw [if_pos rfl]
      exact congrArg (fun o => some (Result.mk _ _ _ _ _ _ o)) lost
    · rename_i h
      rw [if_neg fun e => h e.symm]

/-- A stored result stays while the ring is as it was and no notice is taken back. -/
theorem StoresResult.keep {u : State} {e : Ended} {a b c : Nat} (h : StoresResult e a b c s t) (ring : u.wipe.ring = t.wipe.ring)
    (next : u.wipe.ringNext = t.wipe.ringNext) (notice : t.psp.notice.getLsbD 1 = true → u.psp.notice.getLsbD 1 = true) :
    StoresResult e a b c s u := by
  obtain ⟨h1, h2, h3⟩ := h
  refine ⟨next.trans h1, fun up => notice (h2 up), ?_⟩
  rw [ring]
  exact h3

/-- What a stored result depends on. -/
theorem StoresResult.congr {s' : State} {e : Ended} {a b c : Nat} (h : StoresResult e a b c s t)
    (ring : s'.wipe.ring = s.wipe.ring) (next : s'.wipe.ringNext = s.wipe.ringNext) (mode : s'.mode = s.mode)
    (cause : s'.w.plan.cause = s.w.plan.cause) : StoresResult e a b c s' t := by
  obtain ⟨h1, h2, h3⟩ := h
  refine ⟨by rw [next]; exact h1, fun up => h2 ((linkUp_congr mode).symm.trans up), ?_⟩
  rw [ring, next, cause]
  exact h3

theorem notice_announce (i : Nat) (h : s.psp.notice.getLsbD i = true) : (announce s).psp.notice.getLsbD i = true := by
  unfold announce
  split
  · show (s.psp.notice ||| noticeTheft).getLsbD i = true
    simp [h]
  · exact h

theorem mem_placeState_of_mem {m x : OutMsg} {xs : List OutMsg} (h : m ∈ xs) (plain : isStateMsg m = false) :
    m ∈ placeState x xs := by
  induction xs with
  | nil => simp at h
  | cons y ys ih =>
    unfold placeState
    rcases List.mem_cons.mp h with rfl | h
    · rw [if_neg (by simp [plain])]
      exact List.mem_cons_self
    · split
      · exact List.mem_cons_of_mem _ h
      · exact List.mem_cons_of_mem _ (ih h)

theorem mem_announce {m : OutMsg} (h : m ∈ s.link.outbound) (plain : isStateMsg m = false) : m ∈ (announce s).link.outbound := by
  unfold announce
  split
  · exact mem_placeState_of_mem h plain
  · exact h

/-! ## DONE -/

theorem handWipe_frame (j : Job) : handWipe j s =
    { s with engine := { s.engine with wipe := (handWipe j s).engine.wipe },
             wipe := { s.wipe with toHand := (handWipe j s).wipe.toHand } } := by
  unfold handWipe
  split <;> rfl

theorem handOpenLoad_frame : handOpenLoad s =
    { s with engine := { s.engine with wipe := (handOpenLoad s).engine.wipe },
             wipe := { s.wipe with toHand := (handOpenLoad s).wipe.toHand } } := by
  unfold handOpenLoad
  split
  · split
    · rfl
    · exact handWipe_frame _
  · rfl

theorem handOpenLoad_handed (pending : anyPending s = true) (room : wipeWantsRoom s = false) (free : wipeBusy s = false) :
    (handOpenLoad s).engine.wipe = some .openLoad := by
  unfold handOpenLoad handWipe
  simp [pending, room, free]

theorem handOpenLoad_kept (pending : anyPending s = true) (room : wipeWantsRoom s = true) :
    (handOpenLoad s).wipe.toHand = some .openLoad := by
  unfold handOpenLoad
  simp [pending, room, keepBack]

/-- A band as the entry into WIPED leaves it. -/
theorem theftCore_wiped_band (b : BandId) :
    flags (theftCore .wiped s) b = (awaitPair s b).1 ∧ entry (theftCore .wiped s) (.band b) = (awaitPair s b).2 := by
  rw [theftCore_flags, theftCore_entry]
  exact ⟨flags_awaitBands b, entry_awaitBands b⟩

/-- A band neither held nor without its secret, on a return to its enables: closed, and held for its open load where they leave
it open. -/
theorem awaitPair_free {b : BandId} (free : (flags s b).held = false) (secret : hasSecret s b = true) :
    awaitPair s b =
      ({ flags s b with readLocked := true, writeLocked := true, pendingLoad := !(record s b).rle },
        removed (s.keys.bands.get b)) := by
  unfold awaitPair
  have shut : closedPair (lockFlags (record s b)) = (record s b).rle := by
    cases h : (record s b).rle <;> simp [closedPair, lockFlags, h]
  simp only [free, secret, shut, Bool.not_true, Bool.or_self, Bool.false_eq_true, if_false]
  cases (record s b).rle <;> rfl

theorem goDone_frame : goDone s =
    { s with
      w := { s.w with watch := watchAs .wiped s.w.watch }, twu := countersAs .wiped s.twu, bands := (goDone s).bands,
      keys := { s.keys with bands := (goDone s).keys.bands }, ks := (goDone s).ks,
      psp := { s.psp with notice := (goDone s).psp.notice }, link := { s.link with outbound := (goDone s).link.outbound },
      engine := { s.engine with wipe := (goDone s).engine.wipe },
      wipe := { s.wipe with activity := .doneWait, toHand := (goDone s).wipe.toHand } } := by
  unfold goDone
  rw [handOpenLoad_frame, announce_frame, theftCore_eq, queuePage_frame, theftMoved, bandsAs_frame]
  rfl

theorem goDone_notice (i : Nat) (h : s.psp.notice.getLsbD i = true) : (goDone s).psp.notice.getLsbD i = true := by
  unfold goDone
  rw [handOpenLoad_frame]
  refine notice_announce i ?_
  rw [theftCore_eq, queuePage_psp, theftMoved, bandsAs_frame]
  exact h

theorem mem_goDone {m : OutMsg} (h : m ∈ s.link.outbound) (plain : isStateMsg m = false) : m ∈ (goDone s).link.outbound := by
  unfold goDone
  rw [handOpenLoad_frame]
  refine mem_announce ?_ plain
  rw [theftCore_eq, queuePage_link, theftMoved, bandsAs_frame]
  exact h

/-- A wipe that reaches DONE. -/
theorem goDone_reaches : ReachesDone s (goDone s) := by
  have frame := handOpenLoad_frame (s := announce (theftCore .wiped s))
  have pending : anyPending (goDone s) = anyPending (announce (theftCore .wiped s)) := by
    unfold goDone
    rw [frame]
    rfl
  have room : wipeWantsRoom (goDone s) = wipeWantsRoom (announce (theftCore .wiped s)) := by
    unfold goDone
    rw [frame]
    rfl
  have busy : wipeBusy (announce (theftCore .wiped s)) = wipeBusy s := by
    unfold wipeBusy
    rw [announce_engine, theftCore_engine]
  refine ⟨?_, ?_, ?_, fun b free secret => ?_, fun h1 h2 h3 => ?_, fun h1 h2 => ?_, fun up => ?_⟩
  · rw [theft, goDone_frame]
    rfl
  · rw [goDone_frame]
  · refine ((carried_theftCore .wiped).announce (s := theftCore .wiped s)).congr ?_ ?_
    · unfold goDone
      rw [frame]
      rfl
    · unfold goDone
      rw [frame]
      rfl
  · have fl : flags (goDone s) b = (awaitPair s b).1 := by
      rw [← (theftCore_wiped_band b).1]
      unfold goDone flags
      rw [frame, ← announce_bands (s := theftCore .wiped s)]
      rfl
    have en : entry (goDone s) (.band b) = (awaitPair s b).2 := by
      rw [← (theftCore_wiped_band b).2]
      unfold goDone entry
      rw [frame, ← announce_keys (s := theftCore .wiped s)]
      rfl
    rw [awaitPair_free free secret] at fl en
    refine ⟨?_, ?_, not_present_of_removed (e := s.keys.bands.get b) en⟩
    · rw [fl]
      rfl
    · rw [fl]
  · rw [pending] at h1
    rw [room] at h2
    exact handOpenLoad_handed h1 h2 (busy.trans h3)
  · rw [pending] at h1
    rw [room] at h2
    exact handOpenLoad_kept h1 h2
  · have told := announced_announce (s := theftCore .wiped s) (.state .wiped none) (by
      unfold stateMsg shownCause
      rw [theft_theftCore, if_neg (by simp)]) ((linkUp_congr (theftCore_mode .wiped)).trans up)
    unfold goDone
    rw [frame]
    exact told

/-- What reaching DONE depends on in the state before. -/
theorem ReachesDone.congr {s' : State} (h : ReachesDone s t) (bands : s'.bands = s.bands) (w : s'.w.bands = s.w.bands)
    (secrets : s'.w.secrets = s.w.secrets) (engine : s'.engine = s.engine) (mode : s'.mode = s.mode) : ReachesDone s' t := by
  unfold ReachesDone flags hasSecret record wipeBusy linkUp at *
  rw [bands, w, secrets, engine, mode]
  exact h

/-! ## The end of a pass -/

theorem planTakes_frame : planTakes s = { s with w := { s.w with plan := (planTakes s).w.plan } } := rfl

theorem passClosed_frame : passClosed s =
    { s with
      w := { s.w with plan := (passClosed s).w.plan }, keys := { s.keys with fill := removed s.keys.fill },
      wipe := { s.wipe with running := false, ring := (passClosed s).wipe.ring, ringNext := s.wipe.ringNext + 1 },
      psp := { s.psp with notice := (passClosed s).psp.notice } } := by
  unfold passClosed
  rw [storeResult_frame, planTakes_frame]
  rfl

theorem passClosed_plan : (passClosed s).w.plan =
    { s.w.plan with watermark := watermark s, written := s.wipe.written, refused := s.wipe.refused } := by
  unfold passClosed
  rw [storeResult_frame]
  rfl

theorem passClosed_stores : StoresResult (if s.w.plan.stop then .stopped else .complete) s.w.plan.pass s.wipe.written
    s.wipe.refused s (passClosed s) :=
  ((storeResult_stores (s := removeFill (planTakes s)) _ _ _ _).congr rfl rfl rfl rfl).keep rfl rfl id

theorem namePass_frame (n : Nat) : namePass n s =
    { s with
      w := { s.w with plan := { s.w.plan with phase := .scrub, pass := n, watermark := 0, written := 0, refused := 0 } },
      wipe := { s.wipe with activity := .passWait, issuePoint := 0, written := 0, refused := 0 },
      ks := (namePass n s).ks } := by
  unfold namePass journalWait
  rw [queuePage_frame]
  rfl

theorem lastPass_iff {p : Plan} : lastPass p = true ↔ p.stop = true ∨ ∃ n : Fin 4, p.passes = .times n ∧ p.pass = n.val := by
  unfold lastPass
  cases h : p.passes with
  | times n => simp
  | continuous => simp

theorem lastPass_closed : lastPass (passClosed s).w.plan = lastPass s.w.plan := by
  rw [passClosed_plan]
  rfl

theorem passEnd_last (h : lastPass s.w.plan = true) : passEnd s = goDone (passClosed s) := by
  rw [passEnd_eq, if_pos (lastPass_closed.trans h)]

theorem passEnd_more (h : lastPass s.w.plan = false) :
    passEnd s = namePass (passAfter s.w.plan.pass) (passClosed s) := by
  rw [passEnd_eq, if_neg (by rw [lastPass_closed, h]; simp), passClosed_plan]

end

/-! # What the closing of a scrub order does -/

/-! ## The watermark -/

section

variable {s t : State} {i : OrderSlot}

theorem le_lower {n bound : Nat} {o : Option Order} : n ≤ lower bound o ↔ n ≤ bound ∧ ∀ x, o = some x → n ≤ x.first := by
  cases o with
  | none => simp [lower]
  | some x => simp [lower]

/-- The watermark is the greatest bound of the issue point and the open orders. -/
theorem le_watermark {n : Nat} : n ≤ watermark s ↔
    n ≤ s.wipe.issuePoint ∧ ∀ (i : OrderSlot) (x : Order), s.wipe.orders.get i = some x → n ≤ x.first := by
  unfold watermark
  simp only [le_lower, Fin.forall_fin_succ, Fin.isValue, Fin.succ_zero_eq_one, Fin.succ_one_eq_two, IsEmpty.forall_iff,
    and_true]
  tauto

/-- An order given at the issue point leaves the watermark. -/
theorem watermark_given {n : Nat} {x : Order} (first : x.first = s.wipe.issuePoint) (empty : s.wipe.orders.get i = none)
    (point : t.wipe.issuePoint = s.wipe.issuePoint + n)
    (orders : ∀ j, t.wipe.orders.get j = if j = i then some x else s.wipe.orders.get j) : watermark t = watermark s := by
  refine eq_of_forall_le_iff fun m => ?_
  rw [le_watermark, le_watermark, point]
  constructor
  · rintro ⟨-, low⟩
    refine ⟨?_, fun j y h => low j y ?_⟩
    · have := low i x (by rw [orders, if_pos rfl])
      omega
    · rw [orders, if_neg (by rintro rfl; simp [empty] at h)]
      exact h
  · rintro ⟨below, low⟩
    refine ⟨by omega, fun j y h => ?_⟩
    rw [orders] at h
    split at h
    · cases h
      omega
    · exact low j y h

/-! ## Issuing into the slot a closing freed -/

/-- The next order is in a slot, and its SCRUB_ORDER is handed. -/
def given (i : OrderSlot) (s : State) : State :=
  hand (.scrubOrder i s.w.plan.pass s.wipe.issuePoint (min 256 (scrubEnd s - s.wipe.issuePoint)))
    { s with wipe := { s.wipe with
      orders := put s.wipe.orders i (some (nextOrder s)),
      issuePoint := s.wipe.issuePoint + min 256 (scrubEnd s - s.wipe.issuePoint) } }

theorem issueOne_taken {j : OrderSlot} (h : (s.wipe.orders.get j).isSome = true) : issueOne j s = s := by
  obtain ⟨x, hx⟩ := Option.isSome_iff_exists.mp h
  unfold issueOne
  rw [hx]

theorem issueOne_empty (h : s.wipe.orders.get i = none) (more : s.wipe.issuePoint < scrubEnd s) : issueOne i s = given i s := by
  unfold issueOne
  rw [h]
  exact if_pos more

theorem given_orders (j : OrderSlot) :
    (given i s).wipe.orders.get j = if j = i then some (nextOrder s) else s.wipe.orders.get j := by
  show (put s.wipe.orders i _).get j = _
  rw [get_put]
  exact if_congr eq_comm rfl rfl

/-- With one slot free, issuing gives it the next order. -/
theorem issueOrders_one (running : s.wipe.running = true) (up : linkUp s = true) (empty : s.wipe.orders.get i = none)
    (taken : ∀ j, j ≠ i → (s.wipe.orders.get j).isSome = true) (more : s.wipe.issuePoint < scrubEnd s) :
    issueOrders s = given i s := by
  have before {j : OrderSlot} (h : j ≠ i) : issueOne j s = s := issueOne_taken (taken j h)
  have after {j : OrderSlot} (h : j ≠ i) : issueOne j (given i s) = given i s :=
    issueOne_taken (by rw [given_orders, if_neg h]; exact taken j h)
  have here : issueOne i s = given i s := issueOne_empty empty more
  unfold issueOrders
  rw [running, up]
  match i with
  | 0 => simp [here, after]
  | 1 => simp [here, before, after]
  | 2 => simp [here, before, after]
  | 3 => simp [here, before]

/-! ## A closing -/

/-- The state with an order taken from its slot and its counts added. -/
def closing (i : OrderSlot) (processed refused : Nat) (s : State) : State :=
  { s with wipe := { s.wipe with
    orders := put s.wipe.orders i none, written := addCount s.wipe.written processed,
    refused := addCount s.wipe.refused refused } }

theorem orderClose_open {x : Order} {m n : Nat} (h : s.wipe.orders.get i = some x) :
    orderClose i m n s = endOrIssue (checkpoint (watermark s) (closing i m n s)) := by
  unfold orderClose
  rw [h]
  rfl

theorem checkpoint_frame (before : Nat) : checkpoint before s =
    { s with w := { s.w with plan := (checkpoint before s).w.plan }, ks := (checkpoint before s).ks } := by
  unfold checkpoint journalQueue
  split
  · rw [queuePage_frame]
    rfl
  · rfl

theorem checkpoint_same {before : Nat} (h : before / 65536 = watermark s / 65536) : checkpoint before s = s := by
  refine if_neg ?_
  show ¬ before / 65536 < watermark s / 65536
  omega

theorem checkpoint_over {before : Nat} (h : before / 65536 < watermark s / 65536) :
    checkpoint before s = journalQueue (planTakes s) := if_pos h

theorem checkpoint_plan_pass (before : Nat) : (checkpoint before s).w.plan =
    { s.w.plan with
      watermark := (checkpoint before s).w.plan.watermark, written := (checkpoint before s).w.plan.written,
      refused := (checkpoint before s).w.plan.refused } := by
  unfold checkpoint journalQueue
  split
  · rw [queuePage_w]
    rfl
  · rfl

theorem closing_orders (m n : Nat) (j : OrderSlot) :
    (closing i m n s).wipe.orders.get j = if j = i then none else s.wipe.orders.get j := by
  show (put s.wipe.orders i none).get j = _
  rw [get_put]
  exact if_congr eq_comm rfl rfl

/-- What a closing does that gives the freed slot the next order. -/
structure ClosesIntoNext (i : OrderSlot) (processed refused : Nat) (s y : State) : Prop where
  frame : y = { s with
    w := { s.w with plan := y.w.plan }, ks := y.ks, wipe := y.wipe, link := { s.link with outbound := y.link.outbound } }
  running : y.wipe.running = true
  written : y.wipe.written = min (s.wipe.written + processed) Config.passCountTop
  refused : y.wipe.refused = min (s.wipe.refused + refused) Config.passCountTop
  point : y.wipe.issuePoint = s.wipe.issuePoint + min 256 (scrubEnd s - s.wipe.issuePoint)
  orders : ∀ j : OrderSlot, y.wipe.orders.get j =
    if j = i then
      some { pass := s.w.plan.pass, first := s.wipe.issuePoint, count := min 256 (scrubEnd s - s.wipe.issuePoint),
             answered := false }
    else s.wipe.orders.get j
  outbound : y.link.outbound = s.link.outbound ++
    [.scrubOrder i s.w.plan.pass s.wipe.issuePoint (min 256 (scrubEnd s - s.wipe.issuePoint))]
  still : watermark s / 65536 = watermark y / 65536 → y.w.plan = s.w.plan ∧ y.ks = s.ks
  checkpoint : watermark s / 65536 < watermark y / 65536 → Carried journalPage y ∧ y.w.plan =
    { s.w.plan with watermark := watermark y, written := y.wipe.written, refused := y.wipe.refused }

theorem orderClose_next {x : Order} (m n : Nat) (h : s.wipe.orders.get i = some x) (running : s.wipe.running = true)
    (up : linkUp s = true) (more : s.wipe.issuePoint < scrubEnd s)
    (taken : ∀ j, j ≠ i → (s.wipe.orders.get j).isSome = true) : ClosesIntoNext i m n s (orderClose i m n s) := by
  have frame := checkpoint_frame (s := closing i m n s) (watermark s)
  have plan := checkpoint_plan_pass (s := closing i m n s) (watermark s)
  have freed (j : OrderSlot) : (checkpoint (watermark s) (closing i m n s)).wipe.orders.get j =
      if j = i then none else s.wipe.orders.get j := by
    rw [frame]
    exact closing_orders m n j
  have issues : orderClose i m n s = given i (checkpoint (watermark s) (closing i m n s)) := by
    have left : scrubEnd (checkpoint (watermark s) (closing i m n s)) = scrubEnd s := by rw [frame]; rfl
    have point : (checkpoint (watermark s) (closing i m n s)).wipe.issuePoint = s.wipe.issuePoint := by rw [frame]; rfl
    rw [orderClose_open h]
    unfold endOrIssue passOver
    rw [if_neg (by rw [left, point]; simp; omega)]
    refine issueOrders_one ?_ ?_ ?_ (fun j hj => ?_) (by rw [left, point]; exact more)
    · rw [frame]
      exact running
    · rw [frame]
      exact up
    · rw [freed, if_pos rfl]
    · rw [freed, if_neg hj]
      exact taken j hj
  have next : nextOrder (checkpoint (watermark s) (closing i m n s)) =
      { pass := s.w.plan.pass, first := s.wipe.issuePoint, count := min 256 (scrubEnd s - s.wipe.issuePoint),
        answered := false } := by
    unfold nextOrder
    rw [frame, plan]
    rfl
  have low : watermark (given i (checkpoint (watermark s) (closing i m n s))) = watermark (closing i m n s) := by
    refine (watermark_given (n := min 256 (scrubEnd s - s.wipe.issuePoint)) (i := i)
      (x := nextOrder (checkpoint (watermark s) (closing i m n s))) rfl ?_ ?_ given_orders).trans ?_
    · rw [freed, if_pos rfl]
    · unfold given
      rw [frame]
      rfl
    · rw [frame]
      rfl
  rw [issues]
  refine ⟨?_, ?_, ?_, ?_, ?_, fun j => ?_, ?_, fun still => ?_, fun crossed => ?_⟩
  · unfold given
    rw [frame]
    rfl
  · unfold given
    rw [frame]
    exact running
  · unfold given
    rw [frame]
    rfl
  · unfold given
    rw [frame]
    rfl
  · unfold given
    rw [frame]
    rfl
  · rw [given_orders, next, freed]
    split <;> rfl
  · unfold given
    rw [frame, plan]
    rfl
  · rw [low] at still
    rw [checkpoint_same still]
    exact ⟨rfl, rfl⟩
  · rw [low] at crossed ⊢
    rw [checkpoint_over crossed]
    refine ⟨(carried_queuePage_same _ _ _).congr rfl rfl, ?_⟩
    show (queuePage journalPage [] (planTakes (closing i m n s))).w.plan = _
    unfold given hand
    dsimp only
    rw [journalQueue, queuePage_w, queuePage_wipe]
    rfl

/-! ## The closing that ends the pass -/

/-- What the closing does that ends the pass. -/
structure ClosesThePass (ended : Ended) (written refused : Nat) (s y : State) : Prop where
  frame : y = { s with
    w := { s.w with plan := y.w.plan, watch := y.w.watch }, ks := y.ks, wipe := y.wipe, keys := y.keys, bands := y.bands,
    twu := y.twu, engine := y.engine, psp := { s.psp with notice := y.psp.notice },
    link := { s.link with outbound := y.link.outbound } }
  stores : StoresResult ended s.w.plan.pass written refused s y
  stopped : y.wipe.running = false
  orders : ∀ j : OrderSlot, y.wipe.orders.get j = none
  fill : y.keys.fill = removed s.keys.fill
  cover : y.keys.cover = s.keys.cover
  kept : ∀ m ∈ s.link.outbound, isStateMsg m = false → m ∈ y.link.outbound
  last : s.w.plan.stop = true ∨ (∃ n : Fin 4, s.w.plan.passes = .times n ∧ s.w.plan.pass = n.val) → ReachesDone s y
  more : s.w.plan.stop = false → (∀ n : Fin 4, s.w.plan.passes = .times n → s.w.plan.pass ≠ n.val) →
    y.wipe.activity = .passWait ∧ Carried journalPage y ∧ y.bands = s.bands ∧ y.w.watch = s.w.watch ∧
    y.w.plan = { s.w.plan with
      phase := .scrub, pass := if s.w.plan.pass = 65535 then 1 else s.w.plan.pass + 1, watermark := 0, written := 0,
      refused := 0 }

/-- The end of a pass, with no order open. -/
theorem passEnd_closes (orders : ∀ j, s.wipe.orders.get j = none) :
    ClosesThePass (if s.w.plan.stop then .stopped else .complete) s.wipe.written s.wipe.refused s (passEnd s) := by
  have frame := passClosed_frame (s := s)
  by_cases h : lastPass s.w.plan = true
  · rw [passEnd_last h]
    refine ⟨?_, passClosed_stores.keep ?_ ?_ (goDone_notice 1), ?_, fun j => ?_, ?_, ?_,
      fun m hm plain => mem_goDone (by rw [frame]; exact hm) plain, fun _ => ?_, fun h1 h2 => ?_⟩
    · rw [goDone_frame, frame]
    · rw [goDone_frame]
    · rw [goDone_frame]
    · rw [goDone_frame, frame]
    · rw [goDone_frame, frame]
      exact orders j
    · rw [goDone_frame, frame]
    · rw [goDone_frame, frame]
    · refine goDone_reaches.congr ?_ ?_ ?_ ?_ ?_ <;> rw [frame]
    · rcases lastPass_iff.mp h with stop | ⟨n, hn, hp⟩
      · simp [h1] at stop
      · exact absurd hp (h2 n hn)
  · rw [passEnd_more (by simpa using h)]
    refine ⟨?_, passClosed_stores.keep ?_ ?_ ?_, ?_, fun j => ?_, ?_, ?_, fun m hm _ => ?_,
      fun h1 => absurd (lastPass_iff.mpr h1) h,
      fun h1 h2 => ⟨?_, carried_queuePage_same _ _ _, ?_, ?_, ?_⟩⟩
    · rw [namePass_frame, frame]
    · rw [namePass_frame]
    · rw [namePass_frame]
    · rw [namePass_frame]
      exact id
    · rw [namePass_frame, frame]
    · rw [namePass_frame, frame]
      exact orders j
    · rw [namePass_frame, frame]
    · rw [namePass_frame, frame]
    · rw [namePass_frame, frame]
      exact hm
    · rw [namePass_frame]
    · rw [namePass_frame, frame]
    · rw [namePass_frame, frame]
    · rw [namePass_frame, passClosed_plan]
      rfl

theorem orderClose_ends {x : Order} (m n : Nat) (h : s.wipe.orders.get i = some x) (running : s.wipe.running = true)
    (spent : scrubEnd s ≤ s.wipe.issuePoint) (others : ∀ j, j ≠ i → s.wipe.orders.get j = none) :
    ClosesThePass (if s.w.plan.stop then .stopped else .complete) (min (s.wipe.written + m) Config.passCountTop)
      (min (s.wipe.refused + n) Config.passCountTop) s (orderClose i m n s) := by
  have frame := checkpoint_frame (s := closing i m n s) (watermark s)
  have plan := checkpoint_plan_pass (s := closing i m n s) (watermark s)
  have none (j : OrderSlot) : (checkpoint (watermark s) (closing i m n s)).wipe.orders.get j = none := by
    rw [frame]
    refine (closing_orders m n j).trans ?_
    split
    · rfl
    · exact others j ‹_›
  have ends : orderClose i m n s = passEnd (checkpoint (watermark s) (closing i m n s)) := by
    rw [orderClose_open h]
    refine if_pos ?_
    have point : scrubEnd (checkpoint (watermark s) (closing i m n s)) ≤
        (checkpoint (watermark s) (closing i m n s)).wipe.issuePoint := by
      rw [frame]
      exact spent
    have run : (checkpoint (watermark s) (closing i m n s)).wipe.running = true := by
      rw [frame]
      exact running
    simp [passOver, run, point, noOrders_iff.mpr none]
  have closes := passEnd_closes none
  have stop : (checkpoint (watermark s) (closing i m n s)).w.plan.stop = s.w.plan.stop := by rw [plan]; rfl
  have passes : (checkpoint (watermark s) (closing i m n s)).w.plan.passes = s.w.plan.passes := by rw [plan]; rfl
  have pass : (checkpoint (watermark s) (closing i m n s)).w.plan.pass = s.w.plan.pass := by rw [plan]; rfl
  have written : (checkpoint (watermark s) (closing i m n s)).wipe.written =
      min (s.wipe.written + m) Config.passCountTop := by rw [frame]; rfl
  have refused : (checkpoint (watermark s) (closing i m n s)).wipe.refused =
      min (s.wipe.refused + n) Config.passCountTop := by rw [frame]; rfl
  rw [stop, written, refused] at closes
  rw [ends]
  refine ⟨?_, ?_, closes.stopped, closes.orders, ?_, ?_, fun m hm plain => closes.kept m (by rw [frame]; exact hm) plain,
    fun h1 => ?_, fun h1 h2 => ?_⟩
  · have whole := closes.frame
    rw [whole, frame]
    rfl
  · have stores := closes.stores
    rw [pass] at stores
    refine stores.congr ?_ ?_ ?_ ?_
    · rw [frame]
      rfl
    · rw [frame]
      rfl
    · rw [frame]
      rfl
    · rw [plan]
      rfl
  · rw [closes.fill, frame]
    rfl
  · rw [closes.cover, frame]
    rfl
  · have done := closes.last
    rw [stop, passes, pass] at done
    refine (done h1).congr ?_ ?_ ?_ ?_ ?_ <;> rw [frame] <;> rfl
  · have more := closes.more
    rw [stop, passes, pass] at more
    obtain ⟨activity, journal, bands, watch, named⟩ := more h1 h2
    refine ⟨activity, journal, bands.trans ?_, watch.trans ?_, named.trans ?_⟩
    · rw [frame]
      rfl
    · rw [frame]
      rfl
    · rw [plan]
      rfl

end

/-! # SCRUB_REFUSE and FILL_SECTOR -/

section

variable {s : State} {i : OrderSlot} {o : Byte}

/-! ## SCRUB_REFUSE -/

theorem orderRefuse_open {x : Order} (slot : o.toNat = i.val) (h : s.wipe.orders.get i = some x) (answered : x.answered = false) :
    orderRefuse o s = orderClose i 0 x.count s := by
  have index : (Fin.ofNat 4 o.toNat : OrderSlot) = i := Fin.ext (by simp [slot])
  unfold orderRefuse
  rw [if_neg (by omega)]
  dsimp only
  rw [index, h]
  exact if_neg (by simp [answered])

theorem orderRefuse_discards
    (h : ∀ i : OrderSlot, o.toNat = i.val → ∀ x, s.wipe.orders.get i = some x → x.answered = true) : orderRefuse o s = s := by
  unfold orderRefuse
  by_cases slot : 3 < o.toNat
  · exact if_pos slot
  · rw [if_neg slot]
    dsimp only
    cases taken : s.wipe.orders.get (Fin.ofNat 4 o.toNat) with
    | none => rfl
    | some x => exact if_pos (h (Fin.ofNat 4 o.toNat) (by simp; omega) x taken)

theorem exec_scrubRefuse (takes : LinkTakes s) : exec (.scrubRefuse o) s = .next (settle (orderRefuse o s)) :=
  exec_message_now (m := .scrubRefuse o) rfl takes

theorem ScrubInWiping.theft_wiping (h : ScrubInWiping s) (running : s.wipe.running = true) : theft s = .wiping := by
  have scan := h.2.1 running
  exact h.2.2.1 (by simp [scan]) (by simp [scan])

/-- Settles O36. -/
theorem scrubRefusalClosesItsOrder : Obligations.ScrubRefusalClosesItsOrder := by
  unfold Obligations.ScrubRefusalClosesItsOrder
  intro o s takes
  refine ⟨fun none => ?_, fun i x slot h answered running more taken => ?_,
    fun i x ended written refused slot h answered running spent others wiping hended hwritten hrefused => ?_⟩
  · rw [exec_scrubRefuse takes, orderRefuse_discards none]
  · have closes := orderClose_next 0 x.count h running takes.1 more taken
    refine ⟨_, by rw [exec_scrubRefuse takes, orderRefuse_open slot h answered], closes.refused, closes.written, closes.point,
      closes.orders, closes.outbound, ?_, ?_, ?_, ?_, ?_, ?_, closes.still, closes.checkpoint⟩ <;> rw [closes.frame]
  · subst hended hwritten hrefused
    have closes := orderClose_ends 0 x.count h running spent others
    refine ⟨_, by rw [exec_scrubRefuse takes, orderRefuse_open slot h answered], closes.stores, closes.stopped, closes.orders,
      closes.fill, closes.cover, closes.last, fun h1 h2 => ?_⟩
    obtain ⟨activity, journal, bands, watch, named⟩ := closes.more h1 h2
    exact ⟨by rw [theft, watch]; exact wiping.theft_wiping running, activity, journal, bands, named⟩

/-! ## FILL_SECTOR -/

variable {l : LaneId} {g : Segment} {k : MediaKey} {r : Transfer}

theorem fillNext_flowing (flight : (lane l s).inFlight = some g) (state : (lane l s).state = .filling)
    (flowing : s.link.outbound.length < 64) : fillNext l s = transformChecked l g (zeroSector s) s := by
  have free : inboundHeld s = false := decide_eq_false (Nat.not_le.mpr flowing)
  unfold fillNext
  rw [state, flight]
  exact if_neg (by simp [free])

theorem fillNext_held (flight : (lane l s).inFlight = some g) (state : (lane l s).state = .filling)
    (held : 64 ≤ s.link.outbound.length) : fillNext l s = s := by
  have held : inboundHeld s = true := decide_eq_true held
  unfold fillNext
  rw [state, flight]
  exact if_pos held

theorem exec_fillSector (flight : (lane l s).inFlight = some g) (state : (lane l s).state = .filling)
    (flowing : s.link.outbound.length < 64) (key : (entry s g.key).key = some k) (epoch : (entry s g.key).epoch = g.epoch) :
    exec (.fillSector l) s = .next (settle (transform l g k (List.replicate (sectorSize s) 0) s)) := by
  refine congrArg (fun x => Host.Outcome.next (settle x)) ?_
  rw [fillNext_flowing flight state flowing, transformChecked_live l key epoch]
  rfl

/-- The state with a transfer's last sector handed and its COMPLETION behind it. -/
def lastSector (g : Segment) (m : OutMsg) (r : Transfer) (s : State) : State :=
  hand (completionOf (counted 1 (sectorAddress g g.done) none r))
    (editTransfer g.tag completing (editTransfer g.tag (counted 1 (sectorAddress g g.done) none) (hand m s)))

/-- The last sector of a SCRUB transfer, on a lane with nothing queued, closes the transfer's order. -/
theorem transform_closes {data : List Byte} (found : transfer s g.tag = some r) (all : r.processed + 1 + r.refused = r.count)
    (stage : r.stage ≠ .completing) (order : r.order = some i) (last : g.done + 1 = g.count)
    (lanes : lane l (orderClose i (r.processed + 1) r.refused (lastSector g (sectorMsg k g data) r s)) = lane l s)
    (empty : (lane l s).queue = []) :
    transform l g k data s =
      setLane l Lane.idle (orderClose i (r.processed + 1) r.refused (lastSector g (sectorMsg k g data) r s)) := by
  have closes : report g.tag 1 (sectorAddress g g.done) none (hand (sectorMsg k g data) s) =
      orderClose i (r.processed + 1) r.refused (lastSector g (sectorMsg k g data) r s) :=
    report_closes (s := hand (sectorMsg k g data) s) found (by omega) stage order
  unfold transform
  rw [closes, afterSector_last l last (by rw [lanes, empty])]

theorem transfer_lastSector (m : OutMsg) (found : transfer s g.tag = some r) :
    transfer (lastSector g m r s) g.tag = some (completing (counted 1 (sectorAddress g g.done) none r)) :=
  transfer_completing (s := hand m s) found

theorem lastSector_frame (m : OutMsg) : lastSector g m r s =
    { s with
      dq := (lastSector g m r s).dq,
      link := { s.link with
        outbound := s.link.outbound ++ [m, completionOf (counted 1 (sectorAddress g g.done) none r)] } } := by
  have outbound : s.link.outbound ++ [m, completionOf (counted 1 (sectorAddress g g.done) none r)] =
      s.link.outbound ++ [m] ++ [completionOf (counted 1 (sectorAddress g g.done) none r)] := by simp
  rw [outbound]
  rfl

theorem lane_of_eq {t : State} (l : LaneId) (a : t.laneA = s.laneA) (b : t.laneB = s.laneB) : lane l t = lane l s := by
  cases l
  · exact a
  · exact b

/-- Settles O32. -/
theorem fillSectorIsMade : Obligations.FillSectorIsMade := by
  unfold Obligations.FillSectorIsMade
  refine ⟨?_, ?_⟩
  · intro l s g k t i o flight state direction flowing up last empty key epoch found all stage order taken running cases
    obtain ⟨m, hm⟩ : ∃ m, m = sectorMsg k g (List.replicate (sectorSize s) 0) := ⟨_, rfl⟩
    have enciphered := hm.trans (sectorMsg_enciphered (by simp [direction]))
    have frame := lastSector_frame (g := g) (r := t) (s := s) m
    have found' := transfer_lastSector m found
    have closes := transform_closes (l := l) (k := k) (data := List.replicate (sectorSize s) 0) found all stage order last
    rw [← hm] at closes
    generalize lastSector g m t s = u at frame found' closes
    have ending : scrubEnd u = scrubEnd s := by rw [frame]; rfl
    have open' : u.wipe.orders.get i = some o := by rw [frame]; exact taken
    have running' : u.wipe.running = true := by rw [frame]; exact running
    have up' : linkUp u = true := by rw [frame]; exact up
    have point : u.wipe.issuePoint = s.wipe.issuePoint := by rw [frame]
    have orders : u.wipe.orders = s.wipe.orders := by rw [frame]
    have next (h : s.wipe.issuePoint < scrubEnd s) : ClosesIntoNext i (t.processed + 1) t.refused u
        (orderClose i (t.processed + 1) t.refused u) := by
      refine orderClose_next _ _ open' running' up' (by rw [point, ending]; exact h) ?_
      rw [orders]
      rcases cases with ⟨-, full⟩ | ⟨spent, -⟩
      · exact full
      · omega
    have ends (h : scrubEnd s ≤ s.wipe.issuePoint) := orderClose_ends (s := u) (t.processed + 1) t.refused open' running'
      (by rw [point, ending]; exact h)
      (by
        rw [orders]
        rcases cases with ⟨more, -⟩ | ⟨-, others, -⟩
        · omega
        · exact others)
    have outbound : u.link.outbound = s.link.outbound ++ [m, completionOf (counted 1 (sectorAddress g g.done) none t)] := by
      rw [frame]
    obtain ⟨y, hy⟩ : ∃ y, y = orderClose i (t.processed + 1) t.refused u := ⟨_, rfl⟩
    rw [← hy] at next ends closes
    have still : y.laneA = u.laneA ∧ y.laneB = u.laneB ∧ y.dq = u.dq := by
      rcases Nat.lt_or_ge s.wipe.issuePoint (scrubEnd s) with h | h
      · refine ⟨?_, ?_, ?_⟩ <;> rw [(next h).frame]
      · refine ⟨?_, ?_, ?_⟩ <;> rw [(ends h).frame]
    have lanes (j : LaneId) : lane j y = lane j s := (lane_of_eq j still.1 still.2.1).trans (by rw [frame]; cases j <;> rfl)
    have run := (exec_fillSector flight state flowing key epoch).trans
      (congrArg (fun x => Host.Outcome.next (settle x)) (closes (lanes l) empty))
    refine ⟨_, completing (counted 1 (sectorAddress g g.done) none t),
      ⟨t.tag, completionStatus (counted 1 (sectorAddress g g.done) none t), t.processed + 1, t.refused, t.firstRefusal⟩,
        _, m, run, lane_setLane_same _ l _,
      fun j hj => (lane_setLane_other l _ hj).trans (lanes j),
      (transfer_setLane l _ _).trans ((transfer_congr still.2.2 _).trans found'), rfl, rfl, transfer_tag found, rfl, rfl, rfl,
      enciphered, fun h => ?_, fun h => ?_⟩
    · have closes := next h
      have said := closes.outbound
      have points := closes.point
      have slots := closes.orders
      have written := closes.written
      have refused := closes.refused
      rw [frame] at said points slots written refused
      simp only [setLane_wipe, setLane_link, setLane_keys, setLane_bands]
      refine ⟨closes.running, written, refused, points, slots, ?_, ?_, ?_⟩
      · rw [said, List.append_assoc]
        rfl
      · rw [closes.frame, frame]
      · rw [closes.frame, frame]
    · have closes := ends h
      have stores := closes.stores
      have fill := closes.fill
      rw [frame] at fill
      simp only [setLane_wipe, setLane_link, setLane_keys]
      refine ⟨closes.stopped, closes.orders, fill, closes.kept _ (by simp [outbound]) ?_,
        closes.kept _ (by rw [outbound]; exact List.mem_append_right _ (List.mem_cons_of_mem _ (.head _))) rfl, ?_⟩
      · rw [enciphered]
        rfl
      · rw [frame] at stores
        exact (stores.keep (by rw [setLane_wipe]) (by rw [setLane_wipe]) (by rw [setLane_psp]; exact id)).congr rfl rfl rfl rfl
  · intro l s g k t flight state direction
    refine ⟨fun held => ?_, fun flowing timer more key epoch found rest => ?_,
      fun flowing last empty key epoch found rest => ?_⟩
    · exact congrArg (fun x => Host.Outcome.next (settle x)) (fillNext_held flight state held)
    · rw [exec_fillSector flight state flowing key epoch, transform_filling l found rest more state timer direction,
        sectorMsg_enciphered (by simp [direction])]
      rfl
    · rw [exec_fillSector flight state flowing key epoch, transform_last l found rest last empty,
        sectorMsg_enciphered (by simp [direction])]
      rfl

end

/-! # Pieces refused, segments placed and translation resumed -/

/-! ## A refused piece -/

section

variable {s t : State} {tag : Byte} {r : Transfer} {e last : Nat}

theorem stuTake_transfer (found : transfer s tag = some r) : ∃ st, transfer (stuTake s) tag = some { r with stage := st } := by
  unfold stuTake
  split
  · exact ⟨r.stage, found⟩
  · split
    · rename_i next _
      by_cases same : tag = next.tag
      · subst same
        exact ⟨.translating, transfer_editTransfer_same (s := { s with stu := { s.stu with current := some next.tag } })
          (f := fun x => { x with stage := .translating }) (r := r) found (transfer_tag (r := r) found)⟩
      · exact ⟨r.stage, (transfer_editTransfer_other (s := { s with stu := { s.stu with current := some next.tag } })
          (f := fun x => { x with stage := .translating }) (fun _ => rfl) same).trans found⟩
    · exact ⟨r.stage, found⟩

theorem stuTake_piece : (stuTake s).stu.piece = s.stu.piece := by
  unfold stuTake
  split
  · rfl
  · split <;> rfl

theorem pieceDone_frame (tag : Byte) (e last : Nat) (s : State) : pieceDone tag e last s =
    { s with dq := (pieceDone tag e last s).dq, stu := (pieceDone tag e last s).stu } := by
  unfold pieceDone
  dsimp only
  split
  · rw [stuTake_frame]
    rfl
  · rfl

theorem pieceDone_piece : (pieceDone tag e last s).stu.piece = none := by
  unfold pieceDone
  dsimp only
  split
  · exact stuTake_piece
  · rfl

theorem pieceDone_transfer (found : transfer s tag = some r) :
    ∃ st, transfer (pieceDone tag e last s) tag = some { r with progress := e, stage := st } := by
  have moved : transfer (editTransfer tag (progressed e) { s with stu := { s.stu with piece := none, paused := false } }) tag =
      some (progressed e r) := transfer_editTransfer_same (f := progressed e) found (transfer_tag (r := r) found)
  unfold pieceDone
  dsimp only
  split
  · exact stuTake_transfer (r := progressed e r) moved
  · exact ⟨_, moved⟩

theorem account_plain (found : transfer s tag = some r) (plain : r.order = none) :
    QueueOnly s (account tag s) ∧ ∃ st, transfer (account tag s) tag = some { r with stage := st } := by
  cases all : accounted r with
  | false =>
    rw [account_waiting found all]
    exact ⟨rfl, r.stage, found⟩
  | true =>
    rw [account_completes found all plain]
    exact ⟨rfl, .completing, transfer_editTransfer_same (f := completing) found (transfer_tag (r := r) found)⟩

theorem exec_translatePiece (piece : s.stu.piece = none) (current : s.stu.current = some r.tag)
    (found : transfer s r.tag = some r) : exec .translatePiece s = .next (settle (translatePiece r s)) := by
  refine congrArg (fun x => Host.Outcome.next (settle x)) ?_
  unfold translateNext currentTransfer
  rw [piece, current]
  dsimp only
  rw [found]

theorem translatePiece_refused {y : TStatus} (h : decide33 r s = .refused y) : translatePiece r s =
    account r.tag (pieceDone r.tag (pieceEnd r s) (transferEnd r)
      (editTransfer r.tag (counted (pieceEnd r s - r.progress) r.progress (some y)) s)) := by
  unfold translatePiece
  rw [h]

theorem decide33_refused {y : TStatus} (h : decide33 r s = .refused y) : r.kind ≠ .scrub ∧
    ((y = .wiping ∧ theft s = .wiping) ∨ (y = .alarm ∧ theft s = .alarm) ∨
      (y = .covered ∧ barred s = false ∧ coverActive s = true ∧ r.progress < s.w.config.coverLength ∧ r.kind = .write ∧
        s.coverPermit = false) ∨
      (y = .locked ∧ barred s = false ∧ ¬(coverActive s = true ∧ r.progress < s.w.config.coverLength) ∧
        ((r.kind = .read ∧ (flags s (bandOf s r.progress)).readLocked = true) ∨
          (r.kind = .write ∧ (flags s (bandOf s r.progress)).writeLocked = true) ∨
          present s (.band (bandOf s r.progress)) = false))) := by
  rw [decide33_eq] at h
  split_ifs at h with scrub wiping alarm cover permit locked <;> cases h
  · exact ⟨scrub, .inl ⟨rfl, wiping⟩⟩
  · exact ⟨scrub, .inr (.inl ⟨rfl, alarm⟩)⟩
  · exact ⟨scrub, .inr (.inr (.inl ⟨rfl, by simp [barred, wiping, alarm], cover.1, cover.2, permit.1, permit.2⟩))⟩
  · exact ⟨scrub, .inr (.inr (.inr ⟨rfl, by simp [barred, wiping, alarm], cover, locked⟩))⟩

/-- Settles O28. -/
theorem refusedPieceCounts : Obligations.RefusedPieceCounts := by
  unfold Obligations.RefusedPieceCounts
  intro s t st piece current found refused plain _
  obtain ⟨stage, moved⟩ := pieceDone_transfer (e := pieceEnd t s) (last := transferEnd t)
    (transfer_counted (n := pieceEnd t s - t.progress) (a := t.progress) (x := some st) found)
  obtain ⟨frame, stage', accounted⟩ := account_plain moved plain
  have whole := pieceDone_frame t.tag (pieceEnd t s) (transferEnd t)
    (editTransfer t.tag (counted (pieceEnd t s - t.progress) t.progress (some st)) s)
  obtain ⟨kind, why⟩ := decide33_refused refused
  have run := exec_translatePiece piece current found
  rw [translatePiece_refused refused] at run
  unfold QueueOnly at frame
  refine ⟨_, _, run, accounted, rfl, rfl, rfl, rfl, ?_, ?_, ?_, ?_, ?_, ?_, ?_, kind, why⟩
  · rw [frame, whole]
    rfl
  · rw [frame, whole]
    rfl
  · rw [frame, whole]
    rfl
  · rw [frame, whole]
    rfl
  · rw [frame, whole]
    rfl
  · rw [frame, whole]
    rfl
  · rw [frame]
    exact pieceDone_piece

/-! ## An allowed piece -/

/-- An allowed piece, none of whose segments is placed. -/
def formedPiece (t : Transfer) (s : State) (k : KeyName) : Piece :=
  { first := t.progress, count := pieceEnd t s - t.progress, outcome := .allowed k, key := k, epoch := (entry s k).epoch,
    plan := lanePlan t s k (pieceEnd t s - t.progress), next := 0 }

theorem translatePiece_allowed {k : KeyName} (h : decide33 r s = .allowed k) :
    translatePiece r s = placePiece r.tag (formedPiece r s k) (transferEnd r) s := by
  unfold translatePiece
  rw [h]
  rfl

theorem lanePlan_single {k : KeyName} {n : Nat} (mode : s.w.config.mode = .single) (some' : 0 < n) (small : n ≤ 256) :
    lanePlan r s k n = [(.a, segmentOf r s k r.progress 1 n)] := by
  rw [lanePlan_of_ne_stripe k n (by simp [mode]), runs256_of_pos _ _ some', Nat.sub_eq_zero_of_le small, runs256_zero,
    Nat.min_eq_right small]
  simp [wholeLane, mode]

/-- A lane at rest takes a segment whose key check passes as it is placed. -/
theorem placeSegment_rest {g : Segment} (rest : s.laneA = Lane.idle) (live : keyCheck s g.key g.epoch = none) :
    placeSegment .a g s = startSegment .a g [] s := by
  unfold placeSegment lane
  rw [rest]
  show takeFrom .a [g] s = _
  unfold takeFrom
  rw [live]

theorem placePiece_one {g : Segment} {x : Piece} (plan : x.plan = [(.a, g)]) (next : x.next = 0) (rest : s.laneA = Lane.idle)
    (live : keyCheck s g.key g.epoch = none) :
    placePiece tag x last s = pieceDone tag (x.first + x.count) last (startSegment .a g [] s) := by
  have free : laneFull .a s = false := by
    unfold laneFull lane
    rw [rest]
    rfl
  unfold placePiece
  rw [plan, next]
  simp only [List.drop_zero, placeAll, free, Bool.false_eq_true, if_false, placeSegment_rest rest live]

/-- A lane that serves a segment is given another behind those that wait. -/
def behind (gs : List Segment) (x : Lane) : Lane := { x with queue := x.queue ++ gs }

theorem placeSegment_busy {l : LaneId} {g : Segment} (busy : (lane l s).inFlight ≠ none) :
    placeSegment l g s = setLane l (behind [g] (lane l s)) s := by
  unfold placeSegment
  dsimp only
  split
  · rfl
  · contradiction

/-- The segments of a plan for a lane. -/
def planned (l : LaneId) (plan : List (LaneId × Segment)) : List Segment := (plan.filter fun y => y.1 = l).map fun y => y.2

/-- Both lanes with the segments of a plan behind those that wait. -/
def joined (plan : List (LaneId × Segment)) (s : State) : State :=
  { s with laneA := behind (planned .a plan) s.laneA, laneB := behind (planned .b plan) s.laneB }

theorem lane_joined (l : LaneId) (plan : List (LaneId × Segment)) :
    lane l (joined plan s) = behind (planned l plan) (lane l s) := by cases l <;> rfl

theorem behind_behind (gs hs : List Segment) (x : Lane) : behind hs (behind gs x) = behind (gs ++ hs) x := by
  simp [behind]

theorem joined_cons (x : LaneId × Segment) (plan : List (LaneId × Segment)) :
    joined plan (setLane x.1 (behind [x.2] (lane x.1 s)) s) = joined (x :: plan) s := by
  obtain ⟨l, g⟩ := x
  cases l
  · simp [joined, setLane, lane, behind_behind, planned]
  · simp [joined, setLane, lane, behind_behind, planned]

/-- Every lane has room for its segments of a plan. -/
def Fits (plan : List (LaneId × Segment)) (s : State) : Prop :=
  ∀ l : LaneId, (lane l s).queue.length + (plan.filter fun y => y.1 = l).length ≤ 16

/-- With both lanes busy, the segments that fit join their queues in the plan's order. -/
theorem placeAll_busy {pre : List (LaneId × Segment)} (post : List (LaneId × Segment)) (i : Nat)
    (busy : ∀ l : LaneId, (lane l s).inFlight ≠ none) (fits : Fits pre s) :
    placeAll (pre ++ post) i s = placeAll post (i + pre.length) (joined pre s) := by
  induction pre generalizing s i with
  | nil =>
    have same : joined [] s = s := by simp [joined, behind, planned]
    rw [same]
    rfl
  | cons x pre ih =>
    obtain ⟨l, g⟩ := x
    have room : laneFull l s = false := by
      have := fits l
      simp only [List.filter_cons, decide_true, if_true, List.length_cons] at this
      refine decide_eq_false ?_
      show ¬ 16 ≤ (lane l s).queue.length
      omega
    have step : placeAll ((l, g) :: (pre ++ post)) i s =
        placeAll (pre ++ post) (i + 1) (setLane l (behind [g] (lane l s)) s) := by
      rw [placeAll, if_neg (by simp [room]), placeSegment_busy (busy l)]
    have other (j : LaneId) (h : j ≠ l) : lane j (setLane l (behind [g] (lane l s)) s) = lane j s := lane_setLane_other l _ h
    rw [List.cons_append, step, ih (i + 1) (fun j => ?_) fun j => ?_, joined_cons (l, g) pre, List.length_cons]
    · congr 1
      omega
    · by_cases h : j = l
      · subst h
        rw [lane_setLane_same]
        exact busy j
      · rw [other j h]
        exact busy j
    · have := fits j
      by_cases h : j = l
      · subst h
        rw [lane_setLane_same]
        simp only [List.filter_cons, decide_true, if_true, List.length_cons] at this
        simp only [behind, List.length_append, List.length_cons, List.length_nil]
        omega
      · rw [other j h]
        simpa [List.filter_cons, Ne.symm h] using this

/-! ## What a report leaves of the lanes -/

theorem issueOne_lane (l : LaneId) (i : OrderSlot) : lane l (issueOne i s) = lane l s := by
  unfold issueOne
  split
  · rfl
  · split
    · cases l <;> rfl
    · rfl

theorem issueOrders_lane (l : LaneId) : lane l (issueOrders s) = lane l s := by
  unfold issueOrders
  split
  · rw [issueOne_lane, issueOne_lane, issueOne_lane, issueOne_lane]
  · rfl

theorem passEnd_lane (l : LaneId) : lane l (passEnd s) = lane l s := by
  by_cases h : lastPass s.w.plan = true
  · rw [passEnd_last h]
    refine lane_of_eq l ?_ ?_ <;> rw [goDone_frame, passClosed_frame]
  · rw [passEnd_more (by simpa using h)]
    refine lane_of_eq l ?_ ?_ <;> rw [namePass_frame, passClosed_frame]

theorem orderClose_lane (l : LaneId) (i : OrderSlot) (m n : Nat) : lane l (orderClose i m n s) = lane l s := by
  cases h : s.wipe.orders.get i with
  | none => rw [orderClose_none i m n h]
  | some x =>
    have before : lane l (checkpoint (watermark s) (closing i m n s)) = lane l s := by
      rw [checkpoint_frame]
      cases l <;> rfl
    rw [orderClose_open h, endOrIssue]
    split
    · rw [passEnd_lane, before]
    · rw [issueOrders_lane, before]

theorem report_lane (l : LaneId) (n a : Nat) (x : Option TStatus) : lane l (report tag n a x s) = lane l s := by
  have edited (f : Transfer → Transfer) (u : State) : lane l (editTransfer tag f u) = lane l u := by cases l <;> rfl
  unfold report account
  split
  · exact edited _ _
  · split
    · dsimp only
      split
      · rw [orderClose_lane, lane_hand, edited, edited]
      · rw [lane_hand, edited, edited]
    · exact edited _ _

theorem startSegment_lane_other {l j : LaneId} (h : j ≠ l) (g : Segment) (q : List Segment) :
    lane j (startSegment l g q s) = lane j s := by
  unfold startSegment
  dsimp only
  split
  · rw [lane_hand, lane_setLane_other l _ h]
  · rw [lane_hand, lane_setLane_other l _ h]
  · rw [lane_setLane_other l _ h]

theorem takeFrom_lane_other {l j : LaneId} (h : j ≠ l) (q : List Segment) : lane j (takeFrom l q s) = lane j s := by
  induction q generalizing s with
  | nil => exact lane_setLane_other l _ h
  | cons g q ih =>
    unfold takeFrom
    split
    · rw [ih, report_lane]
    · exact startSegment_lane_other h g q

/-- A lane that serves a segment goes on with it, with those that wait before any that join. -/
theorem placeSegment_serving {l : LaneId} {f : Segment} (j : LaneId) (g : Segment) (serving : (lane l s).inFlight = some f) :
    (lane l s).queue <+: (lane l (placeSegment j g s)).queue ∧ (lane l (placeSegment j g s)).inFlight = some f := by
  by_cases h : l = j
  · subst h
    rw [placeSegment_busy (by simp [serving]), lane_setLane_same]
    exact ⟨List.prefix_append _ _, serving⟩
  · have same : lane l (placeSegment j g s) = lane l s := by
      unfold placeSegment
      dsimp only
      split
      · exact lane_setLane_other j _ h
      · exact takeFrom_lane_other h _
    rw [same]
    exact ⟨List.prefix_rfl, serving⟩

theorem placeAll_serving {l : LaneId} {f : Segment} (xs : List (LaneId × Segment)) (i : Nat)
    (serving : (lane l s).inFlight = some f) :
    (lane l s).queue <+: (lane l (placeAll xs i s).1).queue ∧ (lane l (placeAll xs i s).1).inFlight = some f := by
  induction xs generalizing s i with
  | nil => exact ⟨List.prefix_rfl, serving⟩
  | cons x xs ih =>
    unfold placeAll
    split
    · exact ⟨List.prefix_rfl, serving⟩
    · obtain ⟨placed, still⟩ := placeSegment_serving x.1 x.2 serving
      obtain ⟨rest, ending⟩ := ih (i + 1) still
      exact ⟨placed.trans rest, ending⟩

theorem pieceDone_lane (l : LaneId) : lane l (pieceDone tag e last s) = lane l s := by
  rw [pieceDone_frame]
  cases l <;> rfl

theorem placePiece_lane (l : LaneId) (x : Piece) :
    lane l (placePiece tag x last s) = lane l (placeAll (x.plan.drop x.next) x.next s).1 := by
  unfold placePiece
  split
  · rename_i u i h
    rw [pieceDone_lane, h]
  · rename_i u i h
    rw [h]
    cases l <;> rfl

/-- Settles O30. -/
theorem pausedSegmentJoinsItsQueue : Obligations.PausedSegmentJoinsItsQueue := by
  unfold Obligations.PausedSegmentJoinsItsQueue
  intro s t x l g f piece paused current found waiting serving room
  have free : laneFull l s = false := decide_eq_false (Nat.not_le.mpr room)
  have resumes : resumeTranslation s = placePiece t.tag x (transferEnd t) s := by
    unfold resumeTranslation currentTransfer
    rw [piece, current]
    dsimp only
    rw [found]
    dsimp only
    rw [waiting]
    exact if_pos (by simp [paused, free])
  refine ⟨_, congrArg (fun y => Host.Outcome.next (settle y)) resumes, ?_⟩
  rw [placePiece_lane, List.drop_eq_getElem?_toList_append, waiting]
  rw [Option.toList_some, List.singleton_append, placeAll, if_neg (by simp [free])]
  have joins : lane l (placeSegment l g s) = behind [g] (lane l s) := by
    rw [placeSegment_busy (by simp [serving]), lane_setLane_same]
  have rest := placeAll_serving (s := placeSegment l g s) (f := f) (x.plan.drop (x.next + 1)) (x.next + 1)
    (by rw [joins]; exact serving)
  rw [joins] at rest
  exact rest

end

/-! # Pieces allowed -/

section

variable {s : State} {t : Transfer} {k : KeyName}

theorem keyCheck_present {k : KeyName} (h : present s k = true) : keyCheck s k (entry s k).epoch = none := by
  simp [keyCheck, h]

/-- The segment of a whole piece of one lane. -/
def wholeSegment (t : Transfer) (s : State) (k : KeyName) : Segment := segmentOf t s k t.progress 1 (pieceEnd t s - t.progress)

theorem more_of_progress (more : t.progress < transferEnd t) : t.progress < pieceEnd t s := lt_leastCut more _

theorem formedPiece_end (more : t.progress < transferEnd t) :
    (formedPiece t s k).first + (formedPiece t s k).count = pieceEnd t s := by
  have beyond := more_of_progress (s := s) more
  show t.progress + (pieceEnd t s - t.progress) = pieceEnd t s
  omega

/-- In SINGLE, with lane A at rest, an allowed piece of at most 256 sectors is one segment, taken as it is placed. -/
theorem exec_single (piece : s.stu.piece = none) (current : s.stu.current = some t.tag) (found : transfer s t.tag = some t)
    (allowed : decide33 t s = .allowed k) (more : t.progress < transferEnd t) (small : pieceEnd t s - t.progress ≤ 256)
    (mode : s.w.config.mode = .single) (rest : s.laneA = Lane.idle) (live : present s k = true) :
    exec .translatePiece s = .next (settle (pieceDone t.tag (pieceEnd t s) (transferEnd t)
      (startSegment .a (wholeSegment t s k) [] s))) := by
  have beyond := more_of_progress (s := s) more
  rw [exec_translatePiece piece current found, translatePiece_allowed allowed,
    placePiece_one (g := wholeSegment t s k) (lanePlan_single mode (by omega) small) rfl rest (keyCheck_present live),
    formedPiece_end more]

theorem startSegment_fill {l : LaneId} {g : Segment} (h : g.direction = .fill) (q : List Segment) :
    startSegment l g q s = setLane l { queue := q, inFlight := some g, state := .filling, timer := none } s := by
  unfold startSegment
  rw [servingLane_filling h, h]

theorem startSegment_read {l : LaneId} {g : Segment} (h : g.direction = .read) (q : List Segment) :
    startSegment l g q s = hand (.fetch g.tag g.media g.stride g.count)
      (setLane l { queue := q, inFlight := some g, state := .awaiting, timer := some 256 } s) := by
  unfold startSegment
  rw [servingLane_awaiting (by simp [h]), h]

theorem startSegment_write {l : LaneId} {g : Segment} (h : g.direction = .write) (q : List Segment) :
    startSegment l g q s = hand (.pull g.tag g.drive g.media g.stride g.count)
      (setLane l { queue := q, inFlight := some g, state := .awaiting, timer := some 256 } s) := by
  unfold startSegment
  rw [servingLane_awaiting (by simp [h]), h]

theorem placePiece_done {tag : Byte} {x : Piece} {last i : Nat} {u : State}
    (h : placeAll (x.plan.drop x.next) x.next s = (u, i, true)) :
    placePiece tag x last s = pieceDone tag (x.first + x.count) last u := by
  unfold placePiece
  rw [h]

theorem placePiece_pauses {tag : Byte} {x : Piece} {last i : Nat} {u : State}
    (h : placeAll (x.plan.drop x.next) x.next s = (u, i, false)) :
    placePiece tag x last s = { u with stu := { u.stu with piece := some { x with next := i }, paused := true } } := by
  unfold placePiece
  rw [h]

theorem joined_queue (plan : List (LaneId × Segment)) (l : LaneId) :
    lane l (joined plan s) =
      { lane l s with queue := (lane l s).queue ++ ((plan.filter fun y => y.1 = l).map fun y => y.2) } := lane_joined l plan

/-- Settles O29. -/
theorem allowedPieceIsFetched : Obligations.AllowedPieceIsFetched := by
  unfold Obligations.AllowedPieceIsFetched
  refine ⟨?_, ?_, ?_⟩
  · intro s t g piece current found scrub more small mode rest live hg
    have allowed : decide33 t s = .allowed .fill := by rw [decide33_eq, if_pos scrub]
    have run := exec_single piece current found allowed more small mode rest live
    have whole : wholeSegment t s .fill = g := by
      subst hg
      simp [wholeSegment, segmentOf, mediaOf, coverPiece, directionOf, scrub]
    rw [whole, startSegment_fill (by rw [hg])] at run
    obtain ⟨st, moved⟩ := pieceDone_transfer (e := pieceEnd t s) (last := transferEnd t)
      (s := setLane .a { queue := [], inFlight := some g, state := .filling, timer := none } s) (tag := t.tag) found
    refine ⟨_, _, run, ?_, ?_, ?_, moved, rfl, pieceDone_piece, ?_, ?_, ?_, ?_⟩ <;> rw [pieceDone_frame] <;> rfl
  · intro s t k plan piece current found allowed more busy hplan
    subst hplan
    have run := exec_translatePiece piece current found
    rw [translatePiece_allowed allowed] at run
    refine ⟨fun fits => ?_, fun pre post l g split fits full => ?_⟩
    · have all := placeAll_busy [] 0 busy fits
      rw [List.append_nil] at all
      rw [placePiece_done (x := formedPiece t s k) (u := joined (lanePlan t s k (pieceEnd t s - t.progress)) s) all] at run
      rw [formedPiece_end more] at run
      obtain ⟨st, moved⟩ := pieceDone_transfer (e := pieceEnd t s) (last := transferEnd t)
        (s := joined (lanePlan t s k (pieceEnd t s - t.progress)) s) (tag := t.tag) found
      refine ⟨_, _, run, fun l => (pieceDone_lane l).trans (joined_queue _ l), moved, rfl, pieceDone_piece, ?_, ?_, ?_, ?_, ?_⟩
        <;> rw [pieceDone_frame] <;> rfl
    · have stops : placeAll (lanePlan t s k (pieceEnd t s - t.progress)) 0 s = (joined pre s, pre.length, false) := by
        have full' : laneFull l (joined pre s) = true := by
          unfold laneFull
          rw [joined_queue]
          refine decide_eq_true ?_
          show 16 ≤ _
          rw [List.length_append, List.length_map]
          omega
        rw [split, placeAll_busy _ 0 busy fits, placeAll, if_pos full', Nat.zero_add]
      rw [placePiece_pauses (x := formedPiece t s k) (u := joined pre s) stops] at run
      refine ⟨_, run, fun j => (?_ : _ = lane j (joined pre s)).trans (joined_queue pre j), rfl, rfl, rfl, rfl, rfl, rfl, rfl, rfl,
        rfl⟩
      cases j <;> rfl
  · intro s t k piece current found allowed kind more small mode rest cover
    obtain ⟨fill, -, covers, band⟩ := allowedPieceIsGuarded.2 t s k allowed
    have live : present s k = true := by
      cases k with
      | band b => exact (band b rfl).2.1
      | cover => exact cover rfl
      | fill => exact absurd (fill.mpr rfl) kind
    have piece' : coverPiece t s = decide (k = .cover) := by
      rw [Bool.eq_iff_iff, coverPiece_eq t s kind, decide_eq_true_iff]
      cases k with
      | band b => simpa using (band b rfl).2.2.2.2
      | cover => simpa using ⟨(covers rfl).1, (covers rfl).2.1⟩
      | fill => exact absurd (fill.mpr rfl) kind
    have run := exec_single piece current found allowed more small mode rest live
    refine ⟨_, wholeSegment t s k, run, ?_, ?_, ?_, ?_, ?_, ?_, ?_, ?_⟩
    · simp [wholeSegment, segmentOf, mediaOf, piece']
    all_goals rw [pieceDone_frame]
    · cases hk : t.kind with
      | read => rw [startSegment_read (by simp [wholeSegment, segmentOf, directionOf, hk])]; rfl
      | write => rw [startSegment_write (by simp [wholeSegment, segmentOf, directionOf, hk])]; rfl
      | scrub => exact absurd hk kind
    · exact startSegment_lane_other (l := .a) (j := .b) (by simp) _ _
    · cases hk : t.kind with
      | read => rw [startSegment_read (by simp [wholeSegment, segmentOf, directionOf, hk])]; rfl
      | write => rw [startSegment_write (by simp [wholeSegment, segmentOf, directionOf, hk])]; rfl
      | scrub => exact absurd hk kind
    · exact (startSegment_traffic .a _ _).keys
    · exact (startSegment_traffic .a _ _).bands
    · exact (startSegment_traffic .a _ _).w
    · exact (startSegment_traffic .a _ _).ks

end

/-! # What a tick counts -/

/-! ## What a tick counts -/

section

variable {s t u : State}

theorem tickCounter_eq (s : State) : tickCounter s = { s with twu := { s.twu with
    counter := if theft s = .armed ∨ theft s = .suspect then min (s.twu.counter + 1) Config.counterTop else s.twu.counter } } := by
  unfold tickCounter
  by_cases h : theft s = .armed ∨ theft s = .suspect
  · rw [if_pos h, if_pos (by simpa using h)]
  · rw [if_neg h, if_neg (by simpa using h)]

/-- The state with the grace one tick shorter. -/
def graceLower (s : State) : State := { s with twu := { s.twu with grace := s.twu.grace - 1 } }

theorem tickGrace_rests (h : theft s ≠ .suspect ∨ s.twu.grace = 0) : tickGrace s = s := by
  unfold tickGrace
  refine if_neg ?_
  rcases h with h | h <;> simp [h]

theorem tickGrace_falls (suspect : theft s = .suspect) (grace : 0 < s.twu.grace) : tickGrace s =
    if s.twu.grace - 1 ≠ 0 ∧ (s.twu.grace - 1) % 65536 = 0 then graceCheckpoint (graceLower s) else graceLower s := by
  unfold tickGrace
  rw [if_pos (by simp [suspect, grace])]
  dsimp only
  by_cases h : s.twu.grace - 1 ≠ 0 ∧ (s.twu.grace - 1) % 65536 = 0
  · rw [if_pos h, if_pos (by rw [Bool.and_eq_true, decide_eq_true_iff, decide_eq_true_iff]; exact h)]
    rfl
  · rw [if_neg h, if_neg (by rw [Bool.and_eq_true, decide_eq_true_iff, decide_eq_true_iff]; exact h)]
    rfl

theorem tickGrace_frame (s : State) : tickGrace s =
    { s with twu := { s.twu with grace := if theft s = .suspect then s.twu.grace - 1 else s.twu.grace },
             w := { s.w with watch := (tickGrace s).w.watch }, ks := (tickGrace s).ks } := by
  by_cases suspect : theft s = .suspect
  · rw [if_pos suspect]
    rcases Nat.eq_zero_or_pos s.twu.grace with h | h
    · rw [tickGrace_rests (.inr h)]
      have still : s.twu.grace - 1 = s.twu.grace := by omega
      rw [still]
    · rw [tickGrace_falls suspect h]
      split
      · rw [graceCheckpoint, queuePage_frame]
        rfl
      · rfl
  · rw [if_neg suspect, tickGrace_rests (.inl suspect)]

/-- The watch page after a tick of the grace: at a checkpoint it takes the grace seconds and is queued. -/
theorem tickGrace_page (s : State) :
    if theft s = .suspect ∧ s.twu.grace - 1 ≠ 0 ∧ (s.twu.grace - 1) % 65536 = 0 then
      (tickGrace s).w = { s.w with watch := { s.w.watch with graceSeconds := 64 * ((s.twu.grace - 1) / 65536) } } ∧
      Carried watchPage (tickGrace s)
    else (tickGrace s).w = s.w ∧ (tickGrace s).ks = s.ks := by
  by_cases suspect : theft s = .suspect
  · rcases Nat.eq_zero_or_pos s.twu.grace with h | h
    · rw [if_neg (by simp [h]), tickGrace_rests (.inr h)]
      exact ⟨rfl, rfl⟩
    · rw [tickGrace_falls suspect h]
      by_cases point : s.twu.grace - 1 ≠ 0 ∧ (s.twu.grace - 1) % 65536 = 0
      · rw [if_pos ⟨suspect, point⟩, if_pos point]
        refine ⟨?_, carried_queuePage_same _ _ _⟩
        have seconds : (s.twu.grace - 1) / 1024 = 64 * ((s.twu.grace - 1) / 65536) := by omega
        rw [graceCheckpoint, queuePage_w, ← seconds]
        rfl
      · rw [if_neg (fun h => point h.2), if_neg point]
        exact ⟨rfl, rfl⟩
  · rw [if_neg (fun h => suspect h.1), tickGrace_rests (.inl suspect)]
    exact ⟨rfl, rfl⟩

/-- The part of a tick that runs whatever the watch does. -/
def timersFall (s : State) : State :=
  { s with laneA := laneTick s.laneA, laneB := laneTick s.laneB, backoff := tab8 fun i => backoffOf s i - 1 }

theorem tickCounts_eq (s : State) : tickCounts s = tickGrace (tickCounter (timersFall s)) := rfl

theorem tickCounts_frame (s : State) : tickCounts s =
    { timersFall s with
      twu := { s.twu with
        counter := if theft s = .armed ∨ theft s = .suspect then min (s.twu.counter + 1) Config.counterTop else s.twu.counter,
        grace := if theft s = .suspect then s.twu.grace - 1 else s.twu.grace },
      w := { s.w with watch := (tickCounts s).w.watch }, ks := (tickCounts s).ks } := by
  rw [tickCounts_eq, tickGrace_frame, tickCounter_eq]
  rfl

theorem tickCounts_page (s : State) :
    if theft s = .suspect ∧ s.twu.grace - 1 ≠ 0 ∧ (s.twu.grace - 1) % 65536 = 0 then
      (tickCounts s).w = { s.w with watch := { s.w.watch with graceSeconds := 64 * ((s.twu.grace - 1) / 65536) } } ∧
      Carried watchPage (tickCounts s)
    else (tickCounts s).w = s.w ∧ (tickCounts s).ks = s.ks := by
  have page := tickGrace_page (tickCounter (timersFall s))
  rw [tickCounts_eq]
  rw [tickCounter_eq] at page ⊢
  exact page

/-- Outside SUSPECT a tick's counts touch neither the working copy nor the store. -/
theorem tickCounts_resting (h : theft s ≠ .suspect) : tickCounts s = { timersFall s with twu := { s.twu with
    counter := if theft s = .armed then min (s.twu.counter + 1) Config.counterTop else s.twu.counter } } := by
  rw [tickCounts_eq, tickCounter_eq]
  refine (tickGrace_rests (.inl (by exact h))).trans ?_
  have armed : (theft (timersFall s) = .armed ∨ theft (timersFall s) = .suspect) ↔ theft s = .armed :=
    ⟨fun k => k.resolve_right h, .inl⟩
  simp only [armed]
  rfl

/-! ## The end of a tick -/

/-- The divider starts again, and the supply and entropy samples are taken. -/
def tickEnd (supply entropy : Bool) (s : State) : State :=
  { s with divider := 0, entropyTest := entropy, supplyOk := if s.supplyPrev = some supply then supply else s.supplyOk,
           supplyPrev := some supply,
           supplySeenOk := s.supplySeenOk || if s.supplyPrev = some supply then supply else s.supplyOk }

/-- The meter's part of a tick, with the ends that were due. -/
def tickMeter (s : State) : State := meterCycles (Config.cyclesPerTick - s.divider) (takeDue s)

theorem expire_still {l : LaneId} (h : timedOut l s = false) : expire l s = s := if_neg (by simp [h])

theorem expireGrace_still (h : graceDue s = false) : expireGrace s = s := if_neg (by simp [h])

theorem reachPeriod_still (h : CheckinIdle s) : reachPeriod s = s := by
  unfold reachPeriod
  rcases h with h | h | h | h
  · exact if_neg (by simp [h])
  · rw [assertIndicator_disabled _ h, ite_self]
  · rw [assertIndicator_still _ h.1 h.2, ite_self]
  · rw [assertIndicator_cause _ h.1 h.2, ite_self]

theorem takeDue_eq (a : timedOut .a s = false) (b : timedOut .b s = false) : takeDue s = reachPeriod (expireGrace s) := by
  unfold takeDue
  rw [expire_still a, expire_still b]

theorem takeDue_still (a : timedOut .a s = false) (b : timedOut .b s = false) (grace : theft s = .suspect → 0 < s.twu.grace)
    (idle : CheckinIdle s) : takeDue s = s := by
  have due : graceDue s = false := by
    unfold graceDue
    by_cases h : theft s = .suspect
    · have := grace h
      simp [h]
      omega
    · simp [h]
  rw [takeDue_eq a b, expireGrace_still due, reachPeriod_still idle]

theorem meterCycles_off {n : Nat} (h : s.twu.meterOn = false) : meterCycles n s = s := if_neg (by simp [h])

theorem counting_of_ready (h : s.mode = .ready) : counting s = true := by simp [counting, h]

/-- A tick of a part that is ready, by what is left of it once the meter has counted. -/
theorem exec_tick {high sup g : Bool} (ready : s.mode = .ready)
    (mode : (sampleTamper high (tickCounts (tickMeter s))).mode = .ready) :
    exec (.tick high sup g) s = .next (settle (tickEnd sup g (sampleTamper high (tickCounts (tickMeter s))))) := by
  have blocks : tickBlocks high s = sampleTamper high (tickCounts (tickMeter s)) := if_pos (counting_of_ready ready)
  have on : s.mode ≠ .off := by simp [ready]
  have run : exec (.tick high sup g) s = .next (settle (startIfSupplied (sampleSupply sup
      { tickBlocks high s with divider := 0, entropyTest := g }))) := if_neg on
  rw [run, blocks]
  refine congrArg (fun x => Host.Outcome.next (settle x)) (if_neg ?_)
  show ¬ ((decide ((sampleTamper high (tickCounts (tickMeter s))).mode = .supplyWait) && _) = true)
  simp [mode]

theorem sampleTamper_agrees : sampleTamper s.twu.tamperOpen s = { s with twu := { s.twu with tamperOpposite := false } } :=
  if_pos rfl

/-- The state a tick leaves whose tamper sample agrees with the filter. -/
def ticked (sup g : Bool) (u : State) : State :=
  tickEnd sup g { tickCounts u with twu := { (tickCounts u).twu with tamperOpposite := false } }

theorem exec_tick_agrees {sup g : Bool} (ready : s.mode = .ready) (mode : (tickMeter s).mode = .ready)
    (tamper : (tickMeter s).twu.tamperOpen = s.twu.tamperOpen) :
    exec (.tick s.twu.tamperOpen sup g) s = .next (settle (ticked sup g (tickMeter s))) := by
  have same : (tickCounts (tickMeter s)).twu.tamperOpen = s.twu.tamperOpen := by
    rw [tickCounts_frame]
    exact tamper
  have sample : sampleTamper s.twu.tamperOpen (tickCounts (tickMeter s)) =
      { tickCounts (tickMeter s) with twu := { (tickCounts (tickMeter s)).twu with tamperOpposite := false } } := by
    rw [← same]
    exact sampleTamper_agrees
  rw [exec_tick ready, sample]
  · rfl
  · rw [sample, tickCounts_frame]
    exact mode

theorem ticked_counted (sup g : Bool) (u : State) : TickCounted u (ticked sup g u) u.twu := by
  refine ⟨?_, ?_⟩
  · show { (tickCounts u).twu with tamperOpposite := false } = _
    rw [tickCounts_frame]
  · have page := tickCounts_page u
    split at page
    · rename_i point
      rw [if_pos point]
      exact ⟨page.1, page.2.congr rfl rfl⟩
    · rename_i point
      rw [if_neg point]
      exact page

theorem ticked_frame (sup g : Bool) (u : State) : ticked sup g u =
    { u with
      divider := 0, entropyTest := g, supplyOk := if u.supplyPrev = some sup then sup else u.supplyOk, supplyPrev := some sup,
      supplySeenOk := u.supplySeenOk || if u.supplyPrev = some sup then sup else u.supplyOk, laneA := laneTick u.laneA,
      laneB := laneTick u.laneB, backoff := tab8 fun i => backoffOf u i - 1, twu := (ticked sup g u).twu,
      w := { u.w with watch := (ticked sup g u).w.watch }, ks := (ticked sup g u).ks } := by
  unfold ticked
  rw [tickCounts_frame]
  rfl

theorem ticked_backoff (sup g : Bool) (u : State) (i : SlotId) : backoffOf (ticked sup g u) i = backoffOf u i - 1 := by
  rw [ticked_frame]
  exact get_tab8 _ i

/-- Outside SUSPECT a tick counts, and touches nothing else. -/
theorem ticked_resting (sup g : Bool) (h : theft u ≠ .suspect) : (ticked sup g u).w = u.w ∧ (ticked sup g u).ks = u.ks ∧
    (ticked sup g u).twu = { u.twu with
      counter := if theft u = .armed then min (u.twu.counter + 1) Config.counterTop else u.twu.counter,
      tamperOpposite := false } := by
  unfold ticked
  rw [tickCounts_resting h]
  exact ⟨rfl, rfl, rfl⟩

/-- Settles O15. -/
theorem tickCounts_holds : Obligations.TickCounts := by
  unfold Obligations.TickCounts
  refine ⟨fun x => ?_, fun sup g s ready off a b calm idle => ?_, fun i s => rfl⟩
  · unfold laneTick
    cases x.state <;> rfl
  · have meter : tickMeter s = s := by
      rw [tickMeter, takeDue_still a b (fun h => absurd h calm) idle, meterCycles_off off]
    obtain ⟨w, ks, twu⟩ := ticked_resting sup g calm
    refine ⟨_, exec_tick_agrees ready (by rw [meter]; exact ready) (by rw [meter]), ?_⟩
    rw [meter]
    refine ⟨?_, ?_, ticked_backoff sup g s, ?_, ?_, by rw [twu], ?_, ?_, w, ks, ?_, ?_, ?_, ?_, ?_, ?_, ?_⟩ <;> rw [ticked_frame]

end

/-! # Missed check-ins and the end of the grace -/

/-! ## What the statements about the watch read of a state -/

section

variable {s s' t t' u : State} {p : Policy} {i : Indicator}

/-- What they read of the state after. -/
def watchAfter (s : State) :
    Working × KeyStore × KeyTable × Vector BandFlags 16 × WipeEngine × Nat × Nat × BitVec 4 × List OutMsg :=
  (s.w, s.ks, s.keys, s.bands, s.wipe, s.twu.grace, s.twu.counter, s.psp.notice, s.link.outbound)

theorem EntersAlarm.keep (h : EntersAlarm p s t) (same : watchAfter t' = watchAfter t) : EntersAlarm p s t' := by
  simp only [watchAfter, Prod.mk.injEq] at same
  obtain ⟨w, ks, keys, bands, wipe, grace, counter, notice, outbound⟩ := same
  unfold EntersAlarm Carried pageOf reference committed flags present entry Announced theft at *
  rw [w, ks, keys, bands, wipe, grace, counter, notice, outbound]
  simpa only [keys] using h

theorem EntersAlarm.congr (h : EntersAlarm p s t) (plan : s'.w.plan = s.w.plan)
    (cover : s'.keys.cover = s.keys.cover) (fill : s'.keys.fill = s.keys.fill) (wipe : s'.wipe = s.wipe)
    (mode : s'.mode = s.mode) : EntersAlarm p s' t := by
  unfold EntersAlarm Announced linkUp at *
  rw [plan, cover, fill, wipe, mode]
  exact h

theorem EntersSuspect.congr (h : EntersSuspect i p s t) (watch : s'.w.watch = s.w.watch) (plan : s'.w.plan = s.w.plan)
    (counter : s'.twu.counter = s.twu.counter) (keys : s'.keys = s.keys) (bands : s'.bands = s.bands) (wipe : s'.wipe = s.wipe)
    (mode : s'.mode = s.mode) : EntersSuspect i p s' t := by
  unfold EntersSuspect Announced linkUp at *
  rw [watch, plan, counter, keys, bands, wipe, mode]
  exact h

theorem Carried.keep {q : PageId} (h : Carried q t) (w : t'.w = t.w) (ks : t'.ks = t.ks) : Carried q t' :=
  h.congr ks (by rw [pageOf, pageOf, w])

/-- The watch's transition into ALARM, in which no indicator moves anything. -/
theorem theft_enterAlarm (policy : s.w.watch.policy = some p) (orders : noOrders s = true) :
    theft (enterAlarm s) ≠ .armed ∧ theft (enterAlarm s) ≠ .suspect := by
  obtain ⟨-, -, -, -, -, -, -, -, which⟩ := enterAlarm_enters policy orders
  cases action : p.action with
  | lockdown =>
    rw [action] at which
    simp [which.1]
  | wipe =>
    rw [action] at which
    simp [which.1]

/-- A change of the watch keeps what a tick reads. -/
theorem WatchOnly.ticking (h : WatchOnly s t) :
    t.mode = s.mode ∧ t.twu.tamperOpen = s.twu.tamperOpen ∧ t.twu.meterOn = s.twu.meterOn ∧ t.backoff = s.backoff := by
  rw [h.frame]
  exact ⟨rfl, rfl, rfl, rfl⟩

/-- A tick counts nothing of a watch that is neither ARMED nor in SUSPECT. -/
theorem ticked_watchAfter (sup g : Bool) (h : theft u ≠ .armed ∧ theft u ≠ .suspect) :
    watchAfter (ticked sup g u) = watchAfter u := by
  obtain ⟨w, ks, twu⟩ := ticked_resting sup g h.2
  unfold watchAfter
  rw [w, ks, twu, ticked_frame, if_neg h.1]

/-- A tick, with the meter off, that ends what is due first. -/
theorem exec_tick_due {v : State} {sup g : Bool} (ready : s.mode = .ready) (off : s.twu.meterOn = false)
    (due : takeDue s = v) (watch : WatchOnly s v) :
    exec (.tick s.twu.tamperOpen sup g) s = .next (settle (ticked sup g v)) := by
  obtain ⟨mode, tamper, meter, -⟩ := watch.ticking
  have eq : tickMeter s = v := by rw [tickMeter, due, meterCycles_off (meter.trans off)]
  rw [exec_tick_agrees ready (by rw [eq, mode, ready]) (by rw [eq, tamper]), eq]

theorem expireGrace_due (suspect : theft s = .suspect) (grace : s.twu.grace = 0) : expireGrace s = enterAlarm s :=
  if_pos (by simp [graceDue, suspect, grace])

theorem reachPeriod_due (h : checkinAsserted s = true) : reachPeriod s = assertIndicator .checkin s := if_pos h

theorem ready_of_linkUp (h : linkUp s = true) : s.mode = .ready := by simpa [linkUp] using h

/-- What a transition into ALARM leaves of the working copy and the bands' entries. -/
theorem enterAlarm_parts (policy : s.w.watch.policy = some p) (orders : noOrders s = true) :
    (enterAlarm s).w = { s.w with watch := (enterAlarm s).w.watch, plan := (enterAlarm s).w.plan } ∧
    ∀ b : BandId, entry (enterAlarm s) (.band b) = removed (entry s (.band b)) := by
  cases action : p.action with
  | lockdown =>
    rw [enterAlarm_lockdown policy action]
    exact ⟨by rw [(changeTheft_alarm orders).w], (changeTheft_alarm orders).removed⟩
  | wipe =>
    rw [enterAlarm_wipe policy action]
    exact ⟨by rw [(enterWiping_enters _ _ orders).w], (enterWiping_enters _ _ orders).removed⟩

/-- Settles O18. -/
theorem graceEndsInAlarmOrWipe : Obligations.GraceEndsInAlarmOrWipe := by
  unfold Obligations.GraceEndsInAlarmOrWipe
  intro c s p up suspect grace policy wiping command
  have orders := wiping.noOrders (by simp [suspect])
  have calm := theft_enterAlarm policy orders
  have watch := enterAlarm_watch orders
  obtain ⟨x, run, same, backoff⟩ : ∃ x, exec c s = .next (settle x) ∧ watchAfter x = watchAfter (enterAlarm s) ∧
      ∀ i, backoffOf x i = if c = .graceExpired then backoffOf s i else backoffOf s i - 1 := by
    rcases command with rfl | ⟨off, a, b, sup, g, rfl⟩
    · refine ⟨_, congrArg (fun x => Host.Outcome.next (settle x)) (expireGrace_due suspect grace), rfl, fun i => ?_⟩
      rw [if_pos rfl, backoffOf, watch.ticking.2.2.2]
      rfl
    · have due : takeDue s = enterAlarm s := by
        rw [takeDue_eq a b, expireGrace_due suspect grace, reachPeriod_still (.inr (.inr (.inl calm)))]
      refine ⟨_, exec_tick_due (ready_of_linkUp up) off due watch, ticked_watchAfter sup g calm, fun i => ?_⟩
      rw [if_neg (by simp), ticked_backoff, backoffOf, watch.ticking.2.2.2]
      rfl
  obtain ⟨w, removes⟩ := enterAlarm_parts policy orders
  obtain ⟨policy', cause, -, -, -, cover, fill, shut, which⟩ := (enterAlarm_enters policy orders).keep same
  simp only [watchAfter, Prod.mk.injEq] at same
  obtain ⟨xw, -, keys, -, -, -, counter, -⟩ := same
  rw [← xw] at w
  have entries (b : BandId) : entry x (.band b) = removed (entry s (.band b)) := by
    rw [← removes b]
    unfold entry
    rw [keys]
  refine ⟨x, run, cause, policy', ?_, ?_, ?_, ?_, backoff, cover, fill, ?_, fun b => ⟨(shut b).1, (shut b).2.1, ?_⟩, ?_⟩
  · rw [w]
  · rw [w]
  · rw [w]
  · rw [w]
  · cases action : p.action with
    | lockdown =>
      rw [action] at which
      exact (which.2.2.2 up).1
    | wipe =>
      rw [action] at which
      exact (which.2.2.2.2.1 up).1
  · rw [entries, removed_eq]
    rfl
  · cases action : p.action with
    | lockdown =>
      rw [action] at which
      have kept : x.twu.counter = s.twu.counter := by
        rw [counter, enterAlarm_lockdown policy action, (changeTheft_alarm orders).twu]
      exact ⟨which.1, kept, which.2.1, which.2.2.1⟩
    | wipe =>
      rw [action] at which
      exact ⟨which.1, which.2.1, which.2.2.1, which.2.2.2.2.2⟩

/-! ## Entry into SUSPECT -/

/-- The state of an entry into SUSPECT by an indicator under a policy. -/
def suspected (i : Indicator) (p : Policy) (s : State) : State := announce (suspectCore i p.graceSeconds s)

theorem suspected_frame (i : Indicator) (p : Policy) (s : State) : suspected i p s =
    { s with
      w := { s.w with watch := { s.w.watch with theft := .suspect, cause := some i, graceSeconds := p.graceSeconds } },
      twu := { s.twu with grace := p.graceSeconds * 1024 }, ks := (suspected i p s).ks,
      psp := { s.psp with notice := (suspected i p s).psp.notice },
      link := { s.link with outbound := (suspected i p s).link.outbound } } := by
  unfold suspected
  rw [announce_frame, suspectCore, queuePage_frame]
  rfl

theorem suspected_enters (i : Indicator) (p : Policy) (s : State) : EntersSuspect i p s (suspected i p s) :=
  suspectCore_enters i

theorem suspected_watch (i : Indicator) (p : Policy) (s : State) : WatchOnly s (suspected i p s) :=
  (suspectCore_watch i _).trans announce_watch

/-- An enabled indicator that asserts in ARMED, under a grace period. -/
theorem assertIndicator_suspects (policy : s.w.watch.policy = some p) (on : inSet p.enabled i = true)
    (armed : theft s = .armed) (grace : p.graceSeconds ≠ 0) : assertIndicator i s = suspected i p s := by
  rw [assertIndicator_armed i ((enabled_eq policy i).trans on) armed]
  exact enterSuspect_grace i policy grace

/-- An enabled indicator that asserts in ARMED without a grace period, or in SUSPECT of another cause. -/
theorem assertIndicator_alarms (policy : s.w.watch.policy = some p) (on : inSet p.enabled i = true)
    (h : (theft s = .armed ∧ p.graceSeconds = 0) ∨ (theft s = .suspect ∧ s.w.watch.cause ≠ some i)) :
    assertIndicator i s = enterAlarm s := by
  have on' := (enabled_eq policy i).trans on
  rcases h with ⟨armed, grace⟩ | ⟨suspect, cause⟩
  · rw [assertIndicator_armed i on' armed]
    exact enterSuspect_noGrace i policy grace
  · exact assertIndicator_suspect i on' suspect cause

/-- A tick that counts the first of a whole grace. -/
theorem ticked_suspected (sup g : Bool) (i : Indicator) (h : s.twu.counter = u.twu.counter) :
    (ticked sup g (suspected i p s)).w = (suspected i p s).w ∧ (ticked sup g (suspected i p s)).ks = (suspected i p s).ks ∧
    (ticked sup g (suspected i p s)).twu = { s.twu with
      grace := p.graceSeconds * 1024 - 1, counter := min (u.twu.counter + 1) Config.counterTop, tamperOpposite := false } := by
  obtain ⟨twu, page⟩ := ticked_counted sup g (suspected i p s)
  have suspect : theft (suspected i p s) = .suspect := by
    rw [suspected_frame]
    rfl
  have grace : (suspected i p s).twu.grace = p.graceSeconds * 1024 := by rw [suspected_frame]
  rw [if_neg (by rw [grace]; omega)] at page
  refine ⟨page.1, page.2, ?_⟩
  rw [twu, if_pos suspect, if_pos (Or.inr suspect), suspected_frame, ← h]

/-- Settles O17. -/
theorem missedCheckinSuspects : Obligations.MissedCheckinSuspects := by
  unfold Obligations.MissedCheckinSuspects
  refine ⟨fun c s p up policy on overdue wiping => ⟨fun alarms command => ?_, fun suspect cause => ?_⟩,
    fun s p up armed policy on overdue grace => ⟨fun sup g off a b => ?_, ?_⟩⟩
  · have asserted : checkinAsserted s = true := by simpa [checkinAsserted_eq policy] using overdue
    have orders := wiping.noOrders (by rcases alarms with h | h <;> simp [h.1])
    have calm := theft_enterAlarm policy orders
    have reached : reachPeriod s = enterAlarm s := (reachPeriod_due asserted).trans (assertIndicator_alarms policy on alarms)
    rcases command with rfl | ⟨off, a, b, sup, g, rfl⟩
    · exact ⟨_, congrArg (fun x => Host.Outcome.next (settle x)) reached, enterAlarm_enters policy orders⟩
    · have due : takeDue s = enterAlarm s := by
        rw [takeDue_eq a b, expireGrace]
        split
        · exact reachPeriod_still (.inr (.inr (.inl calm)))
        · exact reached
      exact ⟨_, exec_tick_due (ready_of_linkUp up) off due (enterAlarm_watch orders),
        (enterAlarm_enters policy orders).keep (ticked_watchAfter sup g calm)⟩
  · exact congrArg (fun x => Host.Outcome.next (settle x)) (reachPeriod_still (.inr (.inr (.inr ⟨suspect, cause⟩))))
  · have asserted : checkinAsserted s = true := by simpa [checkinAsserted_eq policy] using overdue
    have due : takeDue s = suspected .checkin p s := by
      rw [takeDue_eq a b, expireGrace_still (by simp [graceDue, armed]), reachPeriod_due asserted]
      exact assertIndicator_suspects policy on armed grace
    obtain ⟨w, ks, twu⟩ := ticked_suspected (s := s) (p := p) sup g .checkin rfl
    obtain ⟨-, -, -, carried, -, -, -, -, told⟩ := suspected_enters .checkin p s
    refine ⟨_, exec_tick_due (ready_of_linkUp up) off due (suspected_watch _ _ _), ?_, twu, carried.keep w ks, ?_, ?_, ?_, ?_, ?_⟩
    · rw [w, suspected_frame]
    · rw [ticked_frame, suspected_frame]
    · rw [ticked_frame, suspected_frame]
    · rw [ticked_frame, suspected_frame]
    · rw [ticked_frame]
      exact (told up).1
    · rw [ticked_frame]
      exact (told up).2
  · have asserted : checkinAsserted s = true := by simpa [checkinAsserted_eq policy] using overdue
    have reached : reachPeriod s = suspected .checkin p s :=
      (reachPeriod_due asserted).trans (assertIndicator_suspects policy on armed grace)
    obtain ⟨-, -, -, -, -, -, -, -, told⟩ := suspected_enters .checkin p s
    refine ⟨_, congrArg (fun x => Host.Outcome.next (settle x)) reached, ?_, ?_, ?_, ?_, ?_, ?_, ?_, ?_, (told up).1, (told up).2⟩
      <;> rw [suspected_frame]

end

/-! # The tamper filter and the grace at a tick -/

/-! ## The tamper latch -/

section

variable {s t : State} {p : Policy} {high sup g : Bool}

/-- The state with the latch set and the watch page queued. -/
def latched (s : State) : State := queuePage watchPage [] (setWatch { s.w.watch with latch := true } s)

theorem latched_frame (s : State) : latched s =
    { s with w := { s.w with watch := { s.w.watch with latch := true } }, ks := (latched s).ks } := by
  rw [latched, queuePage_frame]
  rfl

theorem carried_latched (s : State) : Carried watchPage (latched s) := carried_queuePage_same _ _ _

theorem setLatch_clear (h : s.w.watch.latch = false) : setLatch s = assertIndicator .tamper (latched s) := by
  unfold setLatch
  rw [if_neg (by simp [h])]
  rfl

theorem setLatch_resting (armed : theft s ≠ .armed) (suspect : theft s ≠ .suspect) :
    setLatch s = if s.w.watch.latch then s else latched s := by
  unfold setLatch
  split
  · rfl
  · rw [assertIndicator_still]
    · rfl
    · rw [theft, queuePage_w]
      exact armed
    · rw [theft, queuePage_w]
      exact suspect

/-- The filter after a sample. -/
def filtered (high : Bool) (u : WatchUnit) : WatchUnit :=
  { u with
    tamperOpen := if high ≠ u.tamperOpen ∧ u.tamperOpposite = true then high else u.tamperOpen,
    tamperOpposite := decide (high ≠ u.tamperOpen) && !u.tamperOpposite }

/-- The sample that changes the filter to OPEN. -/
theorem sampleTamper_eq (high : Bool) (s : State) : sampleTamper high s =
    if (high && !s.twu.tamperOpen && s.twu.tamperOpposite) = true then setLatch { s with twu := filtered high s.twu }
    else { s with twu := filtered high s.twu } := by
  unfold sampleTamper filtered
  dsimp only
  cases high <;> cases hopen : s.twu.tamperOpen <;> cases hopp : s.twu.tamperOpposite <;> rfl

/-- A sample outside ARMED and SUSPECT moves the filter and the latch alone. -/
theorem sampleTamper_resting (high : Bool) (armed : theft s ≠ .armed) (suspect : theft s ≠ .suspect) :
    sampleTamper high s = { s with
      twu := filtered high s.twu,
      w := { s.w with watch := { s.w.watch with
        latch := s.w.watch.latch || (high && !s.twu.tamperOpen && s.twu.tamperOpposite) } },
      ks := (sampleTamper high s).ks } ∧
    ((sampleTamper high s).w.watch.latch = s.w.watch.latch → (sampleTamper high s).ks = s.ks) ∧
    ((sampleTamper high s).w.watch.latch ≠ s.w.watch.latch → Carried watchPage (sampleTamper high s)) := by
  rw [sampleTamper_eq]
  cases opens : (high && !s.twu.tamperOpen && s.twu.tamperOpposite) with
  | false => simp
  | true =>
    have sets := setLatch_resting (s := { s with twu := filtered high s.twu }) armed suspect
    rw [if_pos rfl, sets]
    cases latch : s.w.watch.latch with
    | true =>
      rw [if_pos rfl]
      refine ⟨?_, fun _ => rfl, fun h => absurd latch h⟩
      rw [Bool.true_or, ← latch]
    | false =>
      rw [if_neg (by simp)]
      refine ⟨?_, fun h => ?_, fun _ => carried_latched _⟩
      · rw [latched_frame]
        simp
      · rw [latched_frame] at h
        simp at h

theorem tickMeter_calm (off : s.twu.meterOn = false) (a : timedOut .a s = false) (b : timedOut .b s = false)
    (grace : theft s = .suspect → 0 < s.twu.grace) (idle : CheckinIdle s) : tickMeter s = s := by
  rw [tickMeter, takeDue_still a b grace idle, meterCycles_off off]

theorem tickCounts_watch (s : State) :
    (tickCounts s).w.watch = { s.w.watch with graceSeconds := (tickCounts s).w.watch.graceSeconds } := by
  have page := tickCounts_page s
  split at page
  · rw [page.1]
  · rw [page.1]

/-- The state of a tick whose sample changes the filter to OPEN and sets the latch, before TAMPER asserts. -/
def opened (s : State) : State :=
  latched { tickCounts s with twu := { (tickCounts s).twu with tamperOpen := true, tamperOpposite := false } }

theorem opened_frame (s : State) : opened s =
    { timersFall s with
      twu := { s.twu with
        counter := if theft s = .armed ∨ theft s = .suspect then min (s.twu.counter + 1) Config.counterTop else s.twu.counter,
        grace := if theft s = .suspect then s.twu.grace - 1 else s.twu.grace, tamperOpen := true, tamperOpposite := false },
      w := { s.w with watch := { s.w.watch with
        latch := true, graceSeconds := (tickCounts s).w.watch.graceSeconds } },
      ks := (opened s).ks } := by
  have frame := tickCounts_frame s
  rw [tickCounts_watch s] at frame
  unfold opened
  rw [latched_frame, frame]

theorem sampleTamper_opens (latch : s.w.watch.latch = false) (shut : s.twu.tamperOpen = false)
    (opposite : s.twu.tamperOpposite = true) :
    sampleTamper true (tickCounts s) = assertIndicator .tamper (opened s) := by
  have frame := tickCounts_frame s
  have open' : (tickCounts s).twu.tamperOpen = false := by rw [frame]; exact shut
  have opp : (tickCounts s).twu.tamperOpposite = true := by rw [frame]; exact opposite
  have low : (tickCounts s).w.watch.latch = false := by rw [tickCounts_watch]; exact latch
  rw [sampleTamper_eq, open', opp]
  refine (if_pos rfl).trans ?_
  have filter : filtered true (tickCounts s).twu =
      { (tickCounts s).twu with tamperOpen := true, tamperOpposite := false } := by
    simp [filtered, open', opp]
  rw [setLatch_clear (by exact low), filter]
  rfl

theorem opened_mode (s : State) : (opened s).mode = s.mode := by
  rw [opened_frame]
  rfl

theorem opened_theft (s : State) : theft (opened s) = theft s := by
  rw [opened_frame]
  rfl

/-- A tick whose sample sets the latch. -/
theorem exec_tick_opens {v : State} (ready : s.mode = .ready) (meter : tickMeter s = s) (latch : s.w.watch.latch = false)
    (shut : s.twu.tamperOpen = false) (opposite : s.twu.tamperOpposite = true)
    (asserts : assertIndicator .tamper (opened s) = v) (watch : WatchOnly (opened s) v) :
    exec (.tick true sup g) s = .next (settle (tickEnd sup g v)) := by
  have sample : sampleTamper true (tickCounts (tickMeter s)) = v := by rw [meter, sampleTamper_opens latch shut opposite, asserts]
  rw [exec_tick ready, sample]
  rw [sample, watch.ticking.1, opened_mode, ready]

theorem tickEnd_w (s : State) : (tickEnd sup g s).w = s.w := rfl
theorem tickEnd_twu (s : State) : (tickEnd sup g s).twu = s.twu := rfl
theorem tickEnd_bands (s : State) : (tickEnd sup g s).bands = s.bands := rfl
theorem tickEnd_keys (s : State) : (tickEnd sup g s).keys = s.keys := rfl
theorem tickEnd_dq (s : State) : (tickEnd sup g s).dq = s.dq := rfl
theorem tickEnd_psp (s : State) : (tickEnd sup g s).psp = s.psp := rfl
theorem tickEnd_link (s : State) : (tickEnd sup g s).link = s.link := rfl
theorem tickEnd_ks (s : State) : (tickEnd sup g s).ks = s.ks := rfl

theorem tickEnd_watchAfter (s : State) : watchAfter (tickEnd sup g s) = watchAfter s := rfl

/-- Nothing but counts and the tamper sample stands behind a tick: the meter is off, no timer is at its end, and no check-in is
overdue that would move the watch. -/
structure CalmTick (s : State) : Prop where
  ready : s.mode = .ready
  off : s.twu.meterOn = false
  laneA : timedOut .a s = false
  laneB : timedOut .b s = false
  idle : CheckinIdle s

theorem tick_dormant (calm : CalmTick s) (dormant : theft s = .dormant) :
    ∃ x, exec (.tick high sup g) s = .next (settle x) ∧ x.divider = 0 ∧ x.entropyTest = g ∧
      (∀ i : SlotId, backoffOf x i = backoffOf s i - 1) ∧ x.laneA = laneTick s.laneA ∧ x.laneB = laneTick s.laneB ∧
      x.twu = filtered high s.twu ∧
      x.w = { s.w with watch := { s.w.watch with
        latch := s.w.watch.latch || (high && !s.twu.tamperOpen && s.twu.tamperOpposite) } } ∧
      (x.w.watch.latch = s.w.watch.latch → x.ks = s.ks) ∧ (x.w.watch.latch ≠ s.w.watch.latch → Carried watchPage x) ∧
      x.supplyOk = (if s.supplyPrev = some sup then sup else s.supplyOk) ∧ x.supplyPrev = some sup ∧ x.mode = s.mode ∧
      x.linkBox = s.linkBox ∧ x.sideBox = s.sideBox ∧ x.coverPermit = s.coverPermit ∧ x.entropyFailed = s.entropyFailed ∧
      x.bands = s.bands ∧ x.keys = s.keys ∧ x.dq = s.dq ∧ x.link = s.link ∧ x.psp = s.psp ∧ x.wipe = s.wipe ∧
      x.engine = s.engine := by
  obtain ⟨ready, off, a, b, idle⟩ := calm
  have meter := tickMeter_calm off a b (by simp [dormant]) idle
  have counts : tickCounts s = timersFall s := by
    rw [tickCounts_resting (by simp [dormant]), if_neg (by simp [dormant])]
    rfl
  obtain ⟨frame, still, sets⟩ := sampleTamper_resting (s := timersFall s) high
    (by show theft s ≠ _; simp [dormant]) (by show theft s ≠ _; simp [dormant])
  have run : exec (.tick high sup g) s = .next (settle (tickEnd sup g (sampleTamper high (timersFall s)))) := by
    rw [exec_tick ready, meter, counts]
    rw [meter, counts, frame]
    exact ready
  refine ⟨_, run, rfl, rfl, fun i => ?_, ?_, ?_, ?_, ?_, still, fun h => (sets h).keep rfl rfl, ?_⟩
  · rw [frame]
    exact get_tab8 _ i
  · rw [frame]
    rfl
  · rw [frame]
    rfl
  · rw [frame]
    rfl
  · rw [frame]
    rfl
  · rw [frame]
    exact ⟨rfl, rfl, rfl, rfl, rfl, rfl, rfl, rfl, rfl, rfl, rfl, rfl, rfl, rfl⟩

/-- The sample that sets the latch in ARMED, with TAMPER enabled, under a grace period. -/
theorem tick_tamper_suspects (calm : CalmTick s) (armed : theft s = .armed) (policy : s.w.watch.policy = some p)
    (on : inSet p.enabled .tamper = true) (grace : p.graceSeconds ≠ 0) (latch : s.w.watch.latch = false)
    (shut : s.twu.tamperOpen = false) (opposite : s.twu.tamperOpposite = true) :
    ∃ x, exec (.tick true sup g) s = .next (settle x) ∧
      x.w = { s.w with watch := { s.w.watch with theft := .suspect, cause := some .tamper, latch := true,
                                                 graceSeconds := p.graceSeconds } } ∧
      x.twu = { s.twu with grace := p.graceSeconds * 1024, counter := min (s.twu.counter + 1) Config.counterTop,
                           tamperOpen := true, tamperOpposite := false } ∧
      Carried watchPage x ∧ x.bands = s.bands ∧ x.keys = s.keys ∧ x.dq = s.dq ∧ x.psp.notice.getLsbD 0 = true ∧
      OutMsg.state .suspect none ∈ x.link.outbound := by
  obtain ⟨ready, off, a, b, idle⟩ := calm
  have meter := tickMeter_calm off a b (by simp [armed]) idle
  have frame := opened_frame s
  have policy' : (opened s).w.watch.policy = some p := by rw [frame]; exact policy
  have asserts : assertIndicator .tamper (opened s) = suspected .tamper p (opened s) :=
    assertIndicator_suspects policy' on ((opened_theft s).trans armed) grace
  have run := exec_tick_opens (sup := sup) (g := g) ready meter latch shut opposite asserts (suspected_watch _ _ _)
  obtain ⟨-, -, -, carried, -, -, -, -, told⟩ := suspected_enters .tamper p (opened s)
  have up : linkUp (opened s) = true := (linkUp_congr (opened_mode s)).trans (by simp [linkUp, ready])
  refine ⟨_, run, ?_, ?_, carried.keep (tickEnd_w _) (tickEnd_ks _), ?_, ?_, ?_, ?_, ?_⟩
  · rw [tickEnd_w, suspected_frame, frame]
  · rw [tickEnd_twu, suspected_frame, frame, if_pos (Or.inl armed : theft s = .armed ∨ theft s = .suspect)]
  · rw [tickEnd_bands, suspected_frame, frame]
    rfl
  · rw [tickEnd_keys, suspected_frame, frame]
    rfl
  · rw [tickEnd_dq, suspected_frame, frame]
    rfl
  · rw [tickEnd_psp]
    exact (told up).1
  · rw [tickEnd_link]
    exact (told up).2

/-- The sample that sets the latch in ARMED without a grace period, or in SUSPECT of another cause. -/
theorem tick_tamper_alarms (calm : CalmTick s) (policy : s.w.watch.policy = some p) (on : inSet p.enabled .tamper = true)
    (latch : s.w.watch.latch = false) (shut : s.twu.tamperOpen = false) (opposite : s.twu.tamperOpposite = true)
    (wiping : ScrubInWiping s)
    (alarms : (theft s = .armed ∧ p.graceSeconds = 0) ∨
      (theft s = .suspect ∧ 0 < s.twu.grace ∧ s.w.watch.cause ≠ some .tamper)) :
    ∃ x, exec (.tick true sup g) s = .next (settle x) ∧ x.w.watch.latch = true ∧ EntersAlarm p s x := by
  obtain ⟨ready, off, a, b, idle⟩ := calm
  have frame := opened_frame s
  have meter := tickMeter_calm off a b (by rcases alarms with h | h <;> simp [h]) idle
  have orders : noOrders (opened s) = true := by
    rw [frame]
    exact wiping.noOrders (by rcases alarms with h | h <;> simp [h.1])
  have policy' : (opened s).w.watch.policy = some p := by rw [frame]; exact policy
  have asserts : assertIndicator .tamper (opened s) = enterAlarm (opened s) := by
    refine assertIndicator_alarms policy' on ?_
    rw [opened_theft]
    rcases alarms with h | h
    · exact .inl h
    · exact .inr ⟨h.1, by rw [frame]; exact h.2.2⟩
  have watch := enterAlarm_watch orders
  refine ⟨_, exec_tick_opens ready meter latch shut opposite asserts watch, ?_, ?_⟩
  · show (enterAlarm (opened s)).w.watch.latch = true
    rw [watch.latch, frame]
  · refine ((enterAlarm_enters policy' orders).keep (tickEnd_watchAfter _)).congr ?_ ?_ ?_ ?_ ?_ <;> rw [frame] <;> rfl

/-- The sample that sets the latch in SUSPECT with TAMPER the cause. -/
theorem tick_tamper_stays (calm : CalmTick s) (latch : s.w.watch.latch = false) (shut : s.twu.tamperOpen = false)
    (opposite : s.twu.tamperOpposite = true) (suspect : theft s = .suspect) (grace : 0 < s.twu.grace)
    (cause : s.w.watch.cause = some .tamper) :
    ∃ x, exec (.tick true sup g) s = .next (settle x) ∧ x.w.watch.latch = true ∧ theft x = .suspect ∧
      x.w.watch.cause = some .tamper ∧ x.twu.grace = s.twu.grace - 1 ∧ x.bands = s.bands ∧ x.keys = s.keys := by
  obtain ⟨ready, off, a, b, idle⟩ := calm
  have meter := tickMeter_calm off a b (fun _ => grace) idle
  have frame := opened_frame s
  have cause' : (opened s).w.watch.cause = some .tamper := by rw [frame]; exact cause
  have run := exec_tick_opens (sup := sup) (g := g) ready meter latch shut opposite
    (assertIndicator_cause .tamper ((opened_theft s).trans suspect) cause') (.refl _)
  refine ⟨_, run, ?_, ?_, ?_, ?_, ?_, ?_⟩
  · show (opened s).w.watch.latch = true
    rw [frame]
  · exact (opened_theft s).trans suspect
  · show (opened s).w.watch.cause = _
    rw [frame]
    exact cause
  · show (opened s).twu.grace = _
    rw [frame, if_pos suspect]
  · show (opened s).bands = _
    rw [frame]
    rfl
  · show (opened s).keys = _
    rw [frame]
    rfl

/-- Settles O16. -/
theorem tickFiltersTamperAndGrace : Obligations.TickFiltersTamperAndGrace := by
  unfold Obligations.TickFiltersTamperAndGrace
  refine ⟨fun high sup g s ready off a b idle => ⟨tick_dormant ⟨ready, off, a, b, idle⟩, fun p armed policy on =>
    tick_tamper_suspects ⟨ready, off, a, b, idle⟩ armed policy on, fun p policy on latch shut opposite wiping =>
    ⟨tick_tamper_alarms ⟨ready, off, a, b, idle⟩ policy on latch shut opposite wiping,
      tick_tamper_stays ⟨ready, off, a, b, idle⟩ latch shut opposite⟩, fun suspect grace => ?_⟩, fun high s dormant => ?_,
    fun s suspect grace => ?_⟩
  · have meter := tickMeter_calm off a b (fun _ => grace) idle
    obtain ⟨twu, page⟩ := ticked_counted sup g s
    rw [if_pos suspect, if_pos (.inr suspect)] at twu
    refine ⟨ticked sup g s, ?_, ?_, ticked_backoff sup g s, ?_, ?_, twu, ?_, ?_⟩
    · rw [exec_tick_agrees ready (by rw [meter]; exact ready) (by rw [meter]), meter]
    · rw [ticked_frame]
    · rw [ticked_frame]
    · rw [ticked_frame]
    · simpa [suspect] using page
    · rw [ticked_frame]
      exact ⟨rfl, rfl, rfl, rfl, rfl, rfl, rfl⟩
  · obtain ⟨frame, -, -⟩ := sampleTamper_resting (s := s) high (by simp [dormant]) (by simp [dormant])
    rw [frame]
    exact ⟨rfl, rfl, rfl, dormant⟩
  · have frame := tickGrace_frame s
    have page := tickGrace_page s
    rw [if_pos suspect] at frame
    refine ⟨by rw [frame], ?_, fun off => ?_⟩
    · by_cases point : s.twu.grace - 1 ≠ 0 ∧ (s.twu.grace - 1) % 65536 = 0
      · rw [if_pos ⟨suspect, point⟩] at page
        rw [if_pos point, page.1]
      · rw [if_neg fun h => point h.2] at page
        rw [if_neg point, page.1]
    · rw [if_neg (by omega)] at page
      exact page.2

end

/-! # Segments that a timeout or a change of keys ends -/

/-! ## Segments that a timeout or a change of keys ends -/

section

variable {s t : State} {l : LaneId} {g : Segment} {r : Transfer} {y : TStatus}

theorem expire_timedOut (flight : (lane l s).inFlight = some g) (state : (lane l s).state = .awaiting)
    (timer : (lane l s).timer = some 0) : expire l s = endRefused l g .dataTimeout s := by
  unfold expire
  rw [if_pos (by simp [timedOut, state, timer]), flight]

theorem timedOut_false (h : (lane l s).timer ≠ some 0) : timedOut l s = false := by
  simp [timedOut, h]

theorem timedOut_congr {j : LaneId} (h : lane j t = lane j s) : timedOut j t = timedOut j s := by
  unfold timedOut
  rw [h]

theorem laneReact_rest (flight : (lane l s).inFlight = none) (empty : (lane l s).queue = []) : laneReact l s = s := by
  unfold laneReact
  rw [flight, empty]
  rfl

theorem laneReact_fails (flight : (lane l s).inFlight = some g) (check : keyCheck s g.key g.epoch = some y) :
    laneReact l s = endRefused l g y s := by
  unfold laneReact
  rw [flight]
  dsimp only
  rw [check]

/-- A change of keys under the one segment in flight, with nothing queued, ends it by the status of its check. -/
theorem lanesReact_alone (flight : (lane l s).inFlight = some g) (empty : (lane l s).queue = [])
    (others : ∀ j : LaneId, j ≠ l → (lane j s).inFlight = none ∧ (lane j s).queue = [])
    (check : keyCheck s g.key g.epoch = some y) (found : transfer s g.tag = some r) (plain : r.order = none) :
    lanesReact s = endRefused l g y s := by
  have ends := laneReact_fails flight check
  unfold lanesReact
  cases l with
  | a =>
    have same := (endRefused_ends (y := y) .a empty found plain).2.2.1 .b (by simp)
    obtain ⟨flight', empty'⟩ := others .b (by simp)
    rw [ends, laneReact_rest (by rw [same, flight']) (by rw [same, empty'])]
  | b =>
    obtain ⟨flight', empty'⟩ := others .a (by simp)
    rw [laneReact_rest flight' empty', ends]

/-- A segment that ends refused gives way to a queued one whose key check fails too. -/
theorem endRefused_queued {q : Segment} {u : Transfer} {st : TStatus} (queue : (lane l s).queue = [q])
    (found : transfer s g.tag = some r) (plain : r.order = none) (found' : transfer s q.tag = some u)
    (plain' : u.order = none) (distinct : q.tag ≠ g.tag) (check : keyCheck s q.key q.epoch = some st) :
    TrafficOnly s (endRefused l g y s) ∧ lane l (endRefused l g y s) = Lane.idle ∧
    transfer (endRefused l g y s) g.tag = some (reported (g.count - g.done) (sectorAddress g g.done) (some y) r) ∧
    transfer (endRefused l g y s) q.tag = some (reported q.count q.drive (some st) u) := by
  obtain ⟨frame, same, others⟩ := report_plain (s := dropSegment l s) (n := g.count - g.done) (a := sectorAddress g g.done)
    (x := some y) ((transfer_setLane l _ g.tag).trans found) plain
  have behind : transfer (report g.tag (g.count - g.done) (sectorAddress g g.done) (some y) (dropSegment l s)) q.tag = some u :=
    (others q.tag distinct).trans ((transfer_setLane l _ q.tag).trans found')
  obtain ⟨frame', same', others'⟩ := report_plain (n := q.count) (a := q.drive) (x := some st) behind plain'
  have waits : (lane l (report g.tag (g.count - g.done) (sectorAddress g g.done) (some y) (dropSegment l s))).queue = [q] := by
    rw [frame.lane l, dropSegment, lane_setLane_same, restLane, queue]
  have fails : keyCheck (report g.tag (g.count - g.done) (sectorAddress g g.done) (some y) (dropSegment l s)) q.key q.epoch =
      some st := by rw [frame.keyCheck, dropSegment, keyCheck_setLane, check]
  have ends : endRefused l g y s = setLane l Lane.idle (report q.tag q.count q.drive (some st)
      (report g.tag (g.count - g.done) (sectorAddress g g.done) (some y) (dropSegment l s))) := by
    rw [endRefused, takeNext, waits, takeFrom, fails]
    rfl
  rw [ends]
  refine ⟨?_, lane_setLane_same _ l _, ?_, ?_⟩
  · exact (((setLane_traffic l _).trans frame.traffic).trans frame'.traffic).trans (setLane_traffic l _)
  · rw [transfer_setLane, others' g.tag distinct.symm, same]
  · rw [transfer_setLane, same']

theorem keyCheck_absent {k : KeyName} (e : BitVec 32) (absent : present s k = false) : keyCheck s k e =
    if theft s = .alarm then some .alarm else if theft s = .wiping then some .wiping else some .locked := by
  unfold keyCheck
  rw [if_pos (by simp [absent])]
  cases theft s <;> rfl

/-- What a segment's ends leave that a statement reads, after an announcement too. -/
theorem EndsRefused.announce (h : EndsRefused l g y r s t) :
    lane l (announce t) = Lane.idle ∧ transfer (announce t) g.tag =
      some (reported (g.count - g.done) (sectorAddress g g.done) (some y) r) := by
  obtain ⟨-, idle, -, same, -⟩ := h
  exact ⟨(lane_of_eq l announce_laneA announce_laneB).trans idle, (transfer_congr announce_dq _).trans same⟩

/-- The tick that ends a segment first, and then counts. -/
theorem exec_tick_timeout (flight : (lane l s).inFlight = some g) (state : (lane l s).state = .awaiting)
    (timer : (lane l s).timer = some 0) (empty : (lane l s).queue = []) (found : transfer s g.tag = some r)
    (plain : r.order = none) (ready : s.mode = .ready) (off : s.twu.meterOn = false)
    (others : ∀ k : LaneId, k ≠ l → timedOut k s = false) (calm : theft s ≠ .suspect) (checkin : checkinAsserted s = false)
    (sup e : Bool) : exec (.tick s.twu.tamperOpen sup e) s = .next (settle (ticked sup e (endRefused l g .dataTimeout s))) := by
  obtain ⟨traffic, -, lanes, -⟩ := endRefused_ends (y := .dataTimeout) l empty found plain
  have ends := expire_timedOut flight state timer
  have both : expire .b (expire .a s) = endRefused l g .dataTimeout s := by
    cases l with
    | a => rw [ends, expire_still (by rw [timedOut_congr (lanes .b (by simp)), others .b (by simp)])]
    | b => rw [expire_still (others .a (by simp)), ends]
  have due : takeDue s = endRefused l g .dataTimeout s := by
    unfold takeDue
    rw [both, expireGrace_still, reachPeriod_still]
    · refine .inl ?_
      unfold checkinAsserted
      rw [traffic.w, traffic.twu]
      exact checkin
    · unfold graceDue theft
      rw [traffic.w]
      exact Bool.and_eq_false_imp.mpr fun h => absurd (of_decide_eq_true h) calm
  exact exec_tick_due ready off due (.ofTraffic traffic)

theorem keyCheck_eq (s : State) (k : KeyName) (e : BitVec 32) : keyCheck s k e =
    if present s k = true then (if (entry s k).epoch = e then none else some .reconfigured)
    else if theft s = .alarm then some .alarm
    else if theft s = .wiping then some .wiping
    else some .locked := by
  by_cases h : present s k = true
  · rw [if_pos h]
    simp [keyCheck, h]
  · rw [if_neg h, keyCheck_absent e (by simpa using h)]

/-- A change that touches neither lanes nor records, and leaves the one segment in flight without its key. -/
theorem lanesReact_ends {core : State} (laneA : core.laneA = s.laneA) (laneB : core.laneB = s.laneB) (dq : core.dq = s.dq)
    (flight : (lane l s).inFlight = some g) (empty : (lane l s).queue = [])
    (others : ∀ j : LaneId, j ≠ l → (lane j s).inFlight = none ∧ (lane j s).queue = [])
    (check : keyCheck core g.key g.epoch = some y) (found : transfer s g.tag = some r) (plain : r.order = none) :
    EndsRefused l g y r core (lanesReact core) := by
  have same (j : LaneId) : lane j core = lane j s := lane_of_eq j laneA laneB
  have found' : transfer core g.tag = some r := (transfer_congr dq g.tag).trans found
  rw [lanesReact_alone (l := l) (by rw [same, flight]) (by rw [same, empty]) (fun j hj => by rw [same]; exact others j hj)
    check found' plain]
  exact endRefused_ends l (by rw [same, empty]) found' plain

theorem theftCore_dataPath (x : Theft) : (theftCore x s).laneA = s.laneA ∧ (theftCore x s).laneB = s.laneB ∧
    (theftCore x s).dq = s.dq := by
  refine ⟨?_, ?_, ?_⟩
  · rw [theftCore_eq, queuePage_laneA, theftMoved, bandsAs_frame]
  · rw [theftCore_eq, queuePage_laneB, theftMoved, bandsAs_frame]
  · rw [theftCore_eq, queuePage_dq, theftMoved, bandsAs_frame]

theorem wipingCore_dataPath (c : Cause) (p : Passes) : (wipingCore c p s).laneA = s.laneA ∧
    (wipingCore c p s).laneB = s.laneB ∧ (wipingCore c p s).dq = s.dq := by
  obtain ⟨a, b, dq⟩ := theftCore_dataPath (s := s) .wiping
  rw [wipingCore, wipeBegin_frame]
  exact ⟨a, b, dq⟩

/-- The end of the grace, under one segment in flight of a band. -/
theorem enterAlarm_ends {p : Policy} {b : BandId} (policy : s.w.watch.policy = some p)
    (flight : (lane l s).inFlight = some g) (empty : (lane l s).queue = [])
    (others : ∀ j : LaneId, j ≠ l → (lane j s).inFlight = none ∧ (lane j s).queue = []) (key : g.key = .band b)
    (found : transfer s g.tag = some r) (plain : r.order = none) :
    lane l (enterAlarm s) = Lane.idle ∧ transfer (enterAlarm s) g.tag =
      some (reported (g.count - g.done) (sectorAddress g g.done)
        (some (match p.action with
          | .lockdown => .alarm
          | .wipe => .wiping)) r) := by
  cases action : p.action with
  | lockdown =>
    obtain ⟨a, b', dq⟩ := theftCore_dataPath (s := s) .alarm
    rw [enterAlarm_lockdown policy action]
    refine (lanesReact_ends a b' dq flight empty others ?_ found plain).announce
    rw [key, keyCheck_absent _ (theftCore_shut (.inl rfl) b).2.2, theft_theftCore]
    rfl
  | wipe =>
    obtain ⟨a, b', dq⟩ := wipingCore_dataPath (s := s) .theft (.times p.passes)
    rw [enterAlarm_wipe policy action, enterWiping_eq]
    refine (lanesReact_ends a b' dq flight empty others ?_ found plain).announce
    rw [key, keyCheck_absent _ (wipingCore_shut _ _ b).2.2, theft, wipingCore_w]
    rfl

/-- Settles O34. -/
theorem dataTimeoutEndsSegment : Obligations.DataTimeoutEndsSegment := by
  unfold Obligations.DataTimeoutEndsSegment
  refine ⟨fun l s g t flight state => ⟨fun timer => ?_, fun timer empty found plain => ?_,
    fun timer empty found plain ready off others calm checkin sup e => ?_⟩, keyCheck_eq,
    fun l s g q t u st flight state timer queue found plain found' plain' distinct check => ?_,
    fun l s g t b p up suspect grace policy flight empty others key found plain wiping => ?_,
    fun l s g t b up flight empty others key acts relock rle shut found plain => ?_⟩
  · exact congrArg (fun x => Host.Outcome.next (settle x)) (expire_still (timedOut_false timer))
  · obtain ⟨traffic, idle, lanes, same, -⟩ := endRefused_ends (y := .dataTimeout) l empty found plain
    refine ⟨_, _, congrArg (fun x => Host.Outcome.next (settle x)) (expire_timedOut flight state timer), idle, lanes, same,
      by simp [reported_refused], by simp [reported_processed], reported_firstRefusal, traffic.keys, traffic.bands, traffic.w,
      traffic.ks⟩
  · obtain ⟨traffic, idle, lanes, same, -⟩ := endRefused_ends (y := .dataTimeout) l empty found plain
    have calm' : theft (endRefused l g .dataTimeout s) ≠ .suspect := by rw [theft, traffic.w]; exact calm
    obtain ⟨w, ks, -⟩ := ticked_resting sup e calm'
    have ticks (k : LaneId) : lane k (ticked sup e (endRefused l g .dataTimeout s)) =
        laneTick (lane k (endRefused l g .dataTimeout s)) := by
      rw [ticked_frame]
      cases k <;> rfl
    refine ⟨_, reported (g.count - g.done) (sectorAddress g g.done) (some .dataTimeout) t,
      exec_tick_timeout flight state timer empty found plain ready off others calm checkin sup e, ?_,
      fun k hk => ?_, fun i => ?_, ?_, ?_, ?_, reported_firstRefusal, ?_, ?_, w.trans traffic.w, ks.trans traffic.ks⟩
    · rw [ticks, idle]
      rfl
    · rw [ticks, lanes k hk]
    · rw [ticked_backoff, backoffOf, traffic.backoff]
      rfl
    · rw [ticked_frame]
      exact same
    · simp [reported_refused]
    · simp [reported_processed]
    · rw [ticked_frame]
      exact traffic.keys
    · rw [ticked_frame]
      exact traffic.bands
  · obtain ⟨traffic, idle, first, second⟩ := endRefused_queued (y := .dataTimeout) queue found plain found' plain' distinct check
    refine ⟨_, _, _, congrArg (fun x => Host.Outcome.next (settle x)) (expire_timedOut flight state timer), idle, first,
      by simp [reported_refused], by simp [reported_processed], reported_firstRefusal, second, by simp [reported_refused],
      by simp [reported_processed], reported_firstRefusal, traffic.keys, traffic.bands, traffic.w, traffic.ks⟩
  · have orders := wiping.noOrders (by simp [suspect])
    obtain ⟨idle, ended⟩ := enterAlarm_ends policy flight empty others key found plain
    obtain ⟨-, -, -, -, -, -, -, shut, which⟩ := enterAlarm_enters policy orders
    refine ⟨_, _, congrArg (fun x => Host.Outcome.next (settle x)) (expireGrace_due suspect grace), (shut b).2.2, idle, ended,
      by simp [reported_refused], by simp [reported_processed], fun action => ?_, fun action => ?_⟩
    · rw [action] at which ⊢
      exact ⟨which.1, reported_firstRefusal⟩
    · rw [action] at which ⊢
      exact ⟨which.1, reported_firstRefusal⟩
  · have on := sidebandOn_of_linkUp up
    have running : starting (pointAfter 7 s) = false := by rw [starting_pointAfter, up]; rfl
    have event : eventWrite 1 (pointAfter 7 s) = lanesReact (Machine.relock .suspend (pointAfter 7 s)) := by
      rw [eventWrite, running]
      rfl
    obtain ⟨-, -, locked⟩ := lockBands_locked (relocks (pointAfter 7 s) .suspend) (pointAfter 7 s)
    have absent : present (Machine.relock .suspend (pointAfter 7 s)) (.band b) = false := by
      have this := locked b
      rw [if_pos (by simp only [Bool.and_eq_true]; exact ⟨relock, acts⟩)] at this
      rw [present, Machine.relock, this.2.2.2 rle shut]
      rfl
    have allowed : barred s = false := by
      simp only [lockActs, Bool.and_eq_true, Bool.not_eq_true'] at acts
      exact acts.1.1.1
    have check : keyCheck (Machine.relock .suspend (pointAfter 7 s)) g.key g.epoch = some .locked := by
      simp only [barred, Bool.or_eq_false_iff, decide_eq_false_iff_not] at allowed
      rw [key, keyCheck_absent _ absent]
      exact (if_neg allowed.1).trans (if_neg allowed.2)
    obtain ⟨traffic, idle, -, same, -⟩ := lanesReact_ends (core := Machine.relock .suspend (pointAfter 7 s)) (s := s) rfl rfl rfl
      flight empty others check found plain
    refine ⟨_, _, (execSuspend_on on).trans (congrArg Host.Outcome.next event), ?_, idle, same, by simp [reported_refused],
      by simp [reported_processed], reported_firstRefusal, traffic.w, traffic.ks⟩
    unfold present entry at absent ⊢
    rw [traffic.keys]
    exact absent

end

/-! # What a lost tether changes -/

/-! ## The filter changes to LOST -/

section

variable {c s t x : State} {p : Policy} {sup g : Bool}

/-- The state of a lost tether before TETHER asserts: the filter LOST, and its bands locked. -/
def filterLost (c : State) : State := { c with twu := { c.twu with tetherLost := true, tetherRun := 0 } }

/-- What the lanes do at the relock of a lost tether. -/
def tetherRelock (c : State) : State := lanesReact (relock .tetherLost (filterLost c))

theorem loseTether_eq (c : State) : loseTether c = assertIndicator .tether (tetherRelock c) := rfl

/-- A relock that moves no lane of a wipe: no order is open, or the lanes stand as the last change of keys left them. -/
def LanesCalm (c : State) : Prop := noOrders c = true ∨ (theft c = .wiping ∧ LanesSettled c)

theorem laneReact_settled {l : LaneId}
    (h : match (lane l c).inFlight with
      | some g => keyCheck c g.key g.epoch = none
      | none => (lane l c).queue = []) : laneReact l c = c := by
  unfold laneReact
  cases flight : (lane l c).inFlight with
  | none =>
    rw [flight] at h
    have empty : (lane l c).queue = [] := h
    simp [empty]
  | some g =>
    rw [flight] at h
    have check : keyCheck c g.key g.epoch = none := h
    simp [check]

theorem lanesReact_settled (h : LanesSettled c) : lanesReact c = c := by
  unfold lanesReact
  rw [laneReact_settled (h .a), laneReact_settled (h .b)]

theorem LanesSettled.congr (h : LanesSettled s) (laneA : t.laneA = s.laneA) (laneB : t.laneB = s.laneB)
    (keys : t.keys = s.keys) (watch : t.w = s.w) : LanesSettled t := by
  intro l
  have settled := h l
  have same : lane l t = lane l s := lane_of_eq l laneA laneB
  have check (k : KeyName) (e : BitVec 32) : keyCheck t k e = keyCheck s k e := by
    have entries : entry t k = entry s k := by
      unfold entry
      rw [keys]
    unfold keyCheck present theft
    rw [entries, watch]
  cases flight : (lane l s).inFlight with
  | none =>
    rw [same, flight]
    rw [flight] at settled
    exact settled
  | some g =>
    rw [same, flight]
    rw [flight] at settled
    exact (check g.key g.epoch).trans settled

/-- In ALARM and WIPING a lock changes nothing. -/
theorem lockBands_barred (sel : BandId → Bool) (h : barred c = true) : lockBands sel c = c := by
  have pair : (fun b => if sel b then lockPair c b else bandPair c b) = bandPair c := by
    funext b
    split
    · exact lockPair_of_stays b (by simp [lockActs, h])
    · rfl
  have flags : (tab16 fun b => (bandPair c b).1) = c.bands := tab16_get _
  have keys : (tab16 fun b => (bandPair c b).2) = c.keys.bands := tab16_get _
  unfold lockBands
  rw [pair, tabBands, flags, keys]

theorem tetherRelock_settled (wiping : theft c = .wiping) (settled : LanesSettled c) : tetherRelock c = filterLost c := by
  have still : relock .tetherLost (filterLost c) = filterLost c := by
    refine lockBands_barred _ ?_
    simp only [barred, Bool.or_eq_true, decide_eq_true_eq]
    exact .inr wiping
  rw [tetherRelock, still]
  exact lanesReact_settled (settled.congr rfl rfl rfl rfl)

theorem tetherRelock_traffic (calm : LanesCalm c) : TrafficOnly (relock .tetherLost (filterLost c)) (tetherRelock c) := by
  rcases calm with orders | ⟨wiping, settled⟩
  · exact lanesReact_traffic (s := relock .tetherLost (filterLost c)) orders
  · have still : relock .tetherLost (filterLost c) = filterLost c := by
      refine lockBands_barred _ ?_
      simp only [barred, Bool.or_eq_true, decide_eq_true_eq]
      exact .inr wiping
    rw [tetherRelock_settled wiping settled, still]
    exact .refl _

/-- The relock of a lost tether touches the filter, the bands, the lanes, the records and the outbound queue alone. -/
theorem tetherRelock_frame (calm : LanesCalm c) : tetherRelock c =
    { filterLost c with
      bands := (tetherRelock c).bands, keys := { c.keys with bands := (tetherRelock c).keys.bands },
      dq := (tetherRelock c).dq, laneA := (tetherRelock c).laneA, laneB := (tetherRelock c).laneB,
      link := { c.link with outbound := (tetherRelock c).link.outbound } } := by
  have frame := tetherRelock_traffic calm
  unfold TrafficOnly at frame
  rw [frame]
  rfl

theorem tetherRelock_noOrders (calm : LanesCalm c) : noOrders (tetherRelock c) = noOrders c := by
  rw [tetherRelock_frame calm]
  rfl

theorem TetherRelocked.keep (h : TetherRelocked s t) (bands : x.bands = t.bands) (keys : x.keys = t.keys) :
    TetherRelocked s x := by
  unfold TetherRelocked flags entry at *
  rw [bands, keys]
  exact h

/-- What the relocks of a lost tether depend on. -/
theorem TetherRelocked.congr (h : TetherRelocked c x) (w : s.w = c.w) (bands : s.bands = c.bands) (keys : s.keys = c.keys) :
    TetherRelocked s x := by
  unfold TetherRelocked lockPair lockActs hasSecret barred theft record bandPair flags entry at *
  rw [w, bands, keys]
  exact h

theorem tetherRelock_relocked (calm : LanesCalm c) : TetherRelocked c (tetherRelock c) := by
  have traffic := tetherRelock_traffic calm
  refine TetherRelocked.keep (t := relock .tetherLost (filterLost c)) (fun b => ?_) traffic.bands traffic.keys
  unfold relock lockBands
  rw [flags_tabBands, entry_tabBands]
  show (if (record c b).relock.getLsbD 3 = true then lockPair c b else bandPair c b) = _
  split <;> rfl

theorem loseTether_still (calm : LanesCalm c) (h : (theft c ≠ .armed ∧ theft c ≠ .suspect) ∨ enabled c .tether = false ∨
    (theft c = .suspect ∧ c.w.watch.cause = some .tether)) : loseTether c = tetherRelock c := by
  have w : (tetherRelock c).w = c.w := by rw [tetherRelock_frame calm]; rfl
  rw [loseTether_eq]
  rcases h with ⟨armed, suspect⟩ | off | ⟨suspect, cause⟩
  · exact assertIndicator_still _ (by rw [theft, w]; exact armed) (by rw [theft, w]; exact suspect)
  · exact assertIndicator_disabled _ (by rw [enabled, w]; exact off)
  · exact assertIndicator_cause _ (by rw [theft, w]; exact suspect) (by rw [w]; exact cause)

theorem loseTether_suspects (calm : LanesCalm c) (policy : c.w.watch.policy = some p) (on : inSet p.enabled .tether = true)
    (armed : theft c = .armed) (grace : p.graceSeconds ≠ 0) : loseTether c = suspected .tether p (tetherRelock c) := by
  have w : (tetherRelock c).w = c.w := by rw [tetherRelock_frame calm]; rfl
  rw [loseTether_eq]
  exact assertIndicator_suspects (by rw [w]; exact policy) on (by rw [theft, w]; exact armed) grace

theorem loseTether_alarms (calm : LanesCalm c) (policy : c.w.watch.policy = some p) (on : inSet p.enabled .tether = true)
    (h : (theft c = .armed ∧ p.graceSeconds = 0) ∨ (theft c = .suspect ∧ c.w.watch.cause ≠ some .tether)) :
    loseTether c = enterAlarm (tetherRelock c) := by
  have w : (tetherRelock c).w = c.w := by rw [tetherRelock_frame calm]; rfl
  rw [loseTether_eq]
  refine assertIndicator_alarms (by rw [w]; exact policy) on ?_
  rw [theft, w]
  exact h

theorem LanesCalm.noOrders (calm : LanesCalm c) (h : theft c ≠ .wiping) : noOrders c = true :=
  calm.resolve_right fun k => h k.1

theorem loseTether_watch (calm : LanesCalm c) : WatchOnly (tetherRelock c) (loseTether c) := by
  by_cases wiping : theft c = .wiping
  · rw [loseTether_still calm (.inl ⟨by simp [wiping], by simp [wiping]⟩)]
    exact .refl _
  · exact assertIndicator_watch _ ((tetherRelock_noOrders calm).trans (calm.noOrders wiping))

theorem loseTether_enters (calm : LanesCalm c) (policy : c.w.watch.policy = some p) (on : inSet p.enabled .tether = true)
    (h : (theft c = .armed ∧ p.graceSeconds = 0) ∨ (theft c = .suspect ∧ c.w.watch.cause ≠ some .tether)) :
    EntersAlarm p c (loseTether c) ∧ theft (loseTether c) ≠ .armed ∧ theft (loseTether c) ≠ .suspect := by
  have frame := tetherRelock_frame calm
  have orders : noOrders (tetherRelock c) = true :=
    (tetherRelock_noOrders calm).trans (calm.noOrders (by rcases h with k | k <;> simp [k.1]))
  have policy' : (tetherRelock c).w.watch.policy = some p := by rw [frame]; exact policy
  rw [loseTether_alarms calm policy on h]
  refine ⟨(enterAlarm_enters policy' orders).congr ?_ ?_ ?_ ?_ ?_, theft_enterAlarm policy' orders⟩ <;> rw [frame] <;> rfl

/-! ## Samples of the meter -/

theorem meterCycles_counts {n : Nat} (on : c.twu.meterOn = true) (below : c.twu.meterCount + n < 65535) :
    meterCycles n c = setMeter (c.twu.meterCount + n) c := by
  unfold meterCycles
  rw [if_pos on, if_neg (by show ¬ 65535 ≤ _; omega)]

theorem meterCycles_fills {n : Nat} (on : c.twu.meterOn = true) (full : 65535 ≤ c.twu.meterCount + n) :
    meterCycles n c = sampleTether false (setMeter (c.twu.meterCount + n - 65535) c) := by
  unfold meterCycles
  rw [if_pos on, if_pos (by exact full)]
  rfl

theorem sampleTether_agrees {good : Bool} (h : good ≠ c.twu.tetherLost) :
    sampleTether good c = { c with twu := { c.twu with tetherRun := 0 } } := if_neg h

theorem sampleTether_raises {good : Bool} (h : good = c.twu.tetherLost) (more : c.twu.tetherRun + 1 < c.w.config.filterLength) :
    sampleTether good c = { c with twu := { c.twu with tetherRun := c.twu.tetherRun + 1 } } := by
  unfold sampleTether
  rw [if_pos h, if_neg (by omega)]

theorem sampleTether_loses {good : Bool} (h : good = c.twu.tetherLost) (full : c.w.config.filterLength ≤ c.twu.tetherRun + 1)
    (present : c.twu.tetherLost = false) : sampleTether good c = loseTether c := by
  unfold sampleTether
  rw [if_pos h, if_pos full, present]
  rfl

theorem sampleTether_regains {good : Bool} (h : good = c.twu.tetherLost) (full : c.w.config.filterLength ≤ c.twu.tetherRun + 1)
    (lost : c.twu.tetherLost = true) : sampleTether good c = regainTether c := by
  unfold sampleTether
  rw [if_pos h, if_pos full, lost]
  rfl

theorem TickCounted.congr {u v : WatchUnit} (h : TickCounted c x u) (w : s.w = c.w) (ks : s.ks = c.ks) (unit : v = u) :
    TickCounted s x v := by
  subst unit
  unfold TickCounted theft at *
  rw [w, ks]
  exact h

end

/-! # The tether meter and its samples -/

section

variable {c s : State} {p : Policy} {sup g : Bool}

theorem lanesCalm (h : ScrubInWiping s) (wiping : theft s = .wiping → noOrders s = true ∨ LanesSettled s) : LanesCalm s := by
  by_cases ht : theft s = .wiping
  · exact (wiping ht).imp_right fun k => ⟨ht, k⟩
  · exact .inl (h.noOrders ht)

/-- The state in which the filter takes a sample: the meter's counter and the divider alone have moved. -/
def metered (d n : Nat) (s : State) : State := { s with divider := d, twu := { s.twu with meterCount := n } }

theorem LanesCalm.metered (h : LanesCalm s) (d n : Nat) : LanesCalm (metered d n s) :=
  h.imp id fun k => ⟨k.1, k.2.congr rfl rfl rfl rfl⟩

/-- A change of the watch keeps the tether filter, the meter and the divider. -/
theorem WatchOnly.metering {t : State} (h : WatchOnly s t) : t.twu.tetherLost = s.twu.tetherLost ∧
    t.twu.tetherRun = s.twu.tetherRun ∧ t.twu.meterCount = s.twu.meterCount ∧ t.divider = s.divider := by
  rw [h.frame]
  exact ⟨rfl, rfl, rfl, rfl⟩

theorem loseTether_ticking (calm : LanesCalm c) : (loseTether c).mode = c.mode ∧
    (loseTether c).twu.tamperOpen = c.twu.tamperOpen ∧ (loseTether c).backoff = c.backoff := by
  obtain ⟨mode, tamper, -, backoff⟩ := (loseTether_watch calm).ticking
  rw [mode, tamper, backoff, tetherRelock_frame calm]
  exact ⟨rfl, rfl, rfl⟩

theorem loseTether_filter (calm : LanesCalm c) : (loseTether c).twu.tetherLost = true ∧
    (loseTether c).twu.tetherRun = 0 ∧ (loseTether c).twu.meterCount = c.twu.meterCount ∧
    (loseTether c).divider = c.divider := by
  obtain ⟨lost, run, count, divider⟩ := (loseTether_watch calm).metering
  rw [lost, run, count, divider, tetherRelock_frame calm]
  exact ⟨rfl, rfl, rfl, rfl⟩

theorem sampleTether_ticking (calm : LanesCalm c) : (sampleTether false c).mode = c.mode ∧
    (sampleTether false c).twu.tamperOpen = c.twu.tamperOpen ∧ (sampleTether false c).backoff = c.backoff := by
  cases lost : c.twu.tetherLost with
  | true =>
    rw [sampleTether_agrees (by simp [lost])]
    exact ⟨rfl, rfl, rfl⟩
  | false =>
    rcases Nat.lt_or_ge (c.twu.tetherRun + 1) c.w.config.filterLength with h | h
    · rw [sampleTether_raises lost.symm h]
      exact ⟨rfl, rfl, rfl⟩
    · rw [sampleTether_loses lost.symm h lost]
      exact loseTether_ticking calm

/-! ## TICK -/

/-- Nothing but the meter's count stands behind a tick. -/
structure MeteredTick (s : State) : Prop where
  ready : s.mode = .ready
  on : s.twu.meterOn = true
  laneA : timedOut .a s = false
  laneB : timedOut .b s = false
  idle : CheckinIdle s
  grace : theft s = .suspect → 0 < s.twu.grace
  calm : LanesCalm s

theorem MeteredTick.meter (h : MeteredTick s) : tickMeter s = meterCycles (32 - s.divider) s := by
  rw [tickMeter, takeDue_still h.laneA h.laneB h.grace h.idle]
  rfl

theorem MeteredTick.counts (h : MeteredTick s) (below : s.twu.meterCount + (32 - s.divider) < 65535) :
    tickMeter s = setMeter (s.twu.meterCount + (32 - s.divider)) s := by
  rw [h.meter, meterCycles_counts h.on below]

theorem MeteredTick.fills {n : Nat} (h : MeteredTick s) (full : 65535 ≤ s.twu.meterCount + (32 - s.divider))
    (left : s.twu.meterCount + (32 - s.divider) - 65535 = n) :
    tickMeter s = sampleTether false (metered s.divider n s) := by
  rw [h.meter, meterCycles_fills h.on full, left]
  rfl

theorem MeteredTick.ticking (h : MeteredTick s) : (tickMeter s).mode = s.mode ∧
    (tickMeter s).twu.tamperOpen = s.twu.tamperOpen ∧ (tickMeter s).backoff = s.backoff := by
  rcases Nat.lt_or_ge (s.twu.meterCount + (32 - s.divider)) 65535 with below | full
  · rw [h.counts below]
    exact ⟨rfl, rfl, rfl⟩
  · obtain ⟨n, left⟩ : ∃ n, s.twu.meterCount + (32 - s.divider) - 65535 = n := ⟨_, rfl⟩
    rw [h.fills full left]
    exact sampleTether_ticking (h.calm.metered s.divider n)

/-- A tick in which the filter is lost, by what it makes of the watch. -/
theorem ticked_loses (sup g : Bool) (calm : LanesCalm c) :
    (ticked sup g (loseTether c)).twu.tetherLost = true ∧ (ticked sup g (loseTether c)).twu.tetherRun = 0 ∧
    (ticked sup g (loseTether c)).twu.meterCount = c.twu.meterCount ∧
    ((theft c ≠ .armed ∧ theft c ≠ .suspect) ∨ enabled c .tether = false ∨
        (theft c = .suspect ∧ c.w.watch.cause = some .tether) →
      TickCounted c (ticked sup g (loseTether c)) { c.twu with tetherLost := true, tetherRun := 0 } ∧
      TetherRelocked c (ticked sup g (loseTether c))) ∧
    ∀ p : Policy, c.w.watch.policy = some p → inSet p.enabled .tether = true →
      (theft c = .armed → p.graceSeconds ≠ 0 →
        (ticked sup g (loseTether c)).twu = { c.twu with
          tetherLost := true, tetherRun := 0, tamperOpposite := false, grace := p.graceSeconds * 1024 - 1,
          counter := min (c.twu.counter + 1) Config.counterTop } ∧
        (ticked sup g (loseTether c)).w = { c.w with watch := { c.w.watch with
          theft := .suspect, cause := some .tether, graceSeconds := p.graceSeconds } } ∧
        Carried watchPage (ticked sup g (loseTether c)) ∧
        Announced (.state .suspect none) c (ticked sup g (loseTether c)) ∧
        TetherRelocked c (ticked sup g (loseTether c))) ∧
      ((theft c = .armed ∧ p.graceSeconds = 0) ∨ (theft c = .suspect ∧ c.w.watch.cause ≠ some .tether) →
        EntersAlarm p c (ticked sup g (loseTether c))) := by
  obtain ⟨twu, -⟩ := ticked_counted sup g (loseTether c)
  obtain ⟨lost, run, count, -⟩ := loseTether_filter calm
  have frame := tetherRelock_frame calm
  refine ⟨by rw [twu]; exact lost, by rw [twu]; exact run, by rw [twu]; exact count, fun still => ?_,
    fun p policy on => ⟨fun armed grace => ?_, fun alarms => ?_⟩⟩
  · rw [loseTether_still calm still]
    refine ⟨(ticked_counted sup g (tetherRelock c)).congr ?_ ?_ ?_, (tetherRelock_relocked calm).keep ?_ ?_⟩
    · rw [frame]
      rfl
    · rw [frame]
      rfl
    · rw [frame]
      rfl
    · rw [ticked_frame]
    · rw [ticked_frame]
  · rw [loseTether_suspects calm policy on armed grace]
    obtain ⟨w, ks, unit⟩ := ticked_suspected (s := tetherRelock c) (u := tetherRelock c) (p := p) sup g .tether rfl
    obtain ⟨-, -, -, carried, -, -, -, -, told⟩ := suspected_enters .tether p (tetherRelock c)
    refine ⟨?_, ?_, carried.keep w ks, fun up => ?_, (tetherRelock_relocked calm).keep ?_ ?_⟩
    · rw [unit, frame]
      rfl
    · rw [w, suspected_frame, frame]
      rfl
    · rw [ticked_frame]
      exact told ((linkUp_congr (by rw [frame]; rfl)).trans up)
    · rw [ticked_frame, suspected_frame]
    · rw [ticked_frame, suspected_frame]
  · obtain ⟨enters, calm'⟩ := loseTether_enters calm policy on alarms
    exact enters.keep (ticked_watchAfter sup g calm')

/-! ## TETHER_EDGE and TETHER_OVERFLOW -/

theorem passCycles_below {cycle : Nat} (on : s.twu.meterOn = true) (from' : s.divider ≤ cycle) (upto : cycle < 32)
    (below : s.twu.meterCount + (cycle - s.divider) < 65535) :
    passCycles cycle s = metered cycle (s.twu.meterCount + (cycle - s.divider)) s := by
  have low : min cycle Config.cyclesPerTick = cycle := Nat.min_eq_left (by show cycle ≤ 32; omega)
  have high : max s.divider cycle = cycle := Nat.max_eq_right from'
  unfold passCycles
  rw [low, high]
  exact meterCycles_counts (c := { s with divider := cycle }) on below

theorem exec_tetherEdge {cycle : Nat} (ready : s.mode = .ready) (on : s.twu.meterOn = true) (from' : s.divider ≤ cycle)
    (upto : cycle < 32) (below : s.twu.meterCount + (cycle - s.divider) < 65535) :
    exec (.tetherEdge cycle) s = .next (settle (meterEdge (metered cycle (s.twu.meterCount + (cycle - s.divider)) s))) := by
  have run : exec (.tetherEdge cycle) s = .next (settle (meterEdge (passCycles cycle s))) := if_neg (by simp [ready])
  rw [run, passCycles_below on from' upto below]

/-- A later edge: the cycles since the edge before are a sample. -/
theorem exec_edge_samples {cycle : Nat} (ready : s.mode = .ready) (on : s.twu.meterOn = true) (later : s.twu.meterFirst = false)
    (from' : s.divider ≤ cycle) (upto : cycle < 32) (below : s.twu.meterCount + (cycle - s.divider) < 65535) :
    exec (.tetherEdge cycle) s =
      .next (settle (sampleTether (goodSample s (s.twu.meterCount + (cycle - s.divider))) (metered cycle 0 s))) := by
  rw [exec_tetherEdge ready on from' upto below]
  refine congrArg (fun x => Host.Outcome.next (settle x)) ?_
  exact (if_pos on).trans (if_neg (by simp [metered, later]))

/-- A starting edge yields no sample. -/
theorem exec_edge_starts {cycle : Nat} (ready : s.mode = .ready) (on : s.twu.meterOn = true) (first : s.twu.meterFirst = true)
    (from' : s.divider ≤ cycle) (upto : cycle < 32) (below : s.twu.meterCount + (cycle - s.divider) < 65535) :
    exec (.tetherEdge cycle) s =
      .next (settle { s with divider := cycle, twu := { s.twu with meterFirst := false, meterCount := 0 } }) := by
  rw [exec_tetherEdge ready on from' upto below]
  refine congrArg (fun x => Host.Outcome.next (settle x)) ?_
  exact (if_pos on).trans (if_pos first)

theorem exec_overflow (on : s.twu.meterOn = true) (due : 65535 ≤ s.twu.meterCount + (32 - s.divider)) :
    exec .tetherOverflow s =
      .next (settle (sampleTether false (metered (s.divider + (65535 - s.twu.meterCount)) 0 s))) := by
  refine congrArg (fun x => Host.Outcome.next (settle x)) (if_pos ?_)
  unfold overflowDue
  rw [on]
  exact decide_eq_true due

theorem deassertIndicator_still' {y : State} {i : Indicator}
    (h : theft y ≠ .suspect ∨ enabled y i = false ∨ anyAsserted y = true) : deassertIndicator i y = y := by
  rcases h with h | h | h
  · exact deassertIndicator_still i h
  · exact if_neg (by simp [h])
  · unfold deassertIndicator
    rw [suspectCheck_asserted h, ite_self]

/-- Settles O19. -/
theorem tetherMeterSamples : Obligations.TetherMeterSamples := by
  unfold Obligations.TetherMeterSamples
  refine ⟨fun sup g s ready on a b idle grace divider wiping lanes => ?_,
    fun cycle s ready on from' upto below => ⟨fun first => exec_edge_starts ready on first from' upto below,
      fun later good => ?_, fun later bad more => ?_⟩,
    fun cycle s y ready on later from' upto below lost good full hy => ⟨fun still => ?_, fun suspect enabled' clear wiping => ?_⟩,
    fun c d s ready on present full below wiping lanes command => ?_⟩
  · have tick : MeteredTick s := ⟨ready, on, a, b, idle, grace, lanesCalm wiping lanes⟩
    obtain ⟨mode, tamper, backoff⟩ := tick.ticking
    refine ⟨_, exec_tick_agrees ready (mode.trans ready) tamper, ?_, ?_, fun i => ?_, fun below => ?_, fun u full hu => ?_⟩
    · rw [ticked_frame]
    · rw [ticked_frame]
    · rw [ticked_backoff, backoffOf, backoff]
      rfl
    · rw [tick.counts below]
      refine ⟨(ticked_counted sup g _).congr rfl rfl rfl, ?_, ?_, ?_, ?_, ?_, ?_⟩ <;> rw [ticked_frame] <;> rfl
    · obtain ⟨n, left⟩ : ∃ n, s.twu.meterCount + (32 - s.divider) - 65535 = n := ⟨_, rfl⟩
      rw [left] at hu
      subst hu
      rw [tick.fills full left]
      refine ⟨fun lost => ?_, fun present more => ?_, fun present filled => ?_⟩
      · rw [sampleTether_agrees (by simp [metered, lost])]
        refine ⟨(ticked_counted sup g _).congr rfl rfl rfl, ?_, ?_⟩ <;> rw [ticked_frame] <;> rfl
      · rw [sampleTether_raises (c := metered _ n s) present.symm more]
        refine ⟨(ticked_counted sup g _).congr rfl rfl rfl, ?_, ?_⟩ <;> rw [ticked_frame] <;> rfl
      · rw [sampleTether_loses (c := metered _ n s) present.symm filled present]
        obtain ⟨lost, run, count, still, moves⟩ := ticked_loses sup g (tick.calm.metered s.divider n)
        refine ⟨lost, run, count, fun h => ?_, fun p policy on => ⟨fun armed grace => ?_, fun alarms => ?_⟩⟩
        · obtain ⟨counted, relocked⟩ := still h
          exact ⟨counted.congr rfl rfl rfl, relocked.congr rfl rfl rfl⟩
        · obtain ⟨twu, w, carried, told, relocked⟩ := (moves p policy on).1 armed grace
          exact ⟨twu, w, carried, told, relocked.congr rfl rfl rfl⟩
        · exact ((moves p policy on).2 alarms).congr rfl rfl rfl rfl rfl
  · rw [exec_edge_samples ready on later from' upto below, sampleTether_agrees (by exact good)]
    rfl
  · rw [exec_edge_samples ready on later from' upto below, sampleTether_raises (by exact bad) (by exact more)]
    rfl
  · have regains : exec (.tetherEdge cycle) s = .next (settle (regainTether (metered cycle 0 s))) := by
      rw [exec_edge_samples ready on later from' upto below, good, sampleTether_regains (c := metered cycle 0 s) lost.symm full lost]
    rw [regains, hy]
    refine congrArg (fun x => Host.Outcome.next (settle x)) (deassertIndicator_still' ?_)
    subst hy
    exact still
  · have regains : exec (.tetherEdge cycle) s = .next (settle (regainTether (metered cycle 0 s))) := by
      rw [exec_edge_samples ready on later from' upto below, good, sampleTether_regains (c := metered cycle 0 s) lost.symm full lost]
    have arms : regainTether (metered cycle 0 s) = changeTheft .armed y := by
      subst hy
      exact (if_pos enabled').trans (suspectCheck_clear suspect clear)
    have suspect' : theft y = .suspect := by
      subst hy
      exact suspect
    have orders : noOrders y = true := by
      subst hy
      exact wiping.noOrders (by simp [suspect])
    obtain ⟨⟨watch, carried, told⟩, keys, bands⟩ := changeTheft_armed suspect' orders
    have divider := (changeTheft_watch .armed orders).metering.2.2.2
    have twu := changeTheft_twu .armed orders
    rw [arms] at regains
    subst hy
    exact ⟨_, regains, ⟨watch, carried, told⟩, divider, twu, bands, keys⟩
  · have run : exec c s = .next (settle (loseTether (metered d 0 s))) := by
      rcases command with ⟨rfl, due, rfl⟩ | ⟨rfl, later, from', upto, below', bad⟩
      · rw [exec_overflow on due, sampleTether_loses (by exact present.symm) (by exact full) (by exact present)]
      · rw [exec_edge_samples ready on later from' upto below', bad,
          sampleTether_loses (by exact present.symm) (by exact full) (by exact present)]
    have calm : LanesCalm (metered d 0 s) := (lanesCalm wiping lanes).metered d 0
    obtain ⟨lost, ran, count, divider⟩ := loseTether_filter calm
    have frame := tetherRelock_frame calm
    refine ⟨_, run, divider, lost, ran, count, fun still => ?_, fun ht settled => ?_,
      fun p policy on => ⟨fun armed grace => ?_, fun alarms => ?_⟩⟩
    · rw [loseTether_still calm still]
      refine ⟨?_, ?_, ?_, (tetherRelock_relocked calm).congr rfl rfl rfl⟩ <;> rw [frame] <;> rfl
    · have settled' : LanesSettled (metered d 0 s) := settled.congr rfl rfl rfl rfl
      have ht' : theft (metered d 0 s) = .wiping := ht
      rw [loseTether_still calm (.inl ⟨by simp [ht'], by simp [ht']⟩), tetherRelock_settled ht' settled']
      rfl
    · rw [loseTether_suspects calm policy on armed grace]
      obtain ⟨-, -, -, carried, keys, bands, -, -, told⟩ := suspected_enters .tether p (tetherRelock (metered d 0 s))
      have up : linkUp (tetherRelock (metered d 0 s)) = true := by
        rw [frame]
        exact decide_eq_true ready
      refine ⟨?_, ?_, carried, (told up).1, (told up).2, ((tetherRelock_relocked calm).congr rfl rfl rfl).keep bands keys⟩
      · rw [suspected_frame, frame]
        rfl
      · rw [suspected_frame, frame]
        rfl
    · exact (loseTether_enters calm policy on alarms).1.congr rfl rfl rfl rfl rfl

end

/-! # LINK_RESET and the orders issued into empty slots -/

/-! ## Issuing into empty slots -/

section

variable {s t : State}

/-- The order that a slot is given when every slot is empty: they take up the addresses from the issue point in slot order. -/
def freshOrder (s : State) (i : OrderSlot) : Option Order :=
  if s.wipe.issuePoint + 256 * i.val < scrubEnd s then
    some { pass := s.w.plan.pass, first := s.wipe.issuePoint + 256 * i.val,
           count := min 256 (scrubEnd s - (s.wipe.issuePoint + 256 * i.val)), answered := false }
  else none

/-- The SCRUB_ORDER of a slot. -/
def orderMsg (i : OrderSlot) (o : Order) : OutMsg := .scrubOrder i o.pass o.first o.count

/-- The slots below `k` have been given their orders. -/
structure Issued (k : Nat) (s t : State) : Prop where
  frame : t = { s with wipe := { s.wipe with orders := t.wipe.orders, issuePoint := t.wipe.issuePoint },
                       link := { s.link with outbound := t.link.outbound } }
  point : t.wipe.issuePoint = max s.wipe.issuePoint (min (s.wipe.issuePoint + 256 * k) (scrubEnd s))
  orders : ∀ i : OrderSlot, t.wipe.orders.get i = if i.val < k then freshOrder s i else none
  outbound : t.link.outbound = s.link.outbound ++
    ((List.finRange 4).take k).filterMap fun i => (freshOrder s i).map (orderMsg i)

theorem take_finRange_succ : ∀ i : OrderSlot, (List.finRange 4).take (i.val + 1) = (List.finRange 4).take i.val ++ [i] := by
  decide

theorem issuePoint_next {p e : Nat} (k : Nat) (h : p + 256 * k < e) :
    p + 256 * k + min 256 (e - (p + 256 * k)) = max p (min (p + 256 * (k + 1)) e) := by omega

theorem Issued.next {i : OrderSlot} (h : Issued i.val s t) : Issued (i.val + 1) s (issueOne i t) := by
  obtain ⟨frame, point, orders, outbound⟩ := h
  have empty : t.wipe.orders.get i = none := by rw [orders, if_neg (by omega)]
  have left : scrubEnd t = scrubEnd s := by rw [frame]; rfl
  have pass : t.w.plan.pass = s.w.plan.pass := by rw [frame]
  by_cases more : s.wipe.issuePoint + 256 * i.val < scrubEnd s
  · have at' : t.wipe.issuePoint = s.wipe.issuePoint + 256 * i.val := by rw [point]; omega
    have order : nextOrder t = ⟨s.w.plan.pass, s.wipe.issuePoint + 256 * i.val,
        min 256 (scrubEnd s - (s.wipe.issuePoint + 256 * i.val)), false⟩ := by rw [nextOrder, pass, at', left]
    have fresh : freshOrder s i = some (nextOrder t) := by rw [freshOrder, if_pos more, order]
    rw [issueOne_empty empty (by rw [at', left]; exact more)]
    refine ⟨?_, ?_, fun j => ?_, ?_⟩
    · unfold given hand
      rw [frame]
    · show t.wipe.issuePoint + min 256 (scrubEnd t - t.wipe.issuePoint) = _
      rw [at', left]
      exact issuePoint_next _ more
    · rw [given_orders, orders]
      by_cases same : j = i
      · subst same
        rw [if_pos rfl, if_pos (by omega), fresh]
      · have other : j.val ≠ i.val := fun e => same (Fin.ext e)
        rw [if_neg same]
        exact if_congr (by omega) rfl rfl
    · rw [take_finRange_succ, List.filterMap_append, ← List.append_assoc, ← outbound]
      show t.link.outbound ++ _ = _
      rw [List.filterMap_cons, fresh, Option.map_some, List.filterMap_nil, orderMsg, order, pass, at', left]
  · have fresh : freshOrder s i = none := by rw [freshOrder, if_neg more]
    have still : issueOne i t = t := by
      unfold issueOne
      rw [empty]
      exact if_neg (by rw [point, left]; omega)
    rw [still]
    refine ⟨frame, by rw [point]; omega, fun j => ?_, ?_⟩
    · rw [orders]
      by_cases same : j = i
      · subst same
        rw [if_neg (by omega), if_pos (by omega), fresh]
      · have other : j.val ≠ i.val := fun e => same (Fin.ext e)
        exact if_congr (by omega) rfl rfl
    · rw [take_finRange_succ, List.filterMap_append, ← List.append_assoc, ← outbound]
      simp [fresh]

/-- With every slot empty, the four slots are given their orders. -/
theorem issueOrders_fresh (running : s.wipe.running = true) (up : linkUp s = true)
    (empty : ∀ i, s.wipe.orders.get i = none) : Issued 4 s (issueOrders s) := by
  have start : Issued 0 s s := ⟨rfl, by omega, fun i => by rw [empty, if_neg (by omega)], by simp⟩
  unfold issueOrders
  rw [running, up]
  exact (((start.next (i := 0)).next (i := 1)).next (i := 2)).next (i := 3)

/-! ## LINK_RESET -/

/-- The state of a LINK_RESET before its STATE message. -/
def resetBase (s : State) : State := resetMailbox (relock .linkReset { emptyLink s with coverPermit := false })

theorem linkReset_eq (s : State) : linkReset s = ordersReset (handState (resetBase s)) := rfl

theorem resetMailbox_frame (s : State) : resetMailbox s =
    { s with linkBox := (resetMailbox s).linkBox, link := { s.link with dropMark := (resetMailbox s).link.dropMark },
             engine := { s.engine with link := (resetMailbox s).engine.link } } := by
  unfold resetMailbox
  split
  · rfl
  · split <;> rfl

theorem resetBase_frame (s : State) : resetBase s =
    { s with
      dq := [], stu := Translation.idle, laneA := Lane.idle, laneB := Lane.idle, coverPermit := false,
      bands := (resetBase s).bands, keys := { s.keys with bands := (resetBase s).keys.bands }, linkBox := (resetBase s).linkBox,
      link := { outbound := [], inbound := [], dropMark := (resetBase s).link.dropMark, lastSent := s.link.lastSent },
      engine := { s.engine with link := (resetBase s).engine.link } } := by
  unfold resetBase
  rw [resetMailbox_frame]
  rfl

theorem resetBase_band (s : State) (b : BandId) : (flags (resetBase s) b, entry (resetBase s) (.band b)) =
    if (record s b).relock.getLsbD 2 then lockPair s b else (flags s b, entry s (.band b)) := by
  have pair : (flags (relock .linkReset { emptyLink s with coverPermit := false }) b,
      entry (relock .linkReset { emptyLink s with coverPermit := false }) (.band b)) =
      if (record s b).relock.getLsbD 2 then lockPair s b else (flags s b, entry s (.band b)) := by
    unfold relock lockBands
    rw [flags_tabBands, entry_tabBands]
    show (if (record s b).relock.getLsbD 2 = true then lockPair s b else bandPair s b) = _
    split <;> rfl
  rw [← pair, resetBase, resetMailbox_frame]
  rfl

theorem resetMailbox_none (h : s.linkBox = none) : resetMailbox s = s := by
  unfold resetMailbox
  rw [h]

theorem resetMailbox_started {x : Held} (h : s.linkBox = some x) (started : x.started = true) :
    resetMailbox s = { s with link := { s.link with dropMark := some x.env.id } } := by
  unfold resetMailbox
  rw [h]
  exact if_pos started

theorem resetMailbox_waiting {x : Held} (h : s.linkBox = some x) (waiting : x.started = false) :
    resetMailbox s = { s with engine := { s.engine with link := none }, linkBox := none } := by
  unfold resetMailbox
  rw [h]
  exact if_neg (by simp [waiting])

theorem resetBase_box (s : State) :
    match s.linkBox with
    | none => (resetBase s).linkBox = none ∧ (resetBase s).link.dropMark = s.link.dropMark ∧ (resetBase s).engine = s.engine
    | some h =>
      if h.started then (resetBase s).linkBox = some h ∧ (resetBase s).link.dropMark = some h.env.id ∧
        (resetBase s).engine = s.engine
      else (resetBase s).linkBox = none ∧ (resetBase s).link.dropMark = s.link.dropMark ∧
        (resetBase s).engine = { s.engine with link := none } := by
  obtain ⟨u, hu, mark, engine, base⟩ : ∃ u, u.linkBox = s.linkBox ∧ u.link.dropMark = s.link.dropMark ∧
      u.engine = s.engine ∧ resetBase s = resetMailbox u :=
    ⟨relock .linkReset { emptyLink s with coverPermit := false }, rfl, rfl, rfl, rfl⟩
  rw [base, ← hu, ← mark, ← engine]
  cases box : u.linkBox with
  | none =>
    rw [resetMailbox_none box]
    exact ⟨box, rfl, rfl⟩
  | some h =>
    cases started : h.started with
    | false =>
      rw [resetMailbox_waiting box started]
      dsimp only
      rw [if_neg (by simp [started])]
      exact ⟨rfl, rfl, rfl⟩
    | true =>
      rw [resetMailbox_started box started]
      dsimp only
      rw [if_pos started]
      exact ⟨box, rfl, rfl⟩

/-- The STATE message of a LINK_RESET stands alone. -/
theorem handState_resetBase (s : State) : (handState (resetBase s)).link.outbound = [.state (theft s) (shownCause s)] := by
  have msg : stateMsg (resetBase s) = .state (theft s) (shownCause s) := by
    rw [resetBase_frame]
    rfl
  have none : (resetBase s).link.outbound = [] := by rw [resetBase_frame]
  show placeState (stateMsg (resetBase s)) (resetBase s).link.outbound = _
  rw [msg, none]
  rfl

/-- The state in which a LINK_RESET issues: no order is open, and the issue point stands at the watermark. -/
def reissued (s : State) : State :=
  { handState (resetBase s) with wipe := { s.wipe with issuePoint := watermark s, orders := Vector.replicate 4 none } }

theorem linkReset_running (h : s.wipe.running = true) : linkReset s = issueOrders (reissued s) := by
  have wipe : (handState (resetBase s)).wipe = s.wipe := by rw [resetBase_frame]; rfl
  have low : watermark (handState (resetBase s)) = watermark s := by rw [resetBase_frame]; rfl
  rw [linkReset_eq, ordersReset, wipe, h, if_pos rfl, low]
  rfl

theorem linkReset_resting (h : s.wipe.running = false) : linkReset s =
    { handState (resetBase s) with wipe := { s.wipe with orders := Vector.replicate 4 none } } := by
  have wipe : (handState (resetBase s)).wipe = s.wipe := by rw [resetBase_frame]; rfl
  rw [linkReset_eq, ordersReset, wipe, h]
  rfl

theorem linkReset_frame (s : State) (up : linkUp s = true) : linkReset s = { handState (resetBase s) with
    wipe := (linkReset s).wipe,
    link := { (handState (resetBase s)).link with outbound := (linkReset s).link.outbound } } := by
  cases running : s.wipe.running with
  | false =>
    rw [linkReset_resting running]
  | true =>
    have issued := issueOrders_fresh (s := reissued s) running (by rw [reissued, resetBase_frame]; exact up)
      fun i => get_replicate _ i
    rw [linkReset_running running, issued.frame]
    rfl

/-- Settles O22. -/
theorem linkResetEndsTheLinksWork : Obligations.LinkResetEndsTheLinksWork := by
  unfold Obligations.LinkResetEndsTheLinksWork
  intro s up
  have run : exec .linkReset s = .next (settle (linkReset s)) := congrArg Host.Outcome.next (if_pos up)
  have frame := linkReset_frame s up
  have base := resetBase_frame s
  have said := handState_resetBase s
  have mode : (linkReset s).mode = .ready := by
    rw [frame, base]
    exact ready_of_linkUp up
  have orders (h : s.wipe.running = true) := issueOrders_fresh (s := reissued s) h
    (by rw [reissued, resetBase_frame]; exact up) fun i => get_replicate _ i
  have resting (h : s.wipe.running = false) (i : OrderSlot) : (linkReset s).wipe.orders.get i = none := by
    rw [linkReset_resting h]
    exact get_replicate _ i
  have running (h : s.wipe.running = true) (i : OrderSlot) : (linkReset s).wipe.orders.get i =
      if watermark s + 256 * i.val < scrubEnd s then
        some { pass := s.w.plan.pass, first := watermark s + 256 * i.val,
               count := min 256 (scrubEnd s - (watermark s + 256 * i.val)), answered := false }
      else none := by
    rw [linkReset_running h, (orders h).orders, if_pos i.isLt, freshOrder, reissued, resetBase_frame]
    rfl
  have emptied : (linkReset s).dq = [] ∧ (linkReset s).stu = Translation.idle ∧ (linkReset s).laneA = Lane.idle ∧
      (linkReset s).laneB = Lane.idle ∧ (linkReset s).link.inbound = [] ∧ (linkReset s).coverPermit = false := by
    rw [frame, base]
    exact ⟨rfl, rfl, rfl, rfl, rfl, rfl⟩
  have kept : (linkReset s).w = s.w ∧ (linkReset s).ks = s.ks ∧ (linkReset s).backoff = s.backoff ∧
      (linkReset s).twu = s.twu ∧ (linkReset s).psp = s.psp ∧ (linkReset s).sideBox = s.sideBox := by
    rw [frame, base]
    exact ⟨rfl, rfl, rfl, rfl, rfl, rfl⟩
  obtain ⟨dq, stu, laneA, laneB, inbound, permit⟩ := emptied
  obtain ⟨w, ks, backoff, twu, psp, side⟩ := kept
  refine ⟨_, run, dq, stu, laneA, laneB, inbound, permit, w, ks, backoff, twu, psp, side, mode, ?_, ?_, ?_, fun b => ?_, ?_, resting, running⟩
  · cases h : s.wipe.running with
    | false =>
      simp only [resting h]
      rw [linkReset_resting h]
      exact said
    | true =>
      have given (i : OrderSlot) : (linkReset s).wipe.orders.get i = freshOrder (reissued s) i := by
        rw [linkReset_running h, (orders h).orders, if_pos i.isLt]
      simp only [given]
      rw [linkReset_running h, (orders h).outbound]
      show (handState (resetBase s)).link.outbound ++ _ = _
      rw [said]
      rfl
  · rw [frame, base]
    rfl
  · rw [frame, base]
    rfl
  · rw [← resetBase_band, frame]
    rfl
  · have box := resetBase_box s
    have linkBox : (linkReset s).linkBox = (resetBase s).linkBox := by rw [frame]; rfl
    have mark : (linkReset s).link.dropMark = (resetBase s).link.dropMark := by rw [frame]; rfl
    have engine : (linkReset s).engine = (resetBase s).engine := by rw [frame]; rfl
    rw [linkBox, mark, engine]
    exact box

end

/-! # The checks that turn a request away -/

section

variable {s t : State} {p : Port} {body : Body}

/-! ## The mailbox's checks (R82) -/

theorem portAllows_side (token : ∀ y a, body ≠ .tokenUnlock y a) (wipe : ∀ y, body ≠ .remoteWipe y)
    (query : body ≠ .statusQuery) : portAllows .side body = false := by
  cases body
  case tokenUnlock y a => exact absurd rfl (token y a)
  case remoteWipe y => exact absurd rfl (wipe y)
  case statusQuery => exact absurd rfl query
  all_goals rfl

theorem portAllows_link_never (h : (∃ y a, body = .tokenUnlock y a) ∨ (∃ y, body = .remoteWipe y) ∨
    ∃ k, body = .undefined k) : portAllows .link body = false := by
  rcases h with ⟨y, a, rfl⟩ | ⟨y, rfl⟩ | ⟨k, rfl⟩ <;> rfl

/-- Every complete kind may come by one port; STATUS_QUERY by both. -/
theorem portAllows_whole (whole : complete body = true)
    (h : (p = .link ↔ (∀ y a, body ≠ .tokenUnlock y a) ∧ ∀ y, body ≠ .remoteWipe y) ∨ body = .statusQuery) :
    portAllows p body = true := by
  rcases h with h | rfl
  · cases p
    · obtain ⟨token, wipe⟩ := h.mp (Eq.refl Port.link)
      cases body
      case tokenUnlock y a => exact absurd rfl (token y a)
      case remoteWipe y => exact absurd rfl (wipe y)
      case undefined => cases whole
      all_goals rfl
    · have other : ¬((∀ y a, body ≠ .tokenUnlock y a) ∧ ∀ y, body ≠ .remoteWipe y) := fun hb => by cases h.mpr hb
      cases body
      case tokenUnlock | remoteWipe | statusQuery => rfl
      all_goals exact absurd ⟨by simp, by simp⟩ other
  · cases p <;> rfl

theorem mailboxCheck_port (h : portAllows p body = false) : mailboxCheck p body s = some .badArgument := by
  unfold mailboxCheck
  rw [if_pos (by simp [h])]

theorem mailboxCheck_incomplete (h : complete body = false) : mailboxCheck p body s = some .badArgument := by
  unfold mailboxCheck
  split
  · rfl
  · rw [if_pos (by simp [h])]

theorem passesInWiping_other (stop : ∀ y, body ≠ .scrubStop y) (query : body ≠ .statusQuery) :
    passesInWiping body = false := by
  cases body
  case scrubStop y => exact absurd rfl (stop y)
  case statusQuery => exact absurd rfl query
  all_goals rfl

theorem passesInWiping_these (h : (∃ y, body = .scrubStop y) ∨ body = .statusQuery) : passesInWiping body = true := by
  rcases h with ⟨y, rfl⟩ | rfl <;> rfl

/-! ## The parts that a kind requires (R82, R189) -/

theorem isSome_and_isSome {α β : Type} (x : Option α) (y : Option β) :
    (x.isSome && y.isSome) = true ↔ x ≠ none ∧ y ≠ none := by
  simp [Option.isSome_iff_ne_none]

theorem complete_unlock (n : Option Byte) (y : Option Secret) (a : Option UnlockArgs) :
    complete (.unlock n y a) = true ↔ (∃ m, n = some m ∧ m.toNat ≤ 7) ∧ y ≠ none ∧ a ≠ none := by
  simp [complete, Option.any_eq_true, Option.isSome_iff_ne_none, and_assoc]

theorem complete_grant (y : Option Secret) (a : Option RowArgs) (n : Option Secret) :
    complete (.grant y a n) = true ↔ y ≠ none ∧ a ≠ none ∧ n ≠ none := by
  simp [complete, Option.isSome_iff_ne_none, and_assoc]

/-! ## The owners' checks -/

theorem not_bandsOk_iff (v : BitVec 32) : (!bandsOk v) = true ↔ v = 0 ∨ 65536 ≤ v.toNat := by
  simp only [bandsOk, inRange, Bool.not_and, Bool.or_eq_true, Bool.not_eq_true', decide_eq_false_iff_not, not_not, Nat.not_lt]

theorem unlockCheck_eq (a : UnlockArgs) : unlockCheck a =
    if a.bands = 0 ∨ 65536 ≤ a.bands.toNat ∨ a.directions = 0 ∨ 4 ≤ a.directions.toNat then some .badArgument else none := by
  unfold unlockCheck
  refine if_congr ?_ rfl rfl
  rw [Bool.or_eq_true, Bool.or_eq_true, not_bandsOk_iff, decide_eq_true_iff, decide_eq_true_iff, or_assoc, or_assoc]
  rfl

theorem rowCheck_eq (a : RowArgs) : rowCheck a =
    if a.target = 0 ∨ 7 < a.target.toNat ∨ a.bands = 0 ∨ 65536 ≤ a.bands.toNat then some .badArgument else none := by
  unfold rowCheck
  refine if_congr ?_ rfl rfl
  rw [Bool.or_eq_true, Bool.or_eq_true, not_bandsOk_iff, decide_eq_true_iff, decide_eq_true_iff, or_assoc]

theorem grantCheck_eq (a : RowArgs) : grantCheck a s =
    if a.target = 0 ∨ 7 < a.target.toNat ∨ a.bands = 0 ∨ 65536 ≤ a.bands.toNat then some .badArgument
    else if (cred s (slotOf a.target.toNat)).state = .empty then some .slotEmpty
    else if (cred s (slotOf a.target.toNat)).state = .disabled then some .slotDisabled
    else none := by
  unfold grantCheck
  rw [rowCheck_eq]
  split_ifs with bad empty disabled
  · rfl
  · simp [empty]
  · simp [disabled]
  · cases state : (cred s (slotOf a.target.toNat)).state
    case empty => exact absurd state empty
    case disabled => exact absurd state disabled
    all_goals rfl

theorem setCredCheck_eq (a : LimitArgs) (n : Option Secret) : setCredCheck a n s =
    if 7 < a.target.toNat ∨ 64 < a.hard.toNat ∨ a.hard.toNat < (if a.target = 0 then 8 else 3) ∨ 15 < a.free.toNat ∨
        a.hard.toNat ≤ a.free.toNat ∨ a.base = 0 ∨ 60 < a.base.toNat ∨ a.cap.toNat < 60 ∨ 86400 < a.cap.toNat ∨
        (n = none ∧ a.target = 0) ∨ n = some 0 then some .badArgument
    else if a.target = 0 ∧ (cred s 0).state = .blank then some .denied
    else if a.target = 7 ∧ n = none ∧ (theft s = .armed ∨ theft s = .suspect) ∧ enabled s .checkin = true then
      some .denied
    else none := by
  have zero : (a.target.toNat = 0) = (a.target = 0) := propext (BitVec.toNat_inj (y := 0#8)).symm.symm
  have seven : (a.target.toNat = 7) = (a.target = 7) := propext (BitVec.toNat_inj (y := 7#8)).symm.symm
  have base : (a.base.toNat < 1) = (a.base = 0) := by
    rw [Nat.lt_one_iff]
    exact propext (BitVec.toNat_inj (y := 0#8)).symm.symm
  unfold setCredCheck
  have checkin : (s.w.watch.policy.any fun p => p.enabled.getLsbD 0) = enabled s .checkin := rfl
  simp only [zero, seven, base, checkin, Bool.or_eq_true, Bool.and_eq_true, decide_eq_true_eq, ite_or, and_assoc]

theorem bandSetCheck_bad (a : BandArgs) (h : 15 < a.band.toNat ∨ 15 < a.relock.toNat ∨ 3 < a.enables.toNat) :
    bandSetCheck a s = some .badArgument := by
  unfold bandSetCheck
  dsimp only
  rcases h with h | h
  · rw [if_pos h]
  · split
    · rfl
    · rw [if_pos (by simpa using h)]

/-- BAND_SET with its indices and enables in range: a range of its own is checked. -/
theorem bandSetCheck_range (a : BandArgs) (band : a.band.toNat ≤ 15) (relock : a.relock.toNat ≤ 15)
    (enables : a.enables.toNat ≤ 3) : bandSetCheck a s =
      if a.band = 0 ∨ a.length = 0 then none
      else if a.start.toNat % granule s ≠ 0 ∨ a.length.toNat % granule s ≠ 0 ∨ capacity s < a.start.toNat + a.length.toNat ∨
          (rangedBands.any fun c => c ≠ bandNo a.band.toNat && (record s c).length ≠ 0 &&
            overlap a.start.toNat a.length.toNat (record s c).start (record s c).length) = true then some .badRange
      else none := by
  have empty : (a.length.toNat = 0) = (a.length = 0) := propext (BitVec.toNat_inj (y := 0#_)).symm.symm
  unfold bandSetCheck
  dsimp only
  rw [if_neg (by omega), if_neg (by simp; omega)]
  simp only [empty, Bool.or_eq_true, decide_eq_true_eq, ite_or]

theorem ne_bandNo {n : Nat} (h : n ≤ 15) (c : BandId) : c ≠ bandNo n ↔ c.val ≠ n := by
  have same : (bandNo n).val = n := Nat.mod_eq_of_lt (by omega)
  rw [Ne, Fin.ext_iff, same]

theorem overlapping_iff (a : BandArgs) (band : a.band.toNat ≤ 15) :
    (rangedBands.any fun c => c ≠ bandNo a.band.toNat && (record s c).length ≠ 0 &&
      overlap a.start.toNat a.length.toNat (record s c).start (record s c).length) = true ↔
    ∃ c : BandId, c ≠ 0 ∧ c.val ≠ a.band.toNat ∧ (record s c).length ≠ 0 ∧
      overlap a.start.toNat a.length.toNat (record s c).start (record s c).length = true := by
  simp only [List.any_eq_true, mem_rangedBands, Bool.and_eq_true, decide_eq_true_eq, ne_bandNo band, and_assoc]

theorem laneCheck_eq (a : LaneArgs) : laneCheck a s =
    if 3 < a.mode.toNat then some .badArgument
    else if a.mode = 2 ∧ (a.split.toNat % granule s ≠ 0 ∨ a.split.toNat = 0 ∨ capacity s ≤ a.split.toNat) then some .badRange
    else none := by
  unfold laneCheck
  by_cases split : a.mode = 2
  · simp only [split, true_and, if_true, Bool.or_eq_true, decide_eq_true_eq, ite_or]
  · refine if_congr Iff.rfl rfl ?_
    rw [if_neg split, if_neg (fun h => split h.1)]

theorem coverCheck_eq (a : CoverArgs) : coverCheck a s =
    if a.length.toNat ≠ 0 ∧ (a.length.toNat < 8 ∨ 131072 < a.length.toNat) then some .badArgument
    else if a.length.toNat % granule s ≠ 0 then some .badRange
    else if 15 < a.band.toNat then some .badArgument
    else none := by
  unfold coverCheck
  dsimp only
  refine if_congr ?_ rfl rfl
  rw [Bool.and_eq_true, Bool.or_eq_true, decide_eq_true_iff, decide_eq_true_iff, decide_eq_true_iff]
  rfl

theorem tetherCheck_eq (a : TetherArgs) : tetherCheck a =
    if a.period = 0 ∨ (64 ≤ a.period.toNat ∧ a.period.toNat ≤ 32768 ∧ a.tolerance.toNat ≤ a.period.toNat / 2 ∧
        (a.filter = 2 ∨ a.filter = 4 ∨ a.filter = 8 ∨ a.filter = 16)) then none
    else some .badArgument := by
  have off : (a.period.toNat = 0) = (a.period = 0) := propext (BitVec.toNat_inj (y := 0#_)).symm.symm
  unfold tetherCheck
  simp only [off, Bool.or_eq_true, decide_eq_true_eq]
  by_cases zero : a.period = 0
  · rw [if_pos zero, if_pos (Or.inl zero)]
  · rw [if_neg zero]
    by_cases period : a.period.toNat < 64 ∨ 32768 < a.period.toNat
    · rw [if_pos period, if_neg]
      rintro (off | ⟨low, high, -⟩)
      · exact zero off
      · omega
    · rw [if_neg period]
      by_cases wide : a.period.toNat / 2 < a.tolerance.toNat
      · rw [if_pos wide, if_neg]
        rintro (off | ⟨-, -, tolerance, -⟩)
        · exact zero off
        · omega
      · rw [if_neg wide]
        refine if_congr ?_ rfl rfl
        rw [or_assoc, or_assoc]
        exact ⟨fun h => .inr ⟨by omega, by omega, by omega, h⟩, fun h => (h.resolve_left zero).2.2.2⟩

theorem watchArmCheck_eq (a : WatchArgs) : watchArmCheck a s =
    if a.indicators = 0 ∨ 15 < a.indicators.toNat ∨ 3 < a.period.toNat ∨ 1 < a.action.toNat ∨ 3 < a.passes.toNat ∨
        a.budget.toNat < 4 ∨ (a.indicators.getLsbD 0 = true ∧ (cred s 7).state ≠ .set) then some .badArgument
    else if theft s = .suspect ∨ theft s = .wiped then some .denied
    else none := by
  unfold watchArmCheck
  simp only [Bool.or_eq_true, Bool.and_eq_true, decide_eq_true_eq, ite_or]

theorem driveSetCheck_eq (l : Option LaneArgs) (c : Option CoverArgs) (t : Option TetherArgs) : driveSetCheck l c t s =
    ((groupCheck l fun x => laneCheck x s).or (groupCheck c fun x => coverCheck x s)).or (groupCheck t tetherCheck) := by
  unfold driveSetCheck
  cases groupCheck l fun x => laneCheck x s with
  | some x => rfl
  | none => cases groupCheck c fun x => coverCheck x s <;> rfl

theorem passesOf_isNone (n : Byte) : (passesOf n).isNone = true ↔ ¬(n.toNat ≤ 3 ∨ n = 255) := by
  have small : n.toNat ≤ 3 ↔ n = 0 ∨ n = 1 ∨ n = 2 ∨ n = 3 := by
    simp only [← BitVec.toNat_inj]
    show n.toNat ≤ 3 ↔ n.toNat = 0 ∨ n.toNat = 1 ∨ n.toNat = 2 ∨ n.toNat = 3
    omega
  unfold passesOf
  rw [small]
  split_ifs <;> simp_all

theorem scrubStopCheck_eq : scrubStopCheck s =
    if theft s ≠ .wiping ∨ s.w.plan.cause = some .theft ∨ s.w.plan.cause = some .remote ∨
        s.w.plan.cause = some .storeLoss ∨ s.w.plan.phase ≠ .scrub then some .denied
    else none := by
  unfold scrubStopCheck
  simp only [Bool.or_eq_true, decide_eq_true_eq, ite_or]

/-! ## Requests turned away -/

theorem flowRefusal_submitted (p : Port) (body : Body) (i : SlotId) (s : State) :
    flowRefusal body i (submitted p s) = flowRefusal body i s := by cases p <;> rfl

theorem ownerCheck_submitted (p : Port) (body : Body) (s : State) : ownerCheck body (submitted p s) = ownerCheck body s := by
  cases p <;> rfl

theorem owner_refused {e : Envelope} {x : RStatus} (h : ownerCheck e.body s = some x) :
    owner p e s = respond p (plainResponse e.id x) s := by
  unfold owner
  rw [h]

/-- A request with a secret that passes the owner's check takes its flow. -/
theorem owner_flow {e : Envelope} {i : SlotId} (h : ownerCheck e.body s = none) (slot : slotPresented e.body = some i) :
    owner p e s = flow p e i s := by
  obtain ⟨id, body⟩ := e
  unfold owner
  rw [h]
  cases body <;> cases slot <;> rfl

theorem flow_refused {e : Envelope} {i : SlotId} {x : RStatus} (h : flowRefusal e.body i s = some x) :
    flow p e i s = respond p (refusalResponse e.id x i s) s := by
  unfold flow
  rw [h]

theorem refusalResponse_submitted (id : BitVec 16) (x : RStatus) (i : SlotId) : refusalResponse id x i (submitted p s) =
    { id := id, status := x, wait := if x = .wait then min ((backoffOf s i + 1023) / 1024) 65535 else 0, granted := 0,
      report := [] } := by
  cases p <;> rfl

/-- The checks of the mailbox, by port, parts and theft state. -/
theorem mailboxCheck_table (s : State) (body : Body) :
    ((∀ y a, body ≠ .tokenUnlock y a) → (∀ y, body ≠ .remoteWipe y) → body ≠ .statusQuery →
      mailboxCheck .side body s = some .badArgument) ∧
    ((∃ y a, body = .tokenUnlock y a) ∨ (∃ y, body = .remoteWipe y) ∨ (∃ k, body = .undefined k) →
      mailboxCheck .link body s = some .badArgument) ∧
    ∀ p : Port, (complete body = false → mailboxCheck p body s = some .badArgument) ∧
      (complete body = true → (p = .link ↔ (∀ y a, body ≠ .tokenUnlock y a) ∧ ∀ y, body ≠ .remoteWipe y) ∨
          body = .statusQuery →
        (theft s = .wiping → (∀ y, body ≠ .scrubStop y) → body ≠ .statusQuery → mailboxCheck p body s = some .denied) ∧
        (theft s ≠ .wiping ∨ (∃ y, body = .scrubStop y) ∨ body = .statusQuery → mailboxCheck p body s = none)) := by
  refine ⟨fun token wipe query => mailboxCheck_port (portAllows_side token wipe query),
    fun never => mailboxCheck_port (portAllows_link_never never),
    fun p => ⟨mailboxCheck_incomplete, fun whole allowed => ⟨fun wiping stop query => ?_, fun passes => ?_⟩⟩⟩
  · rw [mailboxCheck_whole (portAllows_whole whole allowed) whole, if_pos ⟨wiping, passesInWiping_other stop query⟩]
  · rw [mailboxCheck_whole (portAllows_whole whole allowed) whole, if_neg]
    rintro ⟨wiping, stopped⟩
    rcases passes with running | these
    · exact running wiping
    · rw [passesInWiping_these these] at stopped
      cases stopped

/-- The parts that each kind requires. -/
theorem complete_table :
    (∀ n y a, complete (.unlock n y a) = true ↔ (∃ m, n = some m ∧ m.toNat ≤ 7) ∧ y ≠ none ∧ a ≠ none) ∧
    (∀ y a, complete (.tokenUnlock y a) = true ↔ y ≠ none ∧ a ≠ none) ∧ (∀ v, complete (.lock v) = true ↔ v ≠ none) ∧
    (∀ y, complete (.own y) = true ↔ y ≠ none) ∧
    (∀ y a n, complete (.setCred y a n) = true ↔ y ≠ none ∧ a ≠ none) ∧
    (∀ y a n, complete (.grant y a n) = true ↔ y ≠ none ∧ a ≠ none ∧ n ≠ none) ∧
    (∀ y a, complete (.revoke y a) = true ↔ y ≠ none ∧ a ≠ none) ∧
    (∀ y a, complete (.bandSet y a) = true ↔ y ≠ none ∧ a ≠ none) ∧
    (∀ y n, complete (.bandErase y n) = true ↔ y ≠ none ∧ n ≠ none) ∧
    (∀ y l c t, complete (.driveSet y l c t) = true ↔ y ≠ none) ∧ (∀ y, complete (.coverOpen y) = true ↔ y ≠ none) ∧
    (∀ y a, complete (.watchArm y a) = true ↔ y ≠ none ∧ a ≠ none) ∧
    (∀ y, complete (.watchDisarm y) = true ↔ y ≠ none) ∧ (∀ y, complete (.watchRecover y) = true ↔ y ≠ none) ∧
    (∀ y, complete (.remoteWipe y) = true ↔ y ≠ none) ∧ (∀ y n, complete (.wipeNow y n) = true ↔ y ≠ none ∧ n ≠ none) ∧
    (∀ y, complete (.scrubStop y) = true ↔ y ≠ none) ∧ ∀ y, complete (.revert y) = true ↔ y ≠ none := by
  have one {α : Type} (x : Option α) : x.isSome = true ↔ x ≠ none := Option.isSome_iff_ne_none
  exact ⟨complete_unlock, fun _ _ => isSome_and_isSome _ _, fun _ => one _, fun _ => one _, fun _ _ _ => isSome_and_isSome _ _,
    complete_grant, fun _ _ => isSome_and_isSome _ _, fun _ _ => isSome_and_isSome _ _, fun _ _ => isSome_and_isSome _ _,
    fun _ _ _ _ => one _, fun _ => one _, fun _ _ => isSome_and_isSome _ _, fun _ => one _, fun _ => one _, fun _ => one _,
    fun _ _ => isSome_and_isSome _ _, fun _ => one _, fun _ => one _⟩

theorem bandSetCheck_table (a : BandArgs) :
    (15 < a.band.toNat ∨ 15 < a.relock.toNat ∨ 3 < a.enables.toNat → bandSetCheck a s = some .badArgument) ∧
    (a.band.toNat ≤ 15 → a.relock.toNat ≤ 15 → a.enables.toNat ≤ 3 →
      (a.band = 0 ∨ a.length = 0 → bandSetCheck a s = none) ∧
      (a.band ≠ 0 → a.length ≠ 0 →
        (a.start.toNat % granule s ≠ 0 ∨ a.length.toNat % granule s ≠ 0 ∨ capacity s < a.start.toNat + a.length.toNat ∨
            (∃ c : BandId, c ≠ 0 ∧ c.val ≠ a.band.toNat ∧ (record s c).length ≠ 0 ∧
              overlap a.start.toNat a.length.toNat (record s c).start (record s c).length = true) →
          bandSetCheck a s = some .badRange) ∧
        (a.start.toNat % granule s = 0 → a.length.toNat % granule s = 0 → a.start.toNat + a.length.toNat ≤ capacity s →
          (∀ c : BandId, c ≠ 0 → c.val ≠ a.band.toNat → (record s c).length ≠ 0 →
            overlap a.start.toNat a.length.toNat (record s c).start (record s c).length = false) →
          bandSetCheck a s = none))) := by
  refine ⟨bandSetCheck_bad a, fun band relock enables => ?_⟩
  rw [bandSetCheck_range a band relock enables]
  simp only [overlapping_iff a band]
  refine ⟨fun keeps => if_pos keeps, fun ranged used => ?_⟩
  rw [if_neg (not_or.mpr ⟨ranged, used⟩)]
  refine ⟨fun bad => if_pos bad, fun start length within apart => if_neg ?_⟩
  rintro (h | h | h | ⟨c, ranged', other, used', meets⟩)
  · exact h start
  · exact h length
  · exact Nat.not_lt.mpr within h
  · rw [apart c ranged' other used'] at meets
    cases meets

theorem groupCheck_none {α : Type} (f : α → Option RStatus) : groupCheck none f = none := rfl

theorem driveSetCheck_groups (l : Option LaneArgs) (c : Option CoverArgs) (t : Option TetherArgs) :
    driveSetCheck none none none s = none ∧
    driveSetCheck l c t s =
      ((driveSetCheck l none none s).or (driveSetCheck none c none s)).or (driveSetCheck none none t s) := by
  simp only [driveSetCheck_eq, groupCheck_none, Option.none_or, Option.or_none, and_self]

/-- A request turned away by its mailbox, its owner or its flow. -/
theorem request_turned_away (c : Instr) (p : Port) (e : Envelope) (s : State) (request : requestOf c = some (p, e))
    (takes : PortTakes p s) :
    (box p s ≠ none → exec c s = .next (settle (respond p
      { id := e.id, status := .busy, wait := 0, granted := 0, report := [] } (submitted p s)))) ∧
    (box p s = none →
      (∀ x : RStatus, mailboxCheck p e.body s = some x ∨ (mailboxCheck p e.body s = none ∧ ownerCheck e.body s = some x) →
        exec c s = .next (settle (respond p
          { id := e.id, status := x, wait := 0, granted := 0, report := [] } (submitted p s)))) ∧
      ∀ (i : SlotId) (x : RStatus), mailboxCheck p e.body s = none → ownerCheck e.body s = none →
        slotPresented e.body = some i → flowRefusal e.body i s = some x →
        exec c s = .next (settle (respond p
          { id := e.id, status := x,
            wait := if x = .wait then min ((backoffOf s i + 1023) / 1024) 65535 else 0, granted := 0, report := [] }
          (submitted p s)))) := by
  rw [exec_request request takes]
  refine ⟨fun held => congrArg (fun x => Host.Outcome.next (settle x)) ?_, fun empty => ?_⟩
  · exact takeEnvelope_busy (by rw [box_submitted]; exact held)
  · have empty' : box p (submitted p s) = none := (box_submitted p p s).trans empty
    refine ⟨fun x refused => congrArg (fun x => Host.Outcome.next (settle x)) ?_,
      fun i x mailbox owned slot refused => congrArg (fun x => Host.Outcome.next (settle x)) ?_⟩
    · rcases refused with mailbox | ⟨mailbox, owned⟩
      · exact takeEnvelope_refused empty' ((mailboxCheck_submitted p p e.body s).trans mailbox)
      · rw [takeEnvelope_owner empty' ((mailboxCheck_submitted p p e.body s).trans mailbox),
          owner_refused ((ownerCheck_submitted p e.body s).trans owned)]
        rfl
    · rw [takeEnvelope_owner empty' ((mailboxCheck_submitted p p e.body s).trans mailbox),
        owner_flow ((ownerCheck_submitted p e.body s).trans owned) slot,
        flow_refused ((flowRefusal_submitted p e.body i s).trans refused), refusalResponse_submitted]

/-- Settles O38. -/
theorem refusalCostsNothing : Obligations.RefusalCostsNothing := by
  unfold Obligations.RefusalCostsNothing
  refine ⟨mailboxCheck_table, complete_table, fun s y => ?_, request_turned_away⟩
  refine ⟨fun n a => ⟨rfl, unlockCheck_eq a⟩, fun a n => setCredCheck_eq a n, fun a n => ⟨rowCheck_eq a, grantCheck_eq a⟩,
    bandSetCheck_table, fun n => rfl, driveSetCheck_groups, fun a => ?_, fun a => ?_, tetherCheck_eq, watchArmCheck_eq, rfl, ?_,
    ?_, fun n => ?_, scrubStopCheck_eq, rfl⟩
  · rw [← laneCheck_eq]
    show driveSetCheck (some a) none none s = _
    rw [driveSetCheck_eq]
    simp only [groupCheck_none, Option.or_none]
    rfl
  · rw [← coverCheck_eq]
    show driveSetCheck none (some a) none s = _
    rw [driveSetCheck_eq]
    simp only [groupCheck_none, Option.none_or, Option.or_none]
    rfl
  · show (if theft s ≠ .alarm then some RStatus.denied else none) = _
    rw [ite_not]
  · show (if (theft s = .dormant || theft s = .wiped) = true then some RStatus.notArmed else none) = _
    simp only [Bool.or_eq_true, decide_eq_true_eq]
  · show (if (passesOf n).isNone = true then some RStatus.badArgument else none) = _
    simp only [passesOf_isNone, ite_not]

end

/-! # The query report, the requests that act at once, and REVERT -/

/-! ## Reports as lists of fields -/

/-- The bytes of fields that follow one another, each with its width and its number. -/
def spell : List (Nat × Nat) → List Byte
  | [] => []
  | f :: fs => leBytes f.1 f.2 ++ spell fs

/-- The fields with the offset at which each stands. -/
def placed (o : Nat) : List (Nat × Nat) → List (Nat × Nat × Nat)
  | [] => []
  | f :: fs => (o, f.1, f.2) :: placed (o + f.1) fs

section

variable {s : State} {fs : List (Nat × Nat)} {o n v : Nat}

theorem le_of_placed {a : Nat} (h : (o, n, v) ∈ placed a fs) : a ≤ o := by
  induction fs generalizing a with
  | nil => cases h
  | cons f fs ih =>
    rcases List.mem_cons.mp h with same | later
    · simp only [Prod.mk.injEq] at same
      omega
    · have := ih later
      omega

/-- The field at a place holds its number. -/
theorem field_spell {a : Nat} (rest : List Byte) (h : (o, n, v) ∈ placed a fs) :
    field (spell fs ++ rest) (o - a) n = v % 256 ^ n := by
  induction fs generalizing a with
  | nil => cases h
  | cons f fs ih =>
    rw [spell, List.append_assoc]
    rcases List.mem_cons.mp h with same | later
    · simp only [Prod.mk.injEq] at same
      obtain ⟨rfl, rfl, rfl⟩ := same
      rw [Nat.sub_self, field_here]
    · have behind := le_of_placed later
      rw [field_behind _ _ _ (by omega), Nat.sub_sub, ih later]

theorem field_append (xs ys : List Byte) (o n : Nat) : field (xs ++ ys) (xs.length + o) n = field ys o n := by
  rw [field, List.drop_append, List.drop_eq_nil_of_le (by omega), Nat.add_sub_cancel_left]
  rfl

theorem byteAt_eq_field (xs : List Byte) (i : Nat) : byteAt xs i = BitVec.ofNat 8 (field xs i 1) := by
  unfold byteAt field
  by_cases h : i < xs.length
  · rw [List.drop_eq_getElem_cons h, List.getD_eq_getElem _ _ h]
    exact (BitVec.ofNat_toNat 8 xs[i]).symm.trans rfl
  · rw [List.drop_eq_nil_of_le (by omega), List.getD_eq_default _ _ (by omega)]
    rfl

/-- A byte that a field of one byte spells. -/
theorem byteAt_of_field {xs : List Byte} {i v : Nat} (h : field xs i 1 = v % 256 ^ 1) : byteAt xs i = BitVec.ofNat 8 v := by
  rw [byteAt_eq_field, h]
  exact BitVec.eq_of_toNat_eq (by simp)

/-- A run of records of one length, cut before one of them. -/
theorem flatMap_cut {α : Type} (f : α → List Byte) (k : Nat) (length : ∀ a, (f a).length = k) (l : List α) (i : Nat) (a : α)
    (h : l[i]? = some a) : ∃ front rest, l.flatMap f = front ++ (f a ++ rest) ∧ front.length = k * i := by
  induction l generalizing i with
  | nil => cases h
  | cons x l ih =>
    cases i with
    | zero =>
      obtain rfl : x = a := Option.some.inj h
      exact ⟨[], l.flatMap f, by simp, rfl⟩
    | succ i =>
      obtain ⟨front, rest, cut, before⟩ := ih i h
      refine ⟨f x ++ front, rest, ?_, ?_⟩
      · rw [List.flatMap_cons, cut, List.append_assoc]
      · rw [List.length_append, length, before]
        ring

theorem allBands_at (b : BandId) : allBands[b.val]? = some b := by
  revert b
  decide

theorem allSlots_at (i : SlotId) : allSlots[i.val]? = some i := by
  revert i
  decide

theorem length_spell (fs : List (Nat × Nat)) : (spell fs).length = (fs.map Prod.fst).sum := by
  induction fs with
  | nil => rfl
  | cons f fs ih => simp [spell, ih]

/-- The drive's fields. -/
def driveFields (s : State) : List (Nat × Nat) :=
  [(1, theftCode (theft s)), (1, if theft s = .wiping then causeCode s.w.plan.cause else 0),
    (1, if theft s = .wiping then phaseCode s.w.plan.phase else 0), (1, 0), (2, if theft s = .wiping then s.w.plan.pass else 0),
    (6, if theft s = .wiping then watermark s else 0), (1, (s.w.watch.policy.map fun p => p.enabled.toNat).getD 0),
    (1, (indicatorSet s).toNat), (2, if theft s = .suspect then (s.twu.grace + 1023) / 1024 else 0),
    (1, modeCode s.w.config.mode), (1, s.w.config.coverBand.val),
    (1, bitAt 0 (coverActive s) + bitAt 1 s.coverPermit + bitAt 2 s.twu.tetherLost + bitAt 3 s.entropyFailed +
      bitAt 4 (!s.supplyOk) + bitAt 5 (decide (theft s = .wiping) && s.w.plan.stop)),
    (1, s.w.config.filterLength), (6, s.w.config.split), (4, s.w.config.coverLength), (2, s.w.config.period),
    (2, s.w.config.tolerance), (1, s.dq.length), (1, s.ks.queue.length), (7, pageBits s.startup.lost),
    (7, pageBits s.startup.torn), (1, (s.w.watch.policy.map fun p => p.periodIndex.val).getD 0),
    (1, (s.w.watch.policy.map fun p => actionCode p.action).getD 0),
    (2, (s.w.watch.policy.map fun p => p.graceSeconds).getD 0), (1, (s.w.watch.policy.map fun p => p.passes.val).getD 0),
    (1, (s.w.watch.policy.map fun p => p.budget).getD 0), (8, 0)]

theorem ofPolicy_eq (f : Policy → Nat) : ofPolicy s f = (s.w.watch.policy.map f).getD 0 := by
  unfold ofPolicy
  cases s.w.watch.policy <;> rfl

theorem only_eq (c : Prop) [Decidable c] (n : Nat) : only (decide c) n = if c then n else 0 := by
  unfold only
  simp only [decide_eq_true_eq]

theorem driveReport_eq (s : State) : driveReport s = spell (driveFields s) := by
  unfold driveReport
  simp only [only_eq, ofPolicy_eq, graceShown]
  simp only [List.append_assoc]
  simp only [driveFields, spell, List.append_nil]
  rfl

/-- A band's fields. -/
def bandFields (s : State) (b : BandId) : List (Nat × Nat) :=
  [(6, if b = 0 then 0 else (record s b).start), (6, if b = 0 then 0 else (record s b).length),
    (1, bitAt 0 (record s b).rle + bitAt 1 (record s b).wle + bitAt 2 (flags s b).readLocked +
      bitAt 3 (flags s b).writeLocked + bitAt 4 (present s (.band b)) + bitAt 5 (flags s b).pendingLoad +
      bitAt 6 (decide (b = 0 ∨ (record s b).length ≠ 0))), (3, 0)]

theorem used_eq (b : BandId) : used s b = decide (b = 0 ∨ (record s b).length ≠ 0) := by
  unfold used
  rw [Bool.decide_or]

theorem bandReport_eq (b : BandId) : bandReport s b = spell (bandFields s b) := by
  simp only [bandReport, bandFields, spell, List.append_assoc, List.append_nil, only_eq, used_eq, ite_not]

/-- A slot's fields. -/
def slotFields (s : State) (i : SlotId) : List (Nat × Nat) :=
  [(1, slotStateCode (cred s i).state), (1, count s i), (1, (cred s i).hard), (1, (cred s i).free),
    (2, min ((backoffOf s i + 1023) / 1024) 65535), (2, (rowBands (cred s i)).toNat), (8, 0)]

theorem slotReport_eq (i : SlotId) : slotReport s i = spell (slotFields s i) := by
  simp only [slotReport, slotFields, spell, List.append_assoc, List.append_nil]
  rfl

/-! ## The report's parts -/

theorem length_driveReport (s : State) : (driveReport s).length = 64 := by 
  rw [driveReport_eq, length_spell]
  simp only [driveFields, List.map_cons, List.map_nil, List.sum_cons, List.sum_nil, Nat.reduceAdd]

theorem length_bandReport (b : BandId) : (bandReport s b).length = 16 := by rw [bandReport_eq, length_spell]; rfl

theorem length_slotReport (i : SlotId) : (slotReport s i).length = 16 := by rw [slotReport_eq, length_spell]; rfl

theorem length_flatMap_const {α : Type} (f : α → List Byte) (k : Nat) (length : ∀ a, (f a).length = k) (l : List α) :
    (l.flatMap f).length = l.length * k := by
  induction l with
  | nil => simp
  | cons a l ih => rw [List.flatMap_cons, List.length_append, length, ih, List.length_cons, Nat.succ_mul, Nat.add_comm]

theorem length_bandReports (s : State) : (allBands.flatMap (bandReport s)).length = 256 :=
  length_flatMap_const _ 16 length_bandReport allBands

theorem length_queryReport (s : State) : (queryReport s).length = 448 := by
  rw [queryReport, List.length_append, List.length_append, length_driveReport, length_bandReports,
    length_flatMap_const _ 16 length_slotReport]
  rfl

theorem drive_field (h : (o, n, v) ∈ placed 0 (driveFields s)) : field (queryReport s) o n = v % 256 ^ n := by
  rw [queryReport, List.append_assoc, driveReport_eq]
  exact field_spell _ h

theorem band_field (b : BandId) (h : (o, n, v) ∈ placed 0 (bandFields s b)) :
    field (queryReport s) (64 + 16 * b.val + o) n = v % 256 ^ n := by
  obtain ⟨front, rest, cut, before⟩ :=
    flatMap_cut (bandReport s) 16 length_bandReport allBands b.val b (allBands_at b)
  have drive := field_append (driveReport s) (allBands.flatMap (bandReport s) ++ allSlots.flatMap (slotReport s)) (16 * b.val + o) n
  rw [length_driveReport] at drive
  rw [queryReport, List.append_assoc, Nat.add_assoc, drive, cut, List.append_assoc, ← before, field_append, bandReport_eq,
    List.append_assoc]
  exact field_spell _ h

theorem slot_field (i : SlotId) (h : (o, n, v) ∈ placed 0 (slotFields s i)) :
    field (queryReport s) (320 + 16 * i.val + o) n = v % 256 ^ n := by
  obtain ⟨front, rest, cut, before⟩ :=
    flatMap_cut (slotReport s) 16 length_slotReport allSlots i.val i (allSlots_at i)
  have behind := field_append (driveReport s ++ allBands.flatMap (bandReport s)) (allSlots.flatMap (slotReport s)) (16 * i.val + o) n
  rw [List.length_append, length_driveReport, length_bandReports] at behind
  rw [queryReport, Nat.add_assoc, behind, cut, ← before, field_append, slotReport_eq]
  exact field_spell _ h

/-! ## Bits -/

theorem sixBits (a b c d e f : Bool) : ∀ x, x = BitVec.ofNat 8 (bitAt 0 a + bitAt 1 b + bitAt 2 c + bitAt 3 d + bitAt 4 e + bitAt 5 f) →
    x.getLsbD 0 = a ∧ x.getLsbD 1 = b ∧ x.getLsbD 2 = c ∧ x.getLsbD 3 = d ∧ x.getLsbD 4 = e ∧ x.getLsbD 5 = f := by
  intro x h
  subst h
  revert a b c d e f
  decide

theorem sevenBits (a b c d e f g : Bool) : ∀ x, x = BitVec.ofNat 8
    (bitAt 0 a + bitAt 1 b + bitAt 2 c + bitAt 3 d + bitAt 4 e + bitAt 5 f + bitAt 6 g) →
    x.getLsbD 0 = a ∧ x.getLsbD 1 = b ∧ x.getLsbD 2 = c ∧ x.getLsbD 3 = d ∧ x.getLsbD 4 = e ∧ x.getLsbD 5 = f ∧
      x.getLsbD 6 = g := by
  intro x h
  subst h
  revert a b c d e f g
  decide

theorem testBit_pageBits (ps : List PageId) (p : PageId) : (pageBits ps).testBit p.val = decide (p ∈ ps) := by
  induction ps with
  | nil => simp [pageBits]
  | cons q ps ih =>
    rw [pageBits, Nat.testBit_or, ih, Nat.testBit_two_pow]
    simp only [List.mem_cons, Bool.decide_or, Fin.ext_iff, eq_comm]

theorem getLsbD_one_shift (b c : BandId) : ((1 : BandSet) <<< c.val).getLsbD b.val = decide (b = c) := by
  revert b c
  decide

theorem getLsbD_setOf (bs : List BandId) (b : BandId) : (setOf bs).getLsbD b.val = decide (b ∈ bs) := by
  induction bs with
  | nil => simp [setOf]
  | cons c bs ih =>
    rw [setOf, BitVec.getLsbD_or, ih, getLsbD_one_shift]
    simp only [List.mem_cons, Bool.decide_or]

theorem rowBands_testBit (c : Credential) (b : BandId) :
    ((rowBands c).toNat % 256 ^ 2).testBit b.val = (c.row.get b).isSome := by
  have small : (rowBands c).toNat % 256 ^ 2 = (rowBands c).toNat := Nat.mod_eq_of_lt (rowBands c).isLt
  rw [small]
  show (rowBands c).getLsbD b.val = _
  rw [rowBands, getLsbD_setOf]
  simp [mem_allBands]

theorem page_testBit (ps : List PageId) (p : PageId) : (pageBits ps % 256 ^ 7).testBit p.val = decide (p ∈ ps) := by
  have width : (256 : Nat) ^ 7 = 2 ^ 56 := by norm_num
  rw [width, Nat.testBit_mod_two_pow, testBit_pageBits, decide_eq_true (by omega), Bool.true_and]

/-! ## The report's statements -/

theorem driveFields_placed {x : Nat × Nat × Nat} (h : x ∈
      [(0, 1, theftCode (theft s)), (1, 1, if theft s = .wiping then causeCode s.w.plan.cause else 0),
        (2, 1, if theft s = .wiping then phaseCode s.w.plan.phase else 0),
        (4, 2, if theft s = .wiping then s.w.plan.pass else 0),
        (6, 6, if theft s = .wiping then watermark s else 0),
        (12, 1, (s.w.watch.policy.map fun p => p.enabled.toNat).getD 0), (13, 1, (indicatorSet s).toNat),
        (14, 2, if theft s = .suspect then (s.twu.grace + 1023) / 1024 else 0), (16, 1, modeCode s.w.config.mode),
        (17, 1, s.w.config.coverBand.val), (19, 1, s.w.config.filterLength), (20, 6, s.w.config.split),
        (26, 4, s.w.config.coverLength), (30, 2, s.w.config.period), (32, 2, s.w.config.tolerance), (34, 1, s.dq.length),
        (35, 1, s.ks.queue.length), (50, 1, (s.w.watch.policy.map fun p => p.periodIndex.val).getD 0),
        (51, 1, (s.w.watch.policy.map fun p => actionCode p.action).getD 0),
        (52, 2, (s.w.watch.policy.map fun p => p.graceSeconds).getD 0),
        (54, 1, (s.w.watch.policy.map fun p => p.passes.val).getD 0),
        (55, 1, (s.w.watch.policy.map fun p => p.budget).getD 0)]) : x ∈ placed 0 (driveFields s) := by
  unfold driveFields placed
  simp only [List.mem_cons, List.not_mem_nil, or_false] at h
  simp only [placed, List.mem_cons, Nat.reduceAdd]
  tauto

theorem driveFlags_bits (s : State) :
    (byteAt (queryReport s) 18).getLsbD 0 = coverActive s ∧ (byteAt (queryReport s) 18).getLsbD 1 = s.coverPermit ∧
      (byteAt (queryReport s) 18).getLsbD 2 = s.twu.tetherLost ∧ (byteAt (queryReport s) 18).getLsbD 3 = s.entropyFailed ∧
      (byteAt (queryReport s) 18).getLsbD 4 = !s.supplyOk ∧
      (byteAt (queryReport s) 18).getLsbD 5 = (decide (theft s = .wiping) && s.w.plan.stop) := by
  refine sixBits _ _ _ _ _ _ _ (byteAt_of_field (drive_field (n := 1) ?_))
  unfold driveFields
  simp only [placed, List.mem_cons, Nat.reduceAdd, true_or, or_true]

theorem lostPages_bits (s : State) (p : PageId) :
    (field (queryReport s) 36 7).testBit p.val = decide (p ∈ s.startup.lost) ∧
      (field (queryReport s) 43 7).testBit p.val = decide (p ∈ s.startup.torn) := by
  have lost : field (queryReport s) 36 7 = pageBits s.startup.lost % 256 ^ 7 := by
    refine drive_field ?_
    unfold driveFields
    simp only [placed, List.mem_cons, Nat.reduceAdd, true_or, or_true]
  have torn : field (queryReport s) 43 7 = pageBits s.startup.torn % 256 ^ 7 := by
    refine drive_field ?_
    unfold driveFields
    simp only [placed, List.mem_cons, Nat.reduceAdd, true_or, or_true]
  rw [lost, torn]
  exact ⟨page_testBit _ p, page_testBit _ p⟩

theorem zeroOr_mod (c : Prop) [Decidable c] (n : Nat) : (if c then 0 else n) % 256 ^ 6 = if c then 0 else n % 2 ^ 48 := by
  have width : (256 : Nat) ^ 6 = 2 ^ 48 := by norm_num
  rw [width]
  split
  · exact Nat.zero_mod _
  · rfl

theorem band_fields (s : State) (b : BandId) :
    field (queryReport s) (64 + 16 * b.val) 6 = (if b = 0 then 0 else (record s b).start % 2 ^ 48) ∧
    field (queryReport s) (70 + 16 * b.val) 6 = (if b = 0 then 0 else (record s b).length % 2 ^ 48) ∧
    ∀ (n : Nat) (x : Bool), (n, x) ∈
      [(0, (record s b).rle), (1, (record s b).wle), (2, (flags s b).readLocked), (3, (flags s b).writeLocked),
        (4, present s (.band b)), (5, (flags s b).pendingLoad), (6, decide (b = 0 ∨ (record s b).length ≠ 0))] →
      (byteAt (queryReport s) (76 + 16 * b.val)).getLsbD n = x := by
  have start := band_field (s := s) (o := 0) (n := 6) (v := if b = 0 then 0 else (record s b).start) b
    (by simp only [placed, bandFields, List.mem_cons, true_or])
  have length := band_field (s := s) (o := 6) (n := 6) (v := if b = 0 then 0 else (record s b).length) b
    (by simp only [placed, bandFields, List.mem_cons, Nat.reduceAdd, true_or, or_true])
  have bits := band_field (s := s) (o := 12) (n := 1) (v := bitAt 0 (record s b).rle + bitAt 1 (record s b).wle +
      bitAt 2 (flags s b).readLocked + bitAt 3 (flags s b).writeLocked + bitAt 4 (present s (.band b)) +
      bitAt 5 (flags s b).pendingLoad + bitAt 6 (decide (b = 0 ∨ (record s b).length ≠ 0))) b
    (by simp only [placed, bandFields, List.mem_cons, Nat.reduceAdd, true_or, or_true])
  have places : 64 + 16 * b.val + 6 = 70 + 16 * b.val ∧ 64 + 16 * b.val + 12 = 76 + 16 * b.val := by omega
  rw [Nat.add_zero, zeroOr_mod] at start
  rw [places.1, zeroOr_mod] at length
  rw [places.2] at bits
  refine ⟨start, length, fun n x flag => ?_⟩
  obtain ⟨h0, h1, h2, h3, h4, h5, h6⟩ := sevenBits _ _ _ _ _ _ _ _ (byteAt_of_field bits)
  simp only [List.mem_cons, List.not_mem_nil, or_false, Prod.mk.injEq] at flag
  rcases flag with ⟨rfl, rfl⟩ | ⟨rfl, rfl⟩ | ⟨rfl, rfl⟩ | ⟨rfl, rfl⟩ | ⟨rfl, rfl⟩ | ⟨rfl, rfl⟩ | ⟨rfl, rfl⟩
  · exact h0
  · exact h1
  · exact h2
  · exact h3
  · exact h4
  · exact h5
  · exact h6

theorem slot_fields (s : State) (i : SlotId) :
    (∀ o n v : Nat, (o, n, v) ∈
      [(0, 1, slotStateCode (cred s i).state), (1, 1, count s i), (2, 1, (cred s i).hard), (3, 1, (cred s i).free),
        (4, 2, min ((backoffOf s i + 1023) / 1024) 65535)] →
      field (queryReport s) (320 + 16 * i.val + o) n = v % 256 ^ n) ∧
    ∀ b : BandId, (field (queryReport s) (326 + 16 * i.val) 2).testBit b.val = ((cred s i).row.get b).isSome := by
  refine ⟨fun o n v h => slot_field i ?_, fun b => ?_⟩
  · simp only [List.mem_cons, List.not_mem_nil, or_false] at h
    simp only [placed, slotFields, List.mem_cons, Nat.reduceAdd]
    tauto
  · have row := slot_field (s := s) (o := 6) (n := 2) (v := (rowBands (cred s i)).toNat) i
      (by simp only [placed, slotFields, List.mem_cons, Nat.reduceAdd, true_or, or_true])
    have place : 320 + 16 * i.val + 6 = 326 + 16 * i.val := by omega
    rw [← place, row, rowBands_testBit]

/-! ## The requests that act at once -/

theorem exec_linkEnvelope {c : Instr} {e : Envelope} (request : requestOf c = some (.link, e)) (takes : LinkTakes s)
    (empty : s.linkBox = none) (passes : mailboxCheck .link e.body s = none) :
    exec c s = .next (settle (owner .link e s)) := by
  rw [exec_request (p := .link) request takes]
  exact congrArg (fun x => Host.Outcome.next (settle x)) (takeEnvelope_owner (p := .link) empty passes)

theorem ownRefusal_eq (new : Secret) (s : State) : ownRefusal new s =
    if theft s = .alarm then some .denied
    else if (cred s 0).state ≠ .blank then some .notBlank
    else if new = 0 then some .badArgument
    else if s.supplyOk = false then some .lowPower
    else if s.entropyFailed = true then some .noEntropy
    else none := by
  unfold ownRefusal
  simp only [Bool.not_eq_true']

theorem queryReport_submitted (p : Port) (s : State) : queryReport (submitted p s) = queryReport s := by cases p <;> rfl

/-- Settles O39. -/
theorem plainRequestsAct : Obligations.PlainRequestsAct := by
  unfold Obligations.PlainRequestsAct
  refine ⟨fun s => ⟨fun o n v h => drive_field (driveFields_placed h), driveFlags_bits s, lostPages_bits s, band_fields s,
    slot_fields s⟩, fun id s => ⟨fun takes empty calm => ?_, fun p takes empty => ⟨?_, length_queryReport s, fun kind => ?_⟩,
    fun new y takes empty calm refused => ?_, fun new takes empty calm alarm blank given supply entropy => ?_⟩⟩
  · rw [exec_linkEnvelope (e := { id := id, body := .coverClose }) rfl takes empty (mailboxCheck_passes rfl rfl calm)]
    rfl
  · have empty' : box p (submitted p s) = none := (box_submitted p p s).trans empty
    have passes : mailboxCheck p .statusQuery (submitted p s) = none := by
      rw [mailboxCheck_whole (by cases p <;> rfl) rfl]
      exact if_neg (fun h => by cases h.2)
    rw [exec_request (p := p) (e := { id := id, body := .statusQuery }) rfl takes,
      takeEnvelope_owner (e := { id := id, body := .statusQuery }) empty' passes, ← queryReport_submitted p]
    rfl
  · have empty' : box p (submitted p s) = none := (box_submitted p p s).trans empty
    have bad : mailboxCheck p (.undefined kind) (submitted p s) = some .badArgument :=
      mailboxCheck_port (by cases p <;> rfl)
    rw [exec_request (p := p) (e := { id := id, body := .undefined kind }) rfl takes,
      takeEnvelope_refused (e := { id := id, body := .undefined kind }) empty' bad]
    rfl
  · rw [exec_linkEnvelope (e := { id := id, body := .own (some new) }) rfl takes empty (mailboxCheck_passes rfl rfl calm)]
    have answered : ownRequest .link { id := id, body := .own (some new) } new s = respond .link (plainResponse id y) s := by
      unfold ownRequest
      rw [ownRefusal_eq, refused]
    exact congrArg (fun x => Host.Outcome.next (settle x)) answered
  · rw [exec_linkEnvelope (e := { id := id, body := .own (some new) }) rfl takes empty (mailboxCheck_passes rfl rfl calm)]
    have held : ownRequest .link { id := id, body := .own (some new) } new s =
        hold .link { id := id, body := .own (some new) } false (.handing .own) s := by
      unfold ownRequest
      rw [ownRefusal_eq, if_neg alarm, if_neg (not_not.mpr blank), if_neg given, if_neg (by simp [supply]),
        if_neg (by simp [entropy])]
    exact congrArg (fun x => Host.Outcome.next (settle x)) held

/-! ## REVERT -/

/-- A request whose own effect began a wipe is answered at once. -/
theorem effectAct_wipe {p : Port} {x : ReqStage} {t : State} (before : theft s ≠ .wiping) (after : theft t = .wiping) :
    effectAct p s x t = setNext p x [] t := by
  unfold effectAct
  rw [if_pos (by simp [beganWipe, before, after])]

theorem setNext_link {h : Held} {x : ReqStage} {room : List PageId} {t : State} (held : t.linkBox = some h) :
    setNext .link x room t = { t with linkBox := some { h with stage := x, room := room } } := by
  unfold setNext
  rw [show box .link t = some h from held]
  rfl

/-- Settles O40. -/
theorem revertWipesUnderItsCode : Obligations.RevertWipesUnderItsCode := by
  unfold Obligations.RevertWipesUnderItsCode
  refine ⟨fun id code s takes empty calm warn => ?_, fun id code s takes empty calm supply => ⟨fun wrong => ?_,
    fun right scrub => ?_⟩⟩
  · rw [exec_linkEnvelope (e := { id := id, body := .revert (some code) }) rfl takes empty (mailboxCheck_passes rfl rfl calm)]
    have refused : revertRequest .link { id := id, body := .revert (some code) } code s =
        respond .link (plainResponse id .lowPower) s := by
      unfold revertRequest revertRefusal
      rw [if_pos (by simp [warn])]
    exact congrArg (fun x => Host.Outcome.next (settle x)) refused
  · rw [exec_linkEnvelope (e := { id := id, body := .revert (some code) }) rfl takes empty (mailboxCheck_passes rfl rfl calm)]
    have refused : revertRequest .link { id := id, body := .revert (some code) } code s =
        respond .link (plainResponse id .badArgument) s := by
      unfold revertRequest revertRefusal
      rw [if_neg (by simp [supply]), if_pos wrong]
    exact congrArg (fun x => Host.Outcome.next (settle x)) refused
  · rw [exec_linkEnvelope (e := { id := id, body := .revert (some code) }) rfl takes empty (mailboxCheck_passes rfl rfl calm)]
    have orders : noOrders (hold .link { id := id, body := .revert (some code) } true (ends .ok) s) = true := scrub.noOrders calm
    have enters := enterWiping_enters .revert (.times 1) orders
    have watch := enterWiping_watch .revert (.times 1) orders
    obtain ⟨t, begun⟩ : ∃ t, enterWiping .revert (.times 1)
        (hold .link { id := id, body := .revert (some code) } true (ends .ok) s) = t := ⟨_, rfl⟩
    rw [begun] at enters watch
    have wiping : theft t = .wiping := by
      rw [theft, enters.w]
      rfl
    have held : t.linkBox =
        some { env := { id := id, body := .revert (some code) }, started := true, stage := ends .ok, room := [] } := by
      rw [watch.frame]
      rfl
    have taken : revertRequest .link { id := id, body := .revert (some code) } code s = setNext .link (ends .ok) [] t := by
      unfold revertRequest revertRefusal
      rw [if_neg (by simp [supply]), if_neg (not_not.mpr right)]
      dsimp only
      rw [begun, effectAct_wipe calm wiping]
    rw [setNext_link held] at taken
    refine ⟨_, congrArg (fun x => Host.Outcome.next (settle x)) taken, wiping, ?_, ?_, rfl, ?_, ?_, ?_, ?_, ?_, fun b => ?_⟩
    · rw [enters.wipe]
    · rw [enters.w]
      rfl
    · rw [enters.w]
      rfl
    · rw [enters.w]
      rfl
    · rw [enters.w]
      rfl
    · rw [enters.w]
      rfl
    · rw [watch.frame]
      rfl
    · exact ⟨(enters.shut b).1, (enters.shut b).2.2⟩

end

/-! # What BUDGET does in an act on the counts -/

section

variable {s t u : State} {p : Policy} {x y z : State}

/-! ## BUDGET in an act on the counts (R99, R114, R124, R130 to R132) -/

/-- An act on the counts has left the watch, the wipe, the bands and the live keys as they were. -/
structure CountsOnly (s u : State) : Prop where
  watch : u.w.watch = s.w.watch
  plan : u.w.plan = s.w.plan
  grace : u.twu.grace = s.twu.grace
  counter : u.twu.counter = s.twu.counter
  tetherLost : u.twu.tetherLost = s.twu.tetherLost
  wipe : u.wipe = s.wipe
  keys : u.keys = s.keys
  bands : u.bands = s.bands
  mode : u.mode = s.mode

theorem CountsOnly.refl (s : State) : CountsOnly s s := ⟨rfl, rfl, rfl, rfl, rfl, rfl, rfl, rfl, rfl⟩

theorem CountsOnly.trans (h : CountsOnly s t) (k : CountsOnly t u) : CountsOnly s u where
  watch := k.watch.trans h.watch
  plan := k.plan.trans h.plan
  grace := k.grace.trans h.grace
  counter := k.counter.trans h.counter
  tetherLost := k.tetherLost.trans h.tetherLost
  wipe := k.wipe.trans h.wipe
  keys := k.keys.trans h.keys
  bands := k.bands.trans h.bands
  mode := k.mode.trans h.mode

theorem CountsOnly.queue (p : PageId) (ws : List Waiter) (s : State) : CountsOnly s (queuePage p ws s) := by
  rw [queuePage_frame]
  exact ⟨rfl, rfl, rfl, rfl, rfl, rfl, rfl, rfl, rfl⟩

theorem CountsOnly.theft (h : CountsOnly s u) : theft u = Machine.theft s := by rw [Machine.theft, h.watch]; rfl

theorem CountsOnly.enabled (h : CountsOnly s u) (i : Indicator) : enabled u i = Machine.enabled s i := by
  rw [Machine.enabled, h.watch]; rfl

theorem CountsOnly.noOrders (h : CountsOnly s u) : noOrders u = Machine.noOrders s := by rw [Machine.noOrders, h.wipe]; rfl

theorem CountsOnly.stays (h : CountsOnly s u) : WatchStays s u :=
  ⟨h.watch, h.grace, h.counter, h.plan, h.wipe, h.keys, h.bands⟩

theorem budgetAfter_disabled (b : Bool) (h : enabled s .budget = false) : budgetAfter b s = s := by
  have deasserts : deassertIndicator .budget s = s := if_neg (by simp [h])
  unfold budgetAfter
  rw [assertIndicator_disabled _ h, deasserts]
  simp

/-- An act that leaves BUDGET as it reads is the act alone. -/
theorem budgetAfter_same : budgetAfter (budgetAsserted s) s = s := by
  unfold budgetAfter
  cases budgetAsserted s <;> rfl

theorem budgetAfter_asserts (h : budgetAsserted s = true) : budgetAfter false s = assertIndicator .budget s := by
  unfold budgetAfter
  rw [if_neg (by simp), if_pos h]

theorem budgetAfter_deasserts (on : enabled s .budget = true) (h : budgetAsserted s = false) :
    budgetAfter true s = suspectCheck s := by
  unfold budgetAfter deassertIndicator
  rw [if_pos rfl, if_neg (by simp [h]), if_pos on]

theorem failureSum_of_watch (h : WatchOnly s t) : failureSum t = failureSum s := by
  rw [h.frame]
  rfl

/-- What re-evaluating BUDGET changes beyond the watch: nothing. -/
theorem budgetAfter_watchOnly (b : Bool) (orders : theft s ≠ .wiping → noOrders s = true) : WatchOnly s (budgetAfter b s) := by
  by_cases wiping : theft s = .wiping
  · rw [budgetAfter_still b (by simp [wiping]) (by simp [wiping])]
    exact .refl s
  · exact budgetAfter_watch b (orders wiping)

/-- BUDGET comes to be asserted in an act on the counts. -/
theorem budget_asserts (h : CountsOnly s u) (policy : s.w.watch.policy = some p) (on : inSet p.enabled .budget = true)
    (orders : theft u ≠ .wiping → noOrders u = true) :
    (theft s = .armed → p.graceSeconds ≠ 0 → EntersSuspect .budget p s (assertIndicator .budget u)) ∧
    (theft s = .armed → p.graceSeconds = 0 → EntersAlarm p s (assertIndicator .budget u)) ∧
    (theft s = .suspect → s.w.watch.cause ≠ some .budget → EntersAlarm p s (assertIndicator .budget u)) ∧
    (theft s = .suspect → s.w.watch.cause = some .budget → WatchStays s (assertIndicator .budget u)) := by
  have policy' : u.w.watch.policy = some p := by rw [h.watch, policy]
  have alarms (ha : (theft u = .armed ∧ p.graceSeconds = 0) ∨ (theft u = .suspect ∧ u.w.watch.cause ≠ some .budget))
      (calm : theft u ≠ .wiping) : EntersAlarm p s (assertIndicator .budget u) := by
    rw [assertIndicator_alarms policy' on ha]
    exact (enterAlarm_enters policy' (orders calm)).congr h.plan.symm (by rw [h.keys]) (by rw [h.keys]) h.wipe.symm h.mode.symm
  have same := h.theft
  refine ⟨fun armed grace => ?_, fun armed grace => ?_, fun suspect cause => ?_, fun suspect cause => ?_⟩
  · rw [assertIndicator_suspects policy' on (same.trans armed) grace]
    exact (suspected_enters .budget p u).congr h.watch.symm h.plan.symm h.counter.symm h.keys.symm h.bands.symm h.wipe.symm
      h.mode.symm
  · exact alarms (.inl ⟨same.trans armed, grace⟩) (by simp [same, armed])
  · exact alarms (.inr ⟨same.trans suspect, by rw [h.watch]; exact cause⟩) (by simp [same, suspect])
  · rw [assertIndicator_cause _ (same.trans suspect) (by rw [h.watch]; exact cause)]
    exact h.stays

/-- BUDGET is no more asserted after an act on the counts in SUSPECT. -/
theorem budget_deasserts (h : CountsOnly s u) (policy : s.w.watch.policy = some p) (suspect : theft s = .suspect)
    (low : failureSum u < p.budget) (orders : noOrders u = true) :
    if (inSet p.enabled .checkin = true ∧ watchPeriod p.periodIndex ≤ s.twu.counter) ∨
        (inSet p.enabled .tether = true ∧ s.twu.tetherLost = true) ∨ (inSet p.enabled .tamper = true ∧ s.w.watch.latch = true)
    then WatchStays s (suspectCheck u)
    else ReturnsToArmed s (suspectCheck u) ∧ (suspectCheck u).keys = s.keys ∧ (suspectCheck u).bands = s.bands := by
  have policy' : u.w.watch.policy = some p := by rw [h.watch, policy]
  have any := anyAsserted_eq policy'
  rw [h.counter, h.tetherLost, h.watch] at any
  split
  · rename_i stays
    rw [suspectCheck_asserted (any.mpr (by tauto))]
    exact h.stays
  · rename_i clear
    have none : anyAsserted u = false := by
      rw [← Bool.not_eq_true, any]
      have := Nat.not_le.mpr low
      tauto
    have suspect' := h.theft.trans suspect
    rw [suspectCheck_clear suspect' none]
    obtain ⟨⟨watch, carried, told⟩, keys, bands⟩ := changeTheft_armed suspect' orders
    rw [h.watch] at watch
    refine ⟨⟨watch, carried, fun up => told ((linkUp_congr h.mode).trans up)⟩, keys.trans h.keys, bands.trans h.bands⟩

/-- BUDGET re-evaluated in an act on the counts, by the sums before and after it. -/
theorem budgetAfter_follows (h : CountsOnly s u) (orders : theft u ≠ .wiping → noOrders u = true) :
    BudgetFollows s (budgetAfter (budgetAsserted s) u) := by
  have sum := failureSum_of_watch (budgetAfter_watchOnly (budgetAsserted s) orders)
  unfold BudgetFollows
  rw [sum]
  refine ⟨fun off => ?_, fun armed suspect => ?_, fun p policy on => ?_⟩
  · have disabled : enabled u .budget = false := by
      rw [h.enabled]
      cases policy : s.w.watch.policy with
      | none => simp [enabled, policy]
      | some p => rw [enabled_eq policy, off p policy]
    rw [budgetAfter_disabled _ disabled]
    exact h.stays
  · rw [budgetAfter_still _ (by rw [h.theft]; exact armed) (by rw [h.theft]; exact suspect)]
    exact h.stays
  · have policy' : u.w.watch.policy = some p := by rw [h.watch, policy]
    have on' : enabled u .budget = true := (enabled_eq policy' _).trans on
    have before := budgetAsserted_eq policy
    have after := budgetAsserted_eq policy'
    refine ⟨fun low reached => ?_, fun suspect high low => ?_, fun armed low => ?_, fun same => ?_⟩
    · rw [before, decide_eq_false (Nat.not_le.mpr low), budgetAfter_asserts (after.trans (decide_eq_true reached))]
      exact budget_asserts h policy on orders
    · rw [before, decide_eq_true high, budgetAfter_deasserts on' (after.trans (decide_eq_false (Nat.not_le.mpr low)))]
      exact budget_deasserts h policy suspect low (orders (by rw [h.theft, suspect]; simp))
    · have stays : budgetAfter (budgetAsserted s) u = u := by
        unfold budgetAfter
        rw [deassertIndicator_still _ (by rw [h.theft, armed]; simp), after, decide_eq_false (Nat.not_le.mpr low)]
        simp
      rw [stays]
      exact h.stays
    · have reads : budgetAsserted s = budgetAsserted u := by rw [before, after, decide_eq_decide.mpr same]
      rw [reads, budgetAfter_same]
      exact h.stays

end

/-! # The charge, and a held request's next act -/

section

variable {s s' t t' u : State} {p : Port} {i j : SlotId}

/-! ## Acts on a slot -/

theorem SlotWork.countsOnly (h : SlotWork s t) : CountsOnly s t := by
  rw [h.frame]
  exact ⟨rfl, rfl, rfl, rfl, rfl, rfl, rfl, rfl, rfl⟩

theorem CountsOnly.orders (h : CountsOnly s u) (scrub : ScrubInWiping s) : Machine.theft u ≠ .wiping → Machine.noOrders u = true := by
  rw [h.theft, h.noOrders]
  exact scrub.noOrders

/-- What `BudgetFollows` reads of the state before. -/
def budgetBefore (s : State) : Working × KeyTable × Vector BandFlags 16 × WipeEngine × Nat × Nat × Bool × Mode :=
  (s.w, s.keys, s.bands, s.wipe, s.twu.grace, s.twu.counter, s.twu.tetherLost, s.mode)

theorem BudgetFollows.keep (h : BudgetFollows s t) (same : watchAfter t' = watchAfter t) : BudgetFollows s t' := by
  simp only [watchAfter, Prod.mk.injEq] at same
  obtain ⟨w, ks, keys, bands, wipe, grace, counter, notice, outbound⟩ := same
  unfold BudgetFollows EntersAlarm EntersSuspect ReturnsToArmed WatchStays failureSum summed count cred Carried pageOf reference
    committed flags present entry Announced theft at *
  rw [w, ks, keys, bands, wipe, grace, counter, notice, outbound]
  simpa only [keys] using h

theorem BudgetFollows.congr (h : BudgetFollows s t) (same : budgetBefore s' = budgetBefore s) : BudgetFollows s' t := by
  simp only [budgetBefore, Prod.mk.injEq] at same
  obtain ⟨w, keys, bands, wipe, grace, counter, lost, mode⟩ := same
  unfold BudgetFollows EntersAlarm EntersSuspect ReturnsToArmed WatchStays failureSum summed count cred Announced linkUp theft at *
  rw [w, keys, bands, wipe, grace, counter, lost, mode]
  exact h

theorem slotOf_val (i : SlotId) : slotOf i.val = i := Fin.ext (Nat.mod_eq_of_lt i.isLt)

theorem attemptPage_val (i : SlotId) : (attemptPage i).val = 45 + i.val := Nat.mod_eq_of_lt (by omega)

theorem pageOf_attemptPage (i : SlotId) (s : State) : pageOf s (attemptPage i) = some (.attempt (count s i)) := by
  have n := attemptPage_val i
  unfold pageOf content
  dsimp only
  rw [n, if_neg (by omega), if_neg (by omega), if_neg (by omega), if_neg (by omega), if_neg (by omega), if_neg (by omega),
    if_neg (by omega), if_neg (by omega), Nat.add_sub_cancel_left, slotOf_val]
  rfl

theorem attemptPage_ne (i : SlotId) : attemptPage i ≠ watchPage ∧ attemptPage i ≠ journalPage := by
  revert i
  decide

theorem carried_disable {q : PageId} (h : Carried q s) (hq : q = attemptPage j) : Carried q (disable i s) := by
  subst hq
  refine carried_queuePage _ _ (h.congr rfl ?_)
  rw [pageOf_attemptPage, pageOf_attemptPage]
  rfl

/-! ## The charge (R99) -/

/-- The slot's part of a charge: the count rises, and a user or platform slot at its limit is disabled. -/
def chargedSlot (i : SlotId) (ws : List Waiter) (s : State) : State :=
  if mustDisable i (queuePage (attemptPage i) ws (setCount i (raisedCount (cred s i) (count s i)) s)) then
    disable i (queuePage (attemptPage i) ws (setCount i (raisedCount (cred s i) (count s i)) s))
  else queuePage (attemptPage i) ws (setCount i (raisedCount (cred s i) (count s i)) s)

theorem chargedSlot_work (i : SlotId) (ws : List Waiter) (s : State) : SlotWork s (chargedSlot i ws s) := by
  have raised := ((SlotWork.refl s).setCount i (raisedCount (cred s i) (count s i))).queue (attemptPage i) ws
  unfold chargedSlot
  split
  · exact raised.trans (disable_work i)
  · exact raised

theorem raisedCount_of_lt {c : Credential} {n : Nat} (h : n < c.hard) : raisedCount c n = n + 1 := Nat.min_eq_left h

theorem count_chargedSlot (ws : List Waiter) (h : count s i < (cred s i).hard) (j : SlotId) :
    count (chargedSlot i ws s) j = if j = i then count s i + 1 else count s j := by
  unfold chargedSlot
  split <;> simp [raisedCount_of_lt h, eq_comm]

theorem cred_chargedSlot (ws : List Waiter) (h : count s i < (cred s i).hard) (j : SlotId) :
    cred (chargedSlot i ws s) j =
      if j = i ∧ i ≠ 0 ∧ count s i + 1 = (cred s i).hard then { cred s i with state := .disabled } else cred s j := by
  have must : mustDisable i (queuePage (attemptPage i) ws (setCount i (raisedCount (cred s i) (count s i)) s)) = true ↔
      i ≠ 0 ∧ count s i + 1 = (cred s i).hard := by
    rw [mustDisable_iff]
    simp [raisedCount_of_lt h]
  unfold chargedSlot
  simp only [must]
  split
  · rename_i limit
    simp [limit, eq_comm]
  · rename_i below
    rw [if_neg (fun all => below all.2)]
    simp

theorem put_get_self {n : Nat} (v : Vector Nat n) (i : Fin n) : put v i (v.get i) = v := by
  refine Vector.ext fun k hk => ?_
  have at' := get_put v i ⟨k, hk⟩ (v.get i)
  show (put v i (v.get i)).get ⟨k, hk⟩ = v.get ⟨k, hk⟩
  rw [at']
  split
  · rename_i same
    rw [same]
  · rfl

theorem backoff_chargedSlot (ws : List Waiter) (rested : backoffOf s i = 0) : (chargedSlot i ws s).backoff = s.backoff := by
  have still (t : State) (h : t.backoff = s.backoff) : (disable i t).backoff = s.backoff := by
    have kept : (disable i t).backoff = put t.backoff i 0 := by
      unfold disable
      rw [queuePage_backoff]
      rfl
    rw [kept, h, ← rested]
    exact put_get_self s.backoff i
  unfold chargedSlot
  split
  · exact still _ (by rw [queuePage_backoff]; rfl)
  · rw [queuePage_backoff]
    rfl

theorem carried_chargedSlot (i : SlotId) (ws : List Waiter) (s : State) : Carried (attemptPage i) (chargedSlot i ws s) := by
  unfold chargedSlot
  split
  · exact carried_disable (carried_queuePage_same _ _ _) rfl
  · exact carried_queuePage_same _ _ _

theorem waits_chargedSlot {k : Waiter} {ws : List Waiter} (mem : k ∈ ws) (h : count s i < (cred s i).hard)
    (stale : reference s (attemptPage i) ≠ some (.attempt (count s i + 1))) : waits k (chargedSlot i ws s) = true := by
  have queued : waits k (queuePage (attemptPage i) ws (setCount i (raisedCount (cred s i) (count s i)) s)) = true := by
    refine waits_queuePage_same _ _ mem ?_
    rw [pageOf_attemptPage, count_setCount, if_pos rfl, raisedCount_of_lt h]
    exact stale
  unfold chargedSlot
  split
  · exact waits_queuePage _ _ queued
  · exact queued

/-! ## A held request's next act -/

/-- The pages for whose room a request waits (R158). -/
theorem mem_roomTouched (q : PageId) (s t : State) :
    q ∈ roomTouched s t ↔ onList t.ks.room q = true ∧ pageOf s q ≠ pageOf t q := by
  have listed : q ∈ t.ks.room.map QEntry.page ↔ onList t.ks.room q = true := by
    simp [onList]
  unfold roomTouched
  rw [List.mem_filter, listed, decide_eq_true_iff]

theorem setNext_eq {h : Held} (x : ReqStage) (room : List PageId) (held : box p s = some h) :
    setNext p x room s = setBox p (some { h with stage := x, room := room }) s := by
  unfold setNext
  rw [held]

theorem SlotWork.box (h : SlotWork s t) (p : Port) : box p t = Machine.box p s := by
  rw [h.frame]
  cases p <;> rfl

theorem WatchOnly.box (h : WatchOnly s t) (p : Port) : Machine.box p t = Machine.box p s := by
  rw [h.frame]
  cases p <;> rfl

theorem setBox_setBox (p : Port) (h k : Option Held) (s : State) : setBox p h (setBox p k s) = setBox p h s := by
  cases p <;> rfl

theorem watchAfter_setBox (p : Port) (h : Option Held) (s : State) : watchAfter (setBox p h s) = watchAfter s := by
  cases p <;> rfl

end

/-! # The flow of a request that presents a secret -/

section

variable {s t : State} {p : Port} {i : SlotId} {body : Body} {e : Envelope}

/-! ## The refusals of the flow (R97, R98) -/

/-- In WIPED the requests that pass are those that present the ADMIN slot, and only while it is BLANK. -/
theorem flowPasses_wiped (wiped : theft s = .wiped) (slot : slotPresented body = some i) :
    flowPasses body s = (decide ((cred s 0).state = .blank) && decide (i = 0)) := by
  unfold flowPasses
  rw [wiped]
  cases body <;> cases slot <;> rfl

/-- The theft state turns a request away. -/
theorem flowPasses_iff (slot : slotPresented body = some i) : flowPasses body s = true ↔
    ¬((theft s = .alarm ∧ (∀ y, body ≠ .watchRecover y) ∧ ∀ y, body ≠ .remoteWipe y) ∨
      (theft s = .wiping ∧ ∀ y, body ≠ .scrubStop y) ∨ (theft s = .wiped ∧ ((cred s 0).state ≠ .blank ∨ i ≠ 0))) := by
  cases state : theft s
  case wiped =>
    rw [flowPasses_wiped state slot]
    simp
  case alarm =>
    unfold flowPasses
    rw [state]
    cases body <;> simp
  case wiping =>
    unfold flowPasses
    rw [state]
    cases body <;> simp
  all_goals
    unfold flowPasses
    simp [state]

theorem flowRefusal_denied (h : flowPasses body s = false) :
    flowRefusal body i s = some .denied := by
  unfold flowRefusal
  rw [if_pos (by simp [h])]

theorem flowRefusal_passes (h : flowPasses body s = true) : flowRefusal body i s =
    if (cred s i).state = .empty then some .slotEmpty
    else if (cred s i).state = .disabled then some .slotDisabled
    else if 0 < backoffOf s i then some .wait
    else if s.supplyOk = false then some .lowPower
    else none := by
  unfold flowRefusal
  rw [if_neg (by simp [h])]
  simp only [Bool.not_eq_true']

/-- A request that the flow lets through stands on a slot with no backoff. -/
theorem backoff_of_flow (h : flowRefusal body i s = none) : backoffOf s i = 0 := by
  unfold flowRefusal at h
  split_ifs at h
  omega

/-! ## A request in its flow -/

theorem flow_saturated (h : flowRefusal e.body i s = none) (full : saturated i s = true) :
    flow p e i s = handVerify p (hold p e true .verifying s) := by
  unfold flow
  rw [h]
  exact if_pos full

theorem flow_charged (h : flowRefusal e.body i s = none) (room : saturated i s = false) :
    flow p e i s = nextAct p s .charged (charge i [.request p] (hold p e true .charged s)) := by
  unfold flow
  rw [h]
  exact if_neg (by simp [room])

theorem saturated_of_full (h : count s i = (cred s i).hard) : saturated i s = true := by
  unfold saturated raisedCount
  rw [h]
  exact decide_eq_true (Nat.min_eq_right (Nat.le_succ _))

theorem not_saturated (h : count s i < (cred s i).hard) : saturated i s = false := by
  unfold saturated
  rw [raisedCount_of_lt h]
  exact decide_eq_false (by omega)

/-- A command whose request passes every check takes its flow. -/
theorem exec_flow {c : Instr} (request : requestOf c = some (p, e)) (slot : slotPresented e.body = some i)
    (takes : PortTakes p s) (empty : box p s = none) (mailbox : mailboxCheck p e.body s = none)
    (owned : ownerCheck e.body s = none) : exec c s = .next (settle (flow p e i (submitted p s))) := by
  have empty' : box p (submitted p s) = none := (box_submitted p p s).trans empty
  rw [exec_request request takes, takeEnvelope_owner empty' ((mailboxCheck_submitted p p e.body s).trans mailbox),
    owner_flow ((ownerCheck_submitted p e.body s).trans owned) slot]

theorem handVerify_hold (p : Port) (e : Envelope) (s : State) : handVerify p (hold p e true .verifying s) =
    handMailbox p .verify (setBox p (some { env := e, started := true, stage := .verifying, room := [] }) s) := by
  cases p <;> rfl

/-- A port's request held for its charge. -/
def chargeHeld (e : Envelope) (room : List PageId) : Held := { env := e, started := true, stage := .charged, room := room }

/-- The state of a charged request, before its mailbox waits for room. -/
def chargedState (p : Port) (e : Envelope) (i : SlotId) (s : State) : State :=
  charge i [.request p] (setBox p (some (chargeHeld e [])) (submitted p s))

/-- The slot's part of it. -/
def chargedWork (p : Port) (e : Envelope) (i : SlotId) (s : State) : State :=
  chargedSlot i [.request p] (setBox p (some (chargeHeld e [])) (submitted p s))

theorem chargedWork_work (p : Port) (e : Envelope) (i : SlotId) (s : State) :
    SlotWork (setBox p (some (chargeHeld e [])) (submitted p s)) (chargedWork p e i s) := chargedSlot_work i _ _

theorem budgetBefore_held (p : Port) (h : Option Held) (s : State) :
    budgetBefore (setBox p h (submitted p s)) = budgetBefore s := by cases p <;> rfl

theorem chargedWork_orders (p : Port) (e : Envelope) (i : SlotId) (scrub : ScrubInWiping s)
    (calm : theft (chargedWork p e i s) ≠ .wiping) : noOrders (chargedWork p e i s) = true := by
  have counts := (chargedWork_work p e i s).countsOnly
  have before := budgetBefore_held p (some (chargeHeld e [])) s
  simp only [budgetBefore, Prod.mk.injEq] at before
  obtain ⟨w, -, -, wipe, -⟩ := before
  rw [counts.theft, theft, w] at calm
  rw [counts.noOrders, noOrders, wipe]
  exact scrub.noOrders calm

theorem chargedState_watch (p : Port) (e : Envelope) (i : SlotId) (scrub : ScrubInWiping s) :
    WatchOnly (chargedWork p e i s) (chargedState p e i s) :=
  budgetAfter_watchOnly _ (chargedWork_orders p e i scrub)

theorem flow_charges (h : flowRefusal e.body i s = none) (room : count s i < (cred s i).hard) (scrub : ScrubInWiping s) :
    flow p e i (submitted p s) = setBox p (some (chargeHeld e (roomTouched (submitted p s) (chargedState p e i s))))
      (chargedState p e i s) := by
  have h' : flowRefusal e.body i (submitted p s) = none := (flowRefusal_submitted p e.body i s).trans h
  have room' : saturated i (submitted p s) = false := by
    rw [← not_saturated room]
    cases p <;> rfl
  have held : box p (chargedState p e i s) = some (chargeHeld e []) := by
    rw [(chargedState_watch p e i scrub).box, (chargedWork_work p e i s).box, box_setBox_same]
  rw [flow_charged h' room']
  exact setNext_eq (h := chargeHeld e []) .charged _ held

/-- What a charge leaves in every theft state. -/
theorem chargedState_kept (p : Port) (e : Envelope) (i : SlotId) (scrub : ScrubInWiping s) :
    (chargedState p e i s).engine = s.engine ∧ (chargedState p e i s).w = { s.w with
      watch := (chargedState p e i s).w.watch, plan := (chargedState p e i s).w.plan,
      counts := (chargedWork p e i s).w.counts, creds := (chargedWork p e i s).w.creds } ∧
    (chargedState p e i s).backoff = (chargedWork p e i s).backoff ∧ (chargedState p e i s).coverPermit = s.coverPermit := by
  have watch := (chargedState_watch p e i scrub).frame
  have work := (chargedWork_work p e i s).frame
  obtain ⟨u, eq⟩ : ∃ u, chargedWork p e i s = u := ⟨_, rfl⟩
  rw [eq] at watch work ⊢
  rw [watch, work]
  cases p <;> exact ⟨rfl, rfl, rfl, rfl⟩

theorem chargedWork_kept (p : Port) (e : Envelope) (i : SlotId) (s : State) :
    (chargedWork p e i s).w.watch = s.w.watch ∧ (chargedWork p e i s).w.plan = s.w.plan ∧ (chargedWork p e i s).wipe = s.wipe ∧
    (chargedWork p e i s).twu = s.twu ∧ (chargedWork p e i s).keys = s.keys ∧ (chargedWork p e i s).bands = s.bands ∧
    (chargedWork p e i s).link = s.link ∧ (chargedWork p e i s).dq = s.dq ∧ (chargedWork p e i s).laneA = s.laneA ∧
    (chargedWork p e i s).laneB = s.laneB ∧ (chargedWork p e i s).psp = (submitted p s).psp := by
  have work := (chargedWork_work p e i s).frame
  obtain ⟨u, eq⟩ : ∃ u, chargedWork p e i s = u := ⟨_, rfl⟩
  rw [eq] at work ⊢
  rw [work]
  cases p <;> exact ⟨rfl, rfl, rfl, rfl, rfl, rfl, rfl, rfl, rfl, rfl, rfl⟩

/-- In DORMANT a charge is the slot's part alone. -/
theorem chargedState_dormant (p : Port) (e : Envelope) (i : SlotId) (dormant : theft s = .dormant) :
    chargedState p e i s = chargedWork p e i s := by
  have same : theft (chargedWork p e i s) = .dormant := by
    rw [(chargedWork_work p e i s).countsOnly.theft, theft, setBox_w, ← dormant]
    cases p <;> rfl
  have armed : theft (chargedWork p e i s) ≠ .armed := by simp [same]
  have suspect : theft (chargedWork p e i s) ≠ .suspect := by simp [same]
  exact budgetAfter_still _ armed suspect

theorem count_held (p : Port) (h : Option Held) (j : SlotId) (s : State) : count (setBox p h (submitted p s)) j = count s j := by
  cases p <;> rfl

theorem cred_held (p : Port) (h : Option Held) (j : SlotId) (s : State) : cred (setBox p h (submitted p s)) j = cred s j := by
  cases p <;> rfl

theorem reference_held (p : Port) (h : Option Held) (q : PageId) (s : State) :
    reference (setBox p h (submitted p s)) q = reference s q := by cases p <;> rfl

theorem pageOf_submitted (p : Port) (q : PageId) (s : State) : pageOf (submitted p s) q = pageOf s q := by cases p <;> rfl

theorem waits_congr {k : Waiter} (h : t.ks = s.ks) : waits k t = waits k s := by
  unfold waits
  rw [h]

/-- Settles O37. -/
theorem chargeBeforeVerify : Obligations.ChargeBeforeVerify := by
  unfold Obligations.ChargeBeforeVerify
  refine ⟨fun c p e i s request slot takes empty mailbox owned passes full => ?_, fun body i s slot => ⟨fun turned => ?_,
    fun lets => flowRefusal_passes ((flowPasses_iff slot).mpr lets)⟩,
    fun c p e i s request slot takes empty mailbox owned passes room scrub => ?_⟩
  · have full' : saturated i (submitted p s) = true := by
      rw [← saturated_of_full full]
      cases p <;> rfl
    rw [exec_flow request slot takes empty mailbox owned,
      flow_saturated ((flowRefusal_submitted p e.body i s).trans passes) full', handVerify_hold]
  · refine flowRefusal_denied ?_
    rw [← Bool.not_eq_true, flowPasses_iff slot]
    exact not_not.mpr turned
  · have watch := chargedState_watch p e i scrub
    have work := chargedWork_work p e i s
    obtain ⟨engine, w, backoff, permit⟩ := chargedState_kept p e i scrub
    have room' : count (setBox p (some (chargeHeld e [])) (submitted p s)) i <
        (cred (setBox p (some (chargeHeld e [])) (submitted p s)) i).hard := by
      rw [count_held, cred_held]
      exact room
    have rested : backoffOf (setBox p (some (chargeHeld e [])) (submitted p s)) i = 0 := by
      rw [← backoff_of_flow passes]
      cases p <;> rfl
    have counts (j : SlotId) : count (chargedWork p e i s) j = if j = i then count s i + 1 else count s j := by
      rw [chargedWork, count_chargedSlot _ room', count_held, count_held]
    have creds (j : SlotId) : cred (chargedWork p e i s) j =
        if j = i ∧ i ≠ 0 ∧ count s i + 1 = (cred s i).hard then { cred s i with state := .disabled } else cred s j := by
      rw [chargedWork, cred_chargedSlot _ room', count_held, cred_held, cred_held]
    refine ⟨_, (exec_flow request slot takes empty mailbox owned).trans
        (congrArg (fun x => Host.Outcome.next (settle x)) (flow_charges passes room scrub)),
      ⟨_, box_setBox_same _ p _, fun q => ?_⟩, ?_, fun j => ?_, fun j => ?_, ?_, ?_, ?_, ?_, ?_, ?_, ?_, ?_, fun stale => ?_, ?_,
      fun dormant => ?_⟩
    · rw [mem_roomTouched, pageOf_submitted, setBox_ks]
      exact Iff.of_eq (congrArg (fun x => onList (chargedState p e i s).ks.room q = true ∧ pageOf s q ≠ content x q)
        (setBox_w _ p _).symm)
    · rw [box_setBox_other, watch.box, work.box, box_setBox_other, box_submitted]
    · rw [count, setBox_w, w]
      exact counts j
    · rw [cred, setBox_w, w]
      exact creds j
    · rw [setBox_backoff, backoff, chargedWork, backoff_chargedSlot _ rested]
      cases p <;> rfl
    · rw [setBox_engine, engine]
    · rw [setBox_w, w]
    · rw [setBox_w, w]
    · rw [setBox_w, w]
    · rw [setBox_w, w]
    · rw [setBox_coverPermit, permit]
    · exact (watch.carried (attemptPage_ne i).1 (attemptPage_ne i).2 (carried_chargedSlot i _ _)).keep (setBox_w _ p _) (setBox_ks _ p _)
    · rw [waits_congr (setBox_ks _ p _)]
      refine watch.waiting _ (waits_chargedSlot List.mem_cons_self room' ?_)
      rw [reference_held, count_held]
      exact stale
    · have follows := budgetAfter_follows work.countsOnly (chargedWork_orders p e i scrub)
      exact (follows.congr (budgetBefore_held p _ s).symm).keep (watchAfter_setBox p _ _)
    · have kept := chargedWork_kept p e i s
      rw [← chargedState_dormant p e i dormant] at kept
      simp only [setBox_w, setBox_wipe, setBox_twu, setBox_keys, setBox_bands, setBox_link, setBox_dq, setBox_laneA, setBox_laneB,
        setBox_psp]
      exact kept

end

/-! # Jobs that end, and the open loads -/

section

variable {s t u : State} {p : Port} {j : Job} {h : Held}

/-! ## A job that ends (R90, R100) -/

theorem mailboxRunning_of (running : Running p j h s) : mailboxRunning s = some (p, j, h) := by
  obtain ⟨job, held⟩ := running
  unfold mailboxRunning
  rw [job]
  dsimp only
  rw [held]
  rfl

theorem box_endJob (p : Port) (s : State) : box p (endJob s) = box p s := by cases p <;> rfl

theorem exec_verify (running : Running p .verify h s) :
    exec .verifyJobComplete s = .next (settle (verified p h (heldSlot h) (endJob s))) := by
  show execVerifyJobComplete s = _
  unfold execVerifyJobComplete
  rw [mailboxRunning_of running]

theorem exec_unlockJob {salt : Secret} {ws : List (BandId × Wrap)} (running : Running p (.unlock salt ws) h s) :
    exec .unlockJobComplete s = .next (settle (unlockDone p h salt ws (endJob s))) := by
  show execUnlockJobComplete s = _
  unfold execUnlockJobComplete
  rw [mailboxRunning_of running]

theorem exec_ownJob (d : Draw) (running : Running p .own h s) :
    exec (.ownJobComplete d) s = .next (settle (ownDone p h d (endJob s))) := by
  show execOwnJobComplete d s = _
  unfold execOwnJobComplete
  rw [mailboxRunning_of running]

theorem exec_setCredJob (d : Draw) (running : Running p .setCred h s) :
    exec (.setCredJobComplete d) s = .next (settle (setCredDone p h d (endJob s))) := by
  show execSetCredJobComplete d s = _
  unfold execSetCredJobComplete
  rw [mailboxRunning_of running]

theorem exec_setCredAdminJob (d : Draw) (running : Running p .setCredAdmin h s) :
    exec (.setCredAdminJobComplete d) s = .next (settle (setCredAdminDone p h d (endJob s))) := by
  show execSetCredAdminJobComplete d s = _
  unfold execSetCredAdminJobComplete
  rw [mailboxRunning_of running]

theorem exec_grantJob (running : Running p .grant h s) :
    exec .grantJobComplete s = .next (settle (grantDone p h (endJob s))) := by
  show execGrantJobComplete s = _
  unfold execGrantJobComplete
  rw [mailboxRunning_of running]

theorem exec_bandSetJob (running : Running p .bandSet h s) :
    exec .bandSetJobComplete s = .next (settle (bandSetDone p h (endJob s))) := by
  show execBandSetJobComplete s = _
  unfold execBandSetJobComplete
  rw [mailboxRunning_of running]

theorem exec_bandSetRangeJob (d : Draw) (running : Running p .bandSetRange h s) :
    exec (.bandSetRangeJobComplete d) s = .next (settle (bandSetRangeDone p h d (endJob s))) := by
  show execBandSetRangeJobComplete d s = _
  unfold execBandSetRangeJobComplete
  rw [mailboxRunning_of running]

theorem exec_bandEraseJob (d : Draw) (running : Running p .bandErase h s) :
    exec (.bandEraseJobComplete d) s = .next (settle (bandEraseDone p h d (endJob s))) := by
  show execBandEraseJobComplete d s = _
  unfold execBandEraseJobComplete
  rw [mailboxRunning_of running]

theorem exec_recoverJob (running : Running p .recover h s) :
    exec .watchRecoverJobComplete s = .next (settle (recoverDone p (endJob s))) := by
  show execWatchRecoverJobComplete s = _
  unfold execWatchRecoverJobComplete
  rw [mailboxRunning_of running]

/-- A mailbox has one running job. -/
theorem running_unique {q : Port} {k : Job} {g : Held} (a : Running p j h s) (b : Running q k g s) : p = q ∧ j = k ∧ h = g := by
  have same := (mailboxRunning_of a).symm.trans (mailboxRunning_of b)
  simpa using same

/-! ## What a held request does next -/

theorem nextAct_eq (before : State) (x : ReqStage) (held : box p t = some h) :
    nextAct p before x t = setBox p (some { h with stage := x, room := roomTouched before t }) t := setNext_eq x _ held

theorem answers_setBox (x : RStatus) (g : BandSet) (room : List PageId) (t : State) :
    Answers p h x g (setBox p (some { h with stage := .answering x g, room := room }) t) := ⟨room, box_setBox_same _ p _⟩

theorem noEntropy_eq (held : box p s = some h) :
    noEntropy p s = setBox p (some { h with stage := ends .noEntropy, room := roomTouched s (failEntropy s) }) (failEntropy s) := by
  refine nextAct_eq s (ends .noEntropy) ?_
  cases p <;> exact held

/-- A job that gets no value changes nothing but the ES, and its request ends NO_ENTROPY. -/
theorem noEntropy_ends {c : Instr} (held : box p s = some h) (run : exec c s = .next (settle (noEntropy p (endJob s)))) :
    ∃ x, exec c s = .next (settle x) ∧ Answers p h .noEntropy 0 x ∧ x.entropyFailed = true ∧ x.w = s.w ∧ x.ks = s.ks ∧
      x.keys = s.keys ∧ x.bands = s.bands ∧ x.backoff = s.backoff := by
  have held' : box p (endJob s) = some h := (box_endJob p s).trans held
  refine ⟨_, run, ?_⟩
  rw [noEntropy_eq held']
  refine ⟨answers_setBox _ _ _ _, ?_⟩
  simp only [setBox_entropyFailed, setBox_w, setBox_ks, setBox_keys, setBox_bands, setBox_backoff]
  exact ⟨rfl, rfl, rfl, rfl, rfl, rfl⟩

theorem drawn_none {d : Draw} (failed : d = none ∨ s.entropyFailed = true) : drawn s d = none := by
  unfold drawn
  rcases failed with rfl | failed
  · simp
  · rw [if_pos failed]

theorem drawn_good (good : s.entropyFailed = false) (d : Draw) : drawn s d = d := if_neg (by simp [good])

/-! ## Open loads (R5, R120, R148) -/

theorem flags_lanesReact (orders : noOrders s = true) (b : BandId) : flags (lanesReact s) b = flags s b := by
  rw [flags, lanesReact_bands orders]
  rfl

theorem entry_lanesReact (orders : noOrders s = true) (k : KeyName) : entry (lanesReact s) k = entry s k := by
  unfold entry
  rw [lanesReact_keys orders]

theorem TrafficOnly.box (k : TrafficOnly s t) (p : Port) : Machine.box p t = Machine.box p s := by
  rw [k]
  cases p <;> rfl

/-- A band that a lock would leave open takes the flags of its enables and the key at hand. -/
theorem settlePair_open {b : BandId} {k : MediaKey} (free : barred s = false) (secret : hasSecret s b = true)
    (rle : (record s b).rle = false) : settlePair s b (some k) =
      ({ readLocked := false, writeLocked := (record s b).wle, pendingLoad := false, held := false },
        if present s (.band b) then entry s (.band b) else loaded k (entry s (.band b))) := by
  unfold settlePair
  dsimp only
  rw [if_neg (by simp [free, secret, withLock_eq, rle, closed])]
  simp only [withLock_eq, rle, Bool.or_false]
  rfl

theorem settlePair_closed {b : BandId} {k : Option MediaKey}
    (h : (record s b).rle = true ∨ barred s = true ∨ hasSecret s b = false) : settlePair s b k =
      ({ readLocked := true, writeLocked := true, pendingLoad := false, held := false }, removed (entry s (.band b))) := by
  unfold settlePair
  dsimp only
  rw [if_pos (by rcases h with h | h | h <;> simp [h, withLock_eq, closed])]
  rfl

theorem hasSecret_of_openKey {b : BandId} {k : MediaKey} (h : openKey s b = some k) : hasSecret s b = true := by
  unfold openKey at h
  split at h
  · rename_i secret
    rw [hasSecret, secret]
    rfl
  · cases h

theorem openLoads_bands (b : BandId) :
    (barred s = true ∨ (flags s b).pendingLoad = false →
      flags (applyOpenLoads s) b = flags s b ∧ entry (applyOpenLoads s) (.band b) = entry s (.band b)) ∧
    ∀ k : MediaKey, barred s = false → (flags s b).pendingLoad = true → openKey s b = some k → (record s b).rle = false →
      present s (.band b) = false →
      flags (applyOpenLoads s) b =
        { readLocked := false, writeLocked := (record s b).wle, pendingLoad := false, held := false } ∧
      entry (applyOpenLoads s) (.band b) = loaded k (entry s (.band b)) := by
  unfold applyOpenLoads
  rw [flags_tabBands, entry_tabBands]
  unfold openLoadPair
  refine ⟨fun stays => ?_, fun k free pending key rle absent => ?_⟩
  · rw [if_neg (by rcases stays with h | h <;> simp [h])]
    exact ⟨rfl, rfl⟩
  · rw [if_pos (by simp [free, pending]), key, settlePair_open free (hasSecret_of_openKey key) rle, absent]
    exact ⟨rfl, rfl⟩

theorem applyOpenLoads_frame (s : State) : applyOpenLoads s =
    { s with bands := (applyOpenLoads s).bands, keys := { s.keys with bands := (applyOpenLoads s).keys.bands } } := rfl

theorem wipeRunning_of (running : s.engine.running = some (.wipe, j)) : wipeRunning s = some j := by
  unfold wipeRunning
  rw [running]

theorem exec_openLoadJob (running : s.engine.running = some (.wipe, .openLoad)) :
    exec .openLoadJobComplete s = .next (settle (openLoadDone (endJob s))) := by
  show execOpenLoadJobComplete s = _
  unfold execOpenLoadJobComplete
  rw [wipeRunning_of running]

/-- Settles O52. -/
theorem openLoadsAreApplied : Obligations.OpenLoadsAreApplied := by
  unfold Obligations.OpenLoadsAreApplied
  intro c s scrub calm command
  have orders : noOrders s = true := by
    rcases calm with free | orders
    · exact scrub.noOrders (by intro wiping; simp [barred, wiping] at free)
    · exact orders
  have orders' : noOrders (applyOpenLoads (endJob s)) = true := orders
  have traffic := lanesReact_traffic orders'
  have bands (b : BandId) := openLoads_bands (s := endJob s) b
  obtain ⟨u, react⟩ : ∃ u, lanesReact (applyOpenLoads (endJob s)) = u := ⟨_, rfl⟩
  have flagsU (b : BandId) : flags u b = flags (applyOpenLoads (endJob s)) b := react ▸ flags_lanesReact orders' b
  have entryU (k : KeyName) : entry u k = entry (applyOpenLoads (endJob s)) k := react ▸ entry_lanesReact orders' k
  rw [react] at traffic
  have kept : u.w = s.w ∧ u.ks = s.ks ∧ u.engine = { s.engine with running := none } :=
    ⟨traffic.w, traffic.ks, traffic.engine⟩
  obtain ⟨w, ks, engine⟩ := kept
  have applied (b : BandId) :
      (barred s = true ∨ (flags s b).pendingLoad = false → SameBand b s u) ∧
      ∀ k : MediaKey, barred s = false → (flags s b).pendingLoad = true → openKey s b = some k → (record s b).rle = false →
        present s (.band b) = false →
        flags u b = { readLocked := false, writeLocked := (record s b).wle, pendingLoad := false, held := false } ∧
        entry u (.band b) = loaded k (entry s (.band b)) := by
    unfold SameBand
    rw [flagsU, entryU]
    exact bands b
  rcases command with ⟨rfl, p, h, running⟩ | ⟨rfl, running⟩
  · have held : box p u = some h := by
      rw [traffic.box, applyOpenLoads_frame, ← running.2]
      cases p <;> rfl
    have done : recoverDone p (endJob s) =
        setBox p (some { h with stage := ends .ok, room := roomTouched (endJob s) u }) u := by
      unfold recoverDone
      rw [react]
      exact nextAct_eq _ _ held
    refine ⟨_, (exec_recoverJob running).trans (congrArg (fun x => Host.Outcome.next (settle x)) done), ?_, ?_, ?_,
      fun q g _ other => ?_, fun b => ?_⟩
    · rw [setBox_w, w]
    · rw [setBox_ks, ks]
    · rw [setBox_engine, engine]
    · obtain ⟨rfl, -, rfl⟩ := running_unique running other
      exact answers_setBox _ _ _ _
    · unfold SameBand flags entry
      rw [setBox_bands, setBox_keys]
      exact applied b
  · refine ⟨u, (exec_openLoadJob running).trans (congrArg (fun x => Host.Outcome.next (settle x)) react), w, ks, engine,
      fun q g other => (by cases other), applied⟩

end

/-! # Acts on the slots and what the watch makes of them -/

section

variable {s t u : State} {p : Port} {h : Held} {i j : SlotId}

/-! ## Acts on the slots, and what the watch makes of them -/

/-- An act on the slots that may have changed the theft state. -/
structure SlotWatch (s t : State) : Prop where
  frame : t = { s with
    w := { s.w with watch := t.w.watch, plan := t.w.plan, counts := t.w.counts, creds := t.w.creds },
    twu := { s.twu with grace := t.twu.grace, counter := t.twu.counter }, backoff := t.backoff,
    bands := t.bands, keys := { s.keys with bands := t.keys.bands }, ks := t.ks, wipe := t.wipe,
    psp := { s.psp with notice := t.psp.notice }, dq := t.dq, laneA := t.laneA, laneB := t.laneB,
    link := { s.link with outbound := t.link.outbound } }

theorem SlotWatch.refl (s : State) : SlotWatch s s := ⟨rfl⟩

theorem SlotWatch.trans (h : SlotWatch s t) (k : SlotWatch t u) : SlotWatch s u := ⟨by rw [k.frame, h.frame]⟩

theorem SlotWork.slotWatch (h : SlotWork s t) : SlotWatch s t := ⟨by rw [h.frame]⟩

theorem WatchOnly.slotWatch (h : WatchOnly s t) : SlotWatch s t := ⟨by rw [h.frame]⟩

theorem SlotWatch.box (k : SlotWatch s t) (p : Port) : Machine.box p t = Machine.box p s := by
  rw [k.frame]
  cases p <;> rfl

theorem SlotWatch.root (k : SlotWatch s t) : t.w.root = s.w.root := by rw [k.frame]
theorem SlotWatch.secrets (k : SlotWatch s t) : t.w.secrets = s.w.secrets := by rw [k.frame]
theorem SlotWatch.records (k : SlotWatch s t) : t.w.bands = s.w.bands := by rw [k.frame]
theorem SlotWatch.config (k : SlotWatch s t) : t.w.config = s.w.config := by rw [k.frame]
theorem SlotWatch.coverPermit (k : SlotWatch s t) : t.coverPermit = s.coverPermit := by rw [k.frame]
theorem SlotWatch.engine (k : SlotWatch s t) : t.engine = s.engine := by rw [k.frame]
theorem SlotWatch.entropyFailed (k : SlotWatch s t) : t.entropyFailed = s.entropyFailed := by rw [k.frame]
theorem SlotWatch.cover (k : SlotWatch s t) : t.keys.cover = s.keys.cover := by rw [k.frame]
theorem SlotWatch.fill (k : SlotWatch s t) : t.keys.fill = s.keys.fill := by rw [k.frame]

theorem WatchOnly.counts (k : WatchOnly s t) : t.w.counts = s.w.counts := by rw [k.frame]
theorem WatchOnly.creds (k : WatchOnly s t) : t.w.creds = s.w.creds := by rw [k.frame]
theorem WatchOnly.backoff (k : WatchOnly s t) : t.backoff = s.backoff := by rw [k.frame]

theorem WatchOnly.count (k : WatchOnly s t) (j : SlotId) : Machine.count t j = Machine.count s j := by
  unfold Machine.count
  rw [k.counts]

theorem WatchOnly.cred (k : WatchOnly s t) (j : SlotId) : Machine.cred t j = Machine.cred s j := by
  unfold Machine.cred
  rw [k.creds]

theorem WatchOnly.backoffOf (k : WatchOnly s t) (j : SlotId) : Machine.backoffOf t j = Machine.backoffOf s j := by
  unfold Machine.backoffOf
  rw [k.backoff]

theorem count_setBox (p : Port) (x : Option Held) (j : SlotId) : count (setBox p x s) j = count s j := by
  unfold count
  rw [setBox_w]

theorem cred_setBox (p : Port) (x : Option Held) (j : SlotId) : cred (setBox p x s) j = cred s j := by
  unfold cred
  rw [setBox_w]

theorem backoffOf_setBox (p : Port) (x : Option Held) (j : SlotId) : backoffOf (setBox p x s) j = backoffOf s j := by
  unfold backoffOf
  rw [setBox_backoff]

/-! ## Credential pages -/

theorem credPage_val (i : SlotId) : (credPage i).val = 37 + i.val := Nat.mod_eq_of_lt (by omega)

theorem pageOf_credPage (i : SlotId) (s : State) : pageOf s (credPage i) = some (.credential (cred s i)) := by
  have n := credPage_val i
  unfold pageOf content
  dsimp only
  rw [n, if_neg (by omega), if_neg (by omega), if_neg (by omega), if_neg (by omega), if_neg (by omega), if_neg (by omega),
    if_neg (by omega), if_pos (by omega), Nat.add_sub_cancel_left, slotOf_val]
  rfl

theorem credPage_ne (i : SlotId) : credPage i ≠ watchPage ∧ credPage i ≠ journalPage := by
  revert i
  decide

theorem WatchOnly.carriedCred (k : WatchOnly s t) (c : Carried (credPage i) s) : Carried (credPage i) t :=
  k.carried (credPage_ne i).1 (credPage_ne i).2 c

theorem carried_clearCount (c : Carried (credPage j) s) : Carried (credPage j) (clearCount i s) := by
  refine carried_queuePage _ _ (c.congr rfl ?_)
  rw [pageOf_credPage, pageOf_credPage]
  rfl

theorem carried_setBox {q : PageId} (x : Option Held) (c : Carried q s) : Carried q (setBox p x s) :=
  c.keep (setBox_w _ p x) (setBox_ks _ p x)

/-! ## BUDGET in an act on the slots -/

theorem SlotWork.orders (k : SlotWork s t) (scrub : ScrubInWiping s) (calm : theft t ≠ .wiping) : noOrders t = true := by
  rw [k.countsOnly.theft] at calm
  rw [k.countsOnly.noOrders]
  exact scrub.noOrders calm

/-- What BUDGET makes of an act on the slots. -/
theorem SlotWork.budget (k : SlotWork s t) (scrub : ScrubInWiping s) (b : Bool) : WatchOnly t (budgetAfter b t) :=
  budgetAfter_watchOnly b (k.orders scrub)

/-- A change of the theft state that touches no band. -/
theorem changeTheft_still {x : Theft} (old : theft s ≠ .alarm) (ha : x ≠ .alarm) (hw : x ≠ .wiping) (hd : x ≠ .wiped)
    (orders : noOrders s = true) : (changeTheft x s).keys = s.keys ∧ (changeTheft x s).bands = s.bands := by
  rw [changeTheft_keys _ orders, changeTheft_bands _ orders, theftCore_eq, queuePage_keys, queuePage_bands, theftMoved,
    bandsAs_still old ha hw hd]
  exact ⟨rfl, rfl⟩

theorem theft_changeTheft (x : Theft) (orders : noOrders s = true) : theft (changeTheft x s) = x := by
  rw [theft, changeTheft_w x orders]
  rfl

end

/-! # OWN, SET_CRED and GRANT -/

section

variable {s t u : State} {p : Port} {h : Held} {i j : SlotId}

/-! ## OWN (R107) -/

/-- The ADMIN slot as OWN leaves it. -/
def ownedSlot (new salt : Secret) (s : State) : Credential :=
  { cred s 0 with
    state := .set, salt := some salt, verifier := some { secret := new, salt := salt },
    row := fullRow s (.credential 0 (saltOf (cred s 0))) (.credential new salt) }

/-- OWN's change of the slot, and of the theft state from WIPED, with the credential page queued. -/
def owned (new salt : Secret) (s : State) : State :=
  queuePage (credPage 0) [] (if theft s = .wiped then changeTheft .dormant (setCred 0 (ownedSlot new salt s) s)
    else setCred 0 (ownedSlot new salt s) s)

theorem owned_watch (new salt : Secret) (scrub : ScrubInWiping s) :
    WatchOnly (setCred 0 (ownedSlot new salt s) s) (owned new salt s) := by
  refine WatchOnly.trans ?_ (.queue _ _ _)
  split
  · rename_i wiped
    exact changeTheft_watch _ (scrub.noOrders (by simp [wiped]))
  · exact .refl _

theorem theft_owned (new salt : Secret) (scrub : ScrubInWiping s) :
    theft (owned new salt s) = if theft s = .wiped then .dormant else theft s := by
  rw [theft, owned, queuePage_w]
  split
  · rename_i wiped
    exact theft_changeTheft (s := setCred 0 (ownedSlot new salt s) s) .dormant (scrub.noOrders (by simp [wiped]))
  · rfl

theorem applyOwn_watch (new salt : Secret) (scrub : ScrubInWiping s) :
    WatchOnly (clearCount 0 (owned new salt s)) (applyOwn new salt s) := by
  have counts := (clearCount_work (s := owned new salt s) 0).countsOnly
  refine budgetAfter_watchOnly _ fun calm => ?_
  have calm' : theft s ≠ .wiping := fun wiping => by
    refine calm ?_
    rw [counts.theft, theft_owned new salt scrub, wiping]
    rfl
  rw [counts.noOrders, (owned_watch new salt scrub).noOrders]
  exact scrub.noOrders calm'

theorem applyOwn_slotWatch (new salt : Secret) (scrub : ScrubInWiping s) : SlotWatch s (applyOwn new salt s) :=
  ((((SlotWork.refl s).setCred 0 _).slotWatch.trans (owned_watch new salt scrub).slotWatch).trans
    (clearCount_work 0).slotWatch).trans (applyOwn_watch new salt scrub).slotWatch

theorem cred_applyOwn (new salt : Secret) (scrub : ScrubInWiping s) (j : SlotId) :
    cred (applyOwn new salt s) j = if 0 = j then ownedSlot new salt s else cred s j := by
  rw [(applyOwn_watch new salt scrub).cred, cred_clearCount, (owned_watch new salt scrub).cred, cred_setCred]

theorem count_applyOwn (new salt : Secret) (scrub : ScrubInWiping s) (j : SlotId) :
    count (applyOwn new salt s) j = if 0 = j then 0 else count s j := by
  rw [(applyOwn_watch new salt scrub).count, count_clearCount, (owned_watch new salt scrub).count, count_setCred]

theorem backoffOf_applyOwn (new salt : Secret) (scrub : ScrubInWiping s) (j : SlotId) :
    backoffOf (applyOwn new salt s) j = if 0 = j then 0 else backoffOf s j := by
  rw [(applyOwn_watch new salt scrub).backoffOf, backoffOf_clearCount, (owned_watch new salt scrub).backoffOf,
    backoffOf_setCred]

theorem carried_applyOwn (new salt : Secret) (scrub : ScrubInWiping s) : Carried (credPage 0) (applyOwn new salt s) :=
  (applyOwn_watch new salt scrub).carriedCred (carried_clearCount (carried_queuePage_same _ _ _))

/-- OWN in DORMANT and WIPED leaves the part DORMANT with its bands as they were. -/
theorem applyOwn_dormant (new salt : Secret) (scrub : ScrubInWiping s) (rest : theft s = .dormant ∨ theft s = .wiped) :
    theft (applyOwn new salt s) = .dormant ∧ (applyOwn new salt s).keys = s.keys ∧ (applyOwn new salt s).bands = s.bands := by
  have counts := (clearCount_work (s := owned new salt s) 0).countsOnly
  have dormant : theft (clearCount 0 (owned new salt s)) = .dormant := by
    rw [counts.theft, theft_owned new salt scrub]
    rcases rest with rest | rest <;> simp [rest]
  have armed : theft (clearCount 0 (owned new salt s)) ≠ .armed := by rw [dormant]; simp
  have suspect : theft (clearCount 0 (owned new salt s)) ≠ .suspect := by rw [dormant]; simp
  have still : applyOwn new salt s = clearCount 0 (owned new salt s) := budgetAfter_still _ armed suspect
  rw [still]
  refine ⟨dormant, ?_⟩
  rw [counts.keys, counts.bands, owned, queuePage_keys, queuePage_bands]
  split
  · rename_i wiped
    have same : theft (setCred 0 (ownedSlot new salt s) s) = .wiped := wiped
    exact changeTheft_still (s := setCred 0 (ownedSlot new salt s) s) (by simp [same]) (by simp) (by simp) (by simp)
      (scrub.noOrders (by simp [wiped]))
  · exact ⟨rfl, rfl⟩

theorem ScrubInWiping.endJob (scrub : ScrubInWiping s) : ScrubInWiping (Machine.endJob s) := by
  obtain ⟨orders, running, active, fresh⟩ := scrub
  refine ⟨orders, running, active, fun resting => ?_⟩
  obtain ⟨wipe, w, engine, link, side, meter⟩ := fresh resting
  exact ⟨wipe, w, by rw [Machine.endJob, engine]; rfl, link, side, meter⟩

theorem ownDone_drawn {new z : Secret} (own : h.env.body = .own (some new)) (good : s.entropyFailed = false) :
    ownDone p h (some z) s = nextAct p s (ends .ok) (applyOwn new z s) := by
  unfold ownDone
  rw [drawn_good good, own]
  rfl

theorem ownDone_none {d : Draw} (failed : d = none ∨ s.entropyFailed = true) : ownDone p h d s = noEntropy p s := by
  unfold ownDone
  rw [drawn_none failed]

/-- Settles O48. -/
theorem ownSetsTheAdminSlot : Obligations.OwnSetsTheAdminSlot := by
  unfold Obligations.OwnSetsTheAdminSlot
  intro p h new z s running own scrub
  refine ⟨fun good => ?_, fun d failed => ?_⟩
  · have scrub' := scrub.endJob
    have watch := applyOwn_slotWatch new z scrub'
    have held : box p (applyOwn new z (endJob s)) = some h := (watch.box p).trans ((box_endJob p s).trans running.2)
    have done := (ownDone_drawn (p := p) (s := endJob s) own good).trans (nextAct_eq (endJob s) (ends .ok) held)
    refine ⟨_, (exec_ownJob (some z) running).trans (congrArg (fun x => Host.Outcome.next (settle x)) done),
      answers_setBox _ _ _ _, ?_, ?_, ?_, ?_, fun j other => ?_, ?_, ?_, ?_, carried_setBox _ (carried_applyOwn new z scrub'),
      fun rest => ?_⟩
    · rw [cred_setBox, cred_applyOwn new z scrub', if_pos rfl]
      rfl
    · rw [cred_setBox, cred_applyOwn new z scrub', if_pos rfl]
      simp [verifies, ownedSlot, saltOf]
    · rw [count_setBox, count_applyOwn new z scrub', if_pos rfl]
    · rw [backoffOf_setBox, backoffOf_applyOwn new z scrub', if_pos rfl]
    · rw [cred_setBox, cred_applyOwn new z scrub', count_setBox, count_applyOwn new z scrub', backoffOf_setBox,
        backoffOf_applyOwn new z scrub', if_neg (Ne.symm other), if_neg (Ne.symm other), if_neg (Ne.symm other)]
      exact ⟨rfl, rfl, rfl⟩
    · rw [setBox_w, watch.root]
      rfl
    · rw [setBox_w, watch.secrets]
      rfl
    · rw [setBox_w, watch.records]
      rfl
    · rw [theft, setBox_w, setBox_keys, setBox_bands]
      exact applyOwn_dormant new z scrub' rest
  · have run := exec_ownJob d running
    rw [ownDone_none (s := endJob s) failed] at run
    obtain ⟨x, next, answers, es, w, ks, keys, bands, -⟩ := noEntropy_ends running.2 run
    exact ⟨x, next, answers, es, w, ks, keys, bands⟩

/-! ## SET_CRED (R108 to R110) -/

/-- A slot's record replaced, its count cleared and its page queued, in one act on the slots. -/
def slotReplaced (i : SlotId) (c : Credential) (s : State) : State :=
  queuePage (credPage i) [] (clearCount i (setCred i c s))

theorem slotReplaced_work (i : SlotId) (c : Credential) (s : State) : SlotWork s (slotReplaced i c s) :=
  (((SlotWork.refl s).setCred i c).trans (clearCount_work i)).queue _ _

/-- A slot's record replaced, with BUDGET re-evaluated. -/
def slotRenewed (i : SlotId) (c : Credential) (s : State) : State := budgetAfter (budgetAsserted s) (slotReplaced i c s)

theorem slotRenewed_watch (c : Credential) (scrub : ScrubInWiping s) : WatchOnly (slotReplaced i c s) (slotRenewed i c s) :=
  (slotReplaced_work i c s).budget scrub _

theorem slotRenewed_slotWatch (c : Credential) (scrub : ScrubInWiping s) : SlotWatch s (slotRenewed i c s) :=
  (slotReplaced_work i c s).slotWatch.trans (slotRenewed_watch c scrub).slotWatch

theorem cred_slotRenewed (c : Credential) (scrub : ScrubInWiping s) (j : SlotId) :
    cred (slotRenewed i c s) j = if i = j then c else cred s j := by
  rw [(slotRenewed_watch c scrub).cred, slotReplaced, cred_queuePage, cred_clearCount, cred_setCred]

theorem count_slotRenewed (c : Credential) (scrub : ScrubInWiping s) (j : SlotId) :
    count (slotRenewed i c s) j = if i = j then 0 else count s j := by
  rw [(slotRenewed_watch c scrub).count, slotReplaced, count_queuePage, count_clearCount, count_setCred]

theorem backoffOf_slotRenewed (c : Credential) (scrub : ScrubInWiping s) (j : SlotId) :
    backoffOf (slotRenewed i c s) j = if i = j then 0 else backoffOf s j := by
  rw [(slotRenewed_watch c scrub).backoffOf, slotReplaced, backoffOf_queuePage, backoffOf_clearCount, backoffOf_setCred]

theorem carried_slotRenewed (c : Credential) (scrub : ScrubInWiping s) : Carried (credPage i) (slotRenewed i c s) :=
  (slotRenewed_watch c scrub).carriedCred (carried_queuePage_same _ _ _)

/-- A SET_CRED target's record with the new secret, salt, limits and row. -/
def renewedSlot (a : LimitArgs) (new z : Secret) (row : Vector (Option Wrap) 16) (c : Credential) : Credential :=
  { c with
    state := .set, salt := some z, verifier := some { secret := new, salt := z }, hard := a.hard.toNat,
    free := a.free.toNat, base := a.base.toNat, cap := a.cap.toNat, row := row }

/-- A SET_CRED's completion as the request's answer and the change of the slot. -/
theorem renews_slot {c : Instr} {r : Credential} (held : box p s = some h) (scrub : ScrubInWiping s)
    (run : exec c s = .next (settle (nextAct p (endJob s) (ends .ok) (slotRenewed i r (endJob s))))) :
    ∃ x, exec c s = .next (settle x) ∧ Answers p h .ok 0 x ∧ cred x i = r ∧ count x i = 0 ∧ backoffOf x i = 0 ∧
      Carried (credPage i) x ∧
      ∀ j : SlotId, j ≠ i → cred x j = cred s j ∧ count x j = count s j ∧ backoffOf x j = backoffOf s j := by
  have scrub' := scrub.endJob
  have held' : box p (slotRenewed i r (endJob s)) = some h :=
    ((slotRenewed_slotWatch r scrub').box p).trans ((box_endJob p s).trans held)
  rw [nextAct_eq _ _ held'] at run
  refine ⟨_, run, answers_setBox _ _ _ _, ?_, ?_, ?_, carried_setBox _ (carried_slotRenewed r scrub'), fun j other => ?_⟩
  · rw [cred_setBox, cred_slotRenewed r scrub', if_pos rfl]
  · rw [count_setBox, count_slotRenewed r scrub', if_pos rfl]
  · rw [backoffOf_setBox, backoffOf_slotRenewed r scrub', if_pos rfl]
  · rw [cred_setBox, cred_slotRenewed r scrub', count_setBox, count_slotRenewed r scrub', backoffOf_setBox,
      backoffOf_slotRenewed r scrub', if_neg (Ne.symm other), if_neg (Ne.symm other), if_neg (Ne.symm other)]
    exact ⟨rfl, rfl, rfl⟩

theorem setCredDone_drawn {y : Option Secret} {a : LimitArgs} {new z : Secret} (body : h.env.body = .setCred y (some a) (some new))
    (good : s.entropyFailed = false) : setCredDone p h (some z) s = nextAct p s (ends .ok) (slotRenewed (slotOf a.target.toNat)
      (renewedSlot a new z (tab16 fun b => ((cred s (slotOf a.target.toNat)).row.get b).map fun _ =>
        { key := rowKey (cred s 0) b (adminUnder h s), under := .credential new z }) (cred s (slotOf a.target.toNat))) s) := by
  unfold setCredDone
  rw [drawn_good good, body]
  rfl

theorem setCredAdminDone_drawn {y : Option Secret} {a : LimitArgs} {new z : Secret}
    (body : h.env.body = .setCred y (some a) (some new)) (good : s.entropyFailed = false) :
    setCredAdminDone p h (some z) s = nextAct p s (ends .ok) (slotRenewed 0
      (renewedSlot a new z (fullRow s (adminUnder h s) (.credential new z)) (cred s 0)) s) := by
  unfold setCredAdminDone
  rw [drawn_good good, body]
  rfl

theorem setCredDone_none {d : Draw} (failed : d = none ∨ s.entropyFailed = true) : setCredDone p h d s = noEntropy p s := by
  unfold setCredDone
  rw [drawn_none failed]

theorem setCredAdminDone_none {d : Draw} (failed : d = none ∨ s.entropyFailed = true) :
    setCredAdminDone p h d s = noEntropy p s := by
  unfold setCredAdminDone
  rw [drawn_none failed]

/-! ## GRANT (R111) -/

/-- A GRANT that its target's secret verifies. -/
theorem grantDone_grants {y : Option Secret} {a : RowArgs} {target : Secret} (body : h.env.body = .grant y (some a) (some target))
    (some' : (cred s (slotOf a.target.toNat)).state ≠ .empty) (on : (cred s (slotOf a.target.toNat)).state ≠ .disabled)
    (right : verifies (cred s (slotOf a.target.toNat)) target = true) : grantDone p h s = nextAct p s (ends .ok)
      (queuePage (credPage (slotOf a.target.toNat)) [] (setCred (slotOf a.target.toNat)
        { cred s (slotOf a.target.toNat) with row := grantedRow h a target s } s)) := by
  unfold grantDone
  rw [body]
  dsimp only
  rw [if_neg some', if_neg (by simp [right]), if_neg on]

theorem grantDone_wrong {y : Option Secret} {a : RowArgs} {target : Secret} (body : h.env.body = .grant y (some a) (some target))
    (some' : (cred s (slotOf a.target.toNat)).state ≠ .empty)
    (wrong : verifies (cred s (slotOf a.target.toNat)) target = false) : grantDone p h s = nextAct p s (ends .badArgument) s := by
  unfold grantDone
  rw [body]
  dsimp only
  rw [if_neg some', if_pos (by simp [wrong])]

/-- Settles O49. -/
theorem credentialJobsReplaceRows : Obligations.CredentialJobsReplaceRows := by
  unfold Obligations.CredentialJobsReplaceRows
  intro p h s y scrub
  refine ⟨fun c d failed which => ?_, fun a new z i body target good => ⟨fun running => ?_, fun running => ?_⟩,
    fun a target i body slot running some' => ⟨fun wrong => ?_, fun right on => ?_⟩⟩
  · rcases which with ⟨running, rfl⟩ | ⟨running, rfl⟩
    · have run := exec_setCredJob d running
      rw [setCredDone_none (s := endJob s) failed] at run
      exact noEntropy_ends running.2 run
    · have run := exec_setCredAdminJob d running
      rw [setCredAdminDone_none (s := endJob s) failed] at run
      exact noEntropy_ends running.2 run
  · subst target
    exact renews_slot running.2 scrub ((exec_setCredJob (some z) running).trans
      (congrArg (fun x => Host.Outcome.next (settle x)) (setCredDone_drawn (s := endJob s) body good)))
  · exact renews_slot running.2 scrub ((exec_setCredAdminJob (some z) running).trans
      (congrArg (fun x => Host.Outcome.next (settle x)) (setCredAdminDone_drawn (s := endJob s) body good)))
  · subst slot
    have held : box p (endJob s) = some h := (box_endJob p s).trans running.2
    have done := (grantDone_wrong (p := p) (s := endJob s) body some' wrong).trans (nextAct_eq (endJob s) _ held)
    refine ⟨_, (exec_grantJob running).trans (congrArg (fun x => Host.Outcome.next (settle x)) done), answers_setBox _ _ _ _, ?_, ?_⟩
    · rw [setBox_w]
      rfl
    · rw [setBox_ks]
      rfl
  · subst slot
    have work := ((SlotWork.refl (endJob s)).setCred (slotOf a.target.toNat)
      { cred s (slotOf a.target.toNat) with row := grantedRow h a target (endJob s) }).queue (credPage (slotOf a.target.toNat)) []
    have held := (work.box p).trans ((box_endJob p s).trans running.2)
    have done := (grantDone_grants (p := p) (s := endJob s) body some' on right).trans (nextAct_eq (endJob s) _ held)
    refine ⟨_, (exec_grantJob running).trans (congrArg (fun x => Host.Outcome.next (settle x)) done), answers_setBox _ _ _ _,
      carried_setBox _ (carried_queuePage_same _ _ _), ?_, ?_, fun j other => ?_⟩
    · rw [cred_setBox, cred_queuePage, cred_setCred, if_pos rfl]
      rfl
    · rw [setBox_w, queuePage_w]
      rfl
    · rw [cred_setBox, cred_queuePage, cred_setCred, if_neg (Ne.symm other)]
      rfl

end

/-! # One band's flags and entry, and UNLOCK -/

section

variable {s t u : State} {p : Port} {h : Held} {b c : BandId}

/-! ## One band's flags and entry -/

theorem flags_setPair (b c : BandId) (x : BandFlags × LiveKey) (s : State) :
    flags (setPair b x s) c = if b = c then x.1 else flags s c := get_put _ _ _ _

theorem entry_setPair (b c : BandId) (x : BandFlags × LiveKey) (s : State) :
    entry (setPair b x s) (.band c) = if b = c then x.2 else entry s (.band c) := get_put _ _ _ _

theorem sameBand_setPair (x : BandFlags × LiveKey) (other : c ≠ b) : SameBand c s (setPair b x s) := by
  unfold SameBand
  rw [flags_setPair, entry_setPair, if_neg (Ne.symm other), if_neg (Ne.symm other)]
  exact ⟨rfl, rfl⟩

theorem SameBand.trans (k : SameBand c s t) (l : SameBand c t u) : SameBand c s u := ⟨l.1.trans k.1, l.2.trans k.2⟩

theorem sameBand_lanesReact (orders : noOrders s = true) (c : BandId) : SameBand c s (lanesReact s) :=
  ⟨flags_lanesReact orders c, entry_lanesReact orders _⟩

theorem SameBand.of_tables (bands : t.bands = s.bands) (keys : t.keys.bands = s.keys.bands) : SameBand c s t := by
  refine ⟨?_, ?_⟩
  · rw [flags, bands]
    rfl
  · show t.keys.bands.get c = _
    rw [keys]
    rfl

theorem sameBand_setBox (x : Option Held) (c : BandId) : SameBand c s (setBox p x s) :=
  .of_tables (setBox_bands _ p x) (by rw [setBox_keys])

theorem sameBand_queuePage (q : PageId) (ws : List Waiter) (c : BandId) : SameBand c s (queuePage q ws s) :=
  .of_tables (queuePage_bands _ _ _) (by rw [queuePage_keys])

/-! ## UNLOCK (R104, R4) -/

/-- What an unlock makes of its band. -/
def unlocked (s : State) (b : BandId) (r w : Bool) (k : MediaKey) : BandFlags × LiveKey :=
  if unlockDiscarded s b || !(r || w) then bandPair s b else unlockPair s b r w k

theorem unlockBand_at (b c : BandId) (r w : Bool) (k : MediaKey) (s : State) :
    bandPair (unlockBand b r w k s) c = if b = c then unlocked s b r w k else bandPair s c := by
  unfold unlockBand unlocked
  split
  · split
    · rename_i same
      rw [same]
    · rfl
  · rename_i h
    have f := flags_setPair b c (unlockPair s b r w k) s
    have e := entry_setPair b c (unlockPair s b r w k) s
    unfold bandPair
    refine Prod.ext ?_ ?_
    · rw [f]
      split <;> rfl
    · show entry _ (.band c) = _
      rw [e]
      split <;> rfl

theorem unlockBand_w (b : BandId) (r w : Bool) (k : MediaKey) (s : State) : (unlockBand b r w k s).w = s.w := by
  unfold unlockBand
  split <;> rfl

theorem unlocked_congr {r w : Bool} {k : MediaKey} (same : bandPair t b = bandPair s b) (kept : t.w = s.w) :
    unlocked t b r w k = unlocked s b r w k := by
  have flags' : flags t b = flags s b := congrArg Prod.fst same
  have keys' : t.keys.bands.get b = s.keys.bands.get b := congrArg Prod.snd same
  unfold unlocked unlockDiscarded unlockPair barred theft hasSecret record
  rw [same, flags', keys', kept]

theorem applyUnlocks_frame (x : UnlockArgs) (v : WrapUnder) (ws : List (BandId × Wrap)) (s : State) :
    applyUnlocks x v ws s = { s with
      bands := (applyUnlocks x v ws s).bands, keys := { s.keys with bands := (applyUnlocks x v ws s).keys.bands } } := by
  induction ws generalizing s with
  | nil => rfl
  | cons bw ws ih =>
    have step (r w : Bool) (k : MediaKey) : unlockBand bw.1 r w k s = { s with
        bands := (unlockBand bw.1 r w k s).bands,
        keys := { s.keys with bands := (unlockBand bw.1 r w k s).keys.bands } } := by
      unfold unlockBand
      split <;> rfl
    unfold applyUnlocks
    rw [ih, step]

theorem applyUnlocks_other (x : UnlockArgs) (v : WrapUnder) (ws : List (BandId × Wrap)) (s : State)
    (h : b ∉ ws.map Prod.fst) : bandPair (applyUnlocks x v ws s) b = bandPair s b := by
  induction ws generalizing s with
  | nil => rfl
  | cons bw ws ih =>
    simp only [List.map_cons, List.mem_cons, not_or] at h
    unfold applyUnlocks
    rw [ih _ h.2, unlockBand_at, if_neg (Ne.symm h.1)]

theorem applyUnlocks_member (x : UnlockArgs) (v : WrapUnder) (ws : List (BandId × Wrap)) (s : State) {w : Wrap}
    (distinct : (ws.map Prod.fst).Nodup) (h : (b, w) ∈ ws) : bandPair (applyUnlocks x v ws s) b =
      unlocked s b (x.directions.getLsbD 0) (x.directions.getLsbD 1)
        (mediaKey s (unwrap w v) ((s.w.secrets.get b).getD 0)) := by
  induction ws generalizing s with
  | nil => cases h
  | cons bw ws ih =>
    rw [List.map_cons, List.nodup_cons] at distinct
    unfold applyUnlocks
    rcases List.mem_cons.mp h with rfl | later
    · rw [applyUnlocks_other _ _ _ _ distinct.1, unlockBand_at, if_pos rfl]
    · have other : bw.1 ≠ b := fun same => distinct.1 (same ▸ List.mem_map_of_mem later)
      have kept := unlockBand_w bw.1 (x.directions.getLsbD 0) (x.directions.getLsbD 1)
        (mediaKey s (unwrap bw.2 v) ((s.w.secrets.get bw.1).getD 0)) s
      have still := unlockBand_at bw.1 b (x.directions.getLsbD 0) (x.directions.getLsbD 1)
        (mediaKey s (unwrap bw.2 v) ((s.w.secrets.get bw.1).getD 0)) s
      rw [if_neg other] at still
      obtain ⟨t, step⟩ : ∃ t, unlockBand bw.1 (x.directions.getLsbD 0) (x.directions.getLsbD 1)
        (mediaKey s (unwrap bw.2 v) ((s.w.secrets.get bw.1).getD 0)) s = t := ⟨_, rfl⟩
      rw [step] at kept still
      have key (k z : Secret) : mediaKey t k z = mediaKey s k z := by
        unfold mediaKey rootOf
        rw [kept]
      rw [step, ih _ distinct.2 later, unlocked_congr still kept, key, kept]

theorem unlocked_discarded {r w : Bool} {k : MediaKey} (h : (flags s b).held = true ∨ hasSecret s b = false) :
    unlocked s b r w k = bandPair s b := by
  unfold unlocked unlockDiscarded
  rw [if_pos (by rcases h with h | h <;> simp [h])]

theorem unlocked_opens {r w : Bool} {k : MediaKey} (free : barred s = false) (unheld : (flags s b).held = false)
    (secret : hasSecret s b = true) (some' : (r || w) = true) : unlocked s b r w k = unlockPair s b r w k := by
  unfold unlocked unlockDiscarded
  rw [if_neg (by simp [free, unheld, secret, some'])]

theorem unlockFlag_eq (named pending old lock : Bool) :
    unlockFlag named pending old lock = (!named && if pending then lock else old) := by
  cases named <;> rfl

theorem sameBand_of_pair (h : bandPair t b = bandPair s b) : SameBand b s t :=
  ⟨congrArg Prod.fst h, congrArg Prod.snd h⟩

theorem mem_grantedBands (ws : List (BandId × Wrap)) (free : barred s = false) (b : BandId) :
    (setOf (grantedBands ws s)).getLsbD b.val = true ↔
      (∃ w, (b, w) ∈ ws) ∧ (flags s b).held = false ∧ hasSecret s b = true := by
  rw [getLsbD_setOf, decide_eq_true_iff]
  simp [grantedBands, unlockDiscarded, free]

/-- Settles O47. -/
theorem unlockOpensGrantedBands : Obligations.UnlockOpensGrantedBands := by
  unfold Obligations.UnlockOpensGrantedBands
  intro p h salt ws s running orders distinct
  have run := exec_unlockJob running
  have held : box p (endJob s) = some h := (box_endJob p s).trans running.2
  by_cases shut : barred s = true
  · have done : unlockDone p h salt ws (endJob s) = _ := (if_pos shut).trans (nextAct_eq (endJob s) (ends .denied) held)
    refine ⟨_, run.trans (congrArg (fun x => Host.Outcome.next (settle x)) done), setBox_w _ _ _, setBox_ks _ _ _,
      setBox_backoff _ _ _, setBox_engine _ _ _, fun _ => ⟨answers_setBox _ _ _ _, fun b => sameBand_setBox _ b⟩, fun free => ?_⟩
    rw [shut] at free
    cases free
  · have free : barred s = false := by simpa using shut
    obtain ⟨v, under⟩ : ∃ v, WrapUnder.credential (secretPresented h.env.body) salt = v := ⟨_, rfl⟩
    obtain ⟨a, args⟩ : ∃ a, unlockArgs h.env.body = a := ⟨_, rfl⟩
    have frame := applyUnlocks_frame a v ws (endJob s)
    have other (b : BandId) := applyUnlocks_other (b := b) a v ws (endJob s)
    have member (b : BandId) (w : Wrap) := applyUnlocks_member (b := b) (w := w) a v ws (endJob s) distinct
    obtain ⟨t, applied⟩ : ∃ t, applyUnlocks a v ws (endJob s) = t := ⟨_, rfl⟩
    rw [applied] at frame
    simp only [applied] at other member
    have orders' : noOrders t = true := by
      rw [frame]
      exact orders
    have traffic := lanesReact_traffic orders'
    have held' : box p (lanesReact t) = some h := by
      rw [traffic.box, frame, ← running.2]
      cases p <;> rfl
    have done : unlockDone p h salt ws (endJob s) = setBox p (some { h with
        stage := .answering .ok (setOf (grantedBands ws (endJob s))), room := roomTouched (endJob s) (lanesReact t) })
        (lanesReact t) := by
      unfold unlockDone
      rw [if_neg (by exact shut), under, args, applied]
      exact nextAct_eq (endJob s) _ held'
    refine ⟨_, run.trans (congrArg (fun x => Host.Outcome.next (settle x)) done), ?_, ?_, ?_, ?_, fun shut' => absurd shut' shut,
      fun _ => ⟨⟨_, answers_setBox _ _ _ _, mem_grantedBands ws free⟩, fun b stays => ?_, fun b w z r wr mem unheld secret hr hw some' => ?_⟩⟩
    · rw [setBox_w, traffic.w, frame]
      rfl
    · rw [setBox_ks, traffic.ks, frame]
      rfl
    · rw [setBox_backoff, traffic.backoff, frame]
      rfl
    · rw [setBox_engine, traffic.engine, frame]
      rfl
    · refine ((sameBand_of_pair (s := endJob s) ?_).trans (sameBand_lanesReact orders' b)).trans (sameBand_setBox _ b)
      by_cases absent : b ∈ ws.map Prod.fst
      · obtain ⟨⟨c, w⟩, mem, rfl⟩ := List.mem_map.mp absent
        rw [member c w mem]
        exact unlocked_discarded (stays.resolve_left fun none => none w mem)
      · exact other b absent
    · have opens : bandPair t b = unlockPair s b r wr (.media (rootOf s) (unwrap w v) z) := by
        have at' := member b w mem
        rw [← args] at at'
        subst hr hw
        have given : ((endJob s).w.secrets.get b).getD 0 = z := by
          show (s.w.secrets.get b).getD 0 = z
          rw [secret]
          rfl
        rw [at', given]
        exact unlocked_opens (s := endJob s) free unheld (by show (s.w.secrets.get b).isSome = true; rw [secret]; rfl) some'
      have flagsX := (sameBand_lanesReact orders' b).trans
        (sameBand_setBox (p := p) (some { h with
          stage := .answering .ok (setOf (grantedBands ws (endJob s))), room := roomTouched (endJob s) (lanesReact t) }) b)
      obtain ⟨flagsX, entryX⟩ := flagsX
      have flagsT : flags t b = (unlockPair s b r wr (.media (rootOf s) (unwrap w v) z)).1 := congrArg Prod.fst opens
      have entryT : entry t (.band b) = (unlockPair s b r wr (.media (rootOf s) (unwrap w v) z)).2 := congrArg Prod.snd opens
      rw [flagsX, entryX, flagsT, entryT, under]
      exact ⟨rfl, rfl, unlockFlag_eq _ _ _ _, unlockFlag_eq _ _ _ _⟩

end

/-! # BAND_SET without a range change -/

section

variable {s t u : State} {p : Port} {h : Held} {b c : BandId}

/-! ## BAND_SET without a range change (R16, R10) -/

/-- The record that a BAND_SET without a range change gives its band. -/
def bandSetRecord (h : Held) (x : BandArgs) (s : State) : BandRecord :=
  { withSettings x (record s (bandNo x.band.toNat)) with
    openWrap := openWrapFor (x.enables.getLsbD 0) (record s (bandNo x.band.toNat)).openWrap
      (rowKey (cred s 0) (bandNo x.band.toNat) (adminUnder h s)) s }

/-- The band with its record, brought to its enables where they changed. -/
def bandBrought (h : Held) (x : BandArgs) (s : State) : State :=
  if (record s (bandNo x.band.toNat)).rle ≠ (bandSetRecord h x s).rle ||
      (record s (bandNo x.band.toNat)).wle ≠ (bandSetRecord h x s).wle then
    settleBand (bandNo x.band.toNat) ((s.w.secrets.get (bandNo x.band.toNat)).map fun z =>
      mediaKey s (rowKey (cred s 0) (bandNo x.band.toNat) (adminUnder h s)) z)
      (setRecord (bandNo x.band.toNat) (bandSetRecord h x s) s)
  else setRecord (bandNo x.band.toNat) (bandSetRecord h x s) s

theorem applyBandSet_eq (h : Held) (x : BandArgs) (s : State) :
    applyBandSet h x s = queuePage (bandPage (bandNo x.band.toNat)) [] (lanesReact (bandBrought h x s)) := rfl

theorem bandBrought_frame (h : Held) (x : BandArgs) (s : State) : bandBrought h x s =
    { s with w := { s.w with bands := put s.w.bands (bandNo x.band.toNat) (bandSetRecord h x s) },
             bands := (bandBrought h x s).bands, keys := { s.keys with bands := (bandBrought h x s).keys.bands } } := by
  unfold bandBrought
  split <;> rfl

theorem record_setRecord (b c : BandId) (r : BandRecord) (s : State) :
    record (setRecord b r s) c = if b = c then r else record s c := get_put _ _ _ _

theorem bandBrought_other (x : BandArgs) (other : c ≠ bandNo x.band.toNat) : SameBand c s (bandBrought h x s) := by
  have kept : SameBand c s (setRecord (bandNo x.band.toNat) (bandSetRecord h x s) s) := ⟨rfl, rfl⟩
  unfold bandBrought
  split
  · exact kept.trans (sameBand_setPair _ other)
  · exact kept

theorem bandBrought_same (x : BandArgs) (rle : (record s (bandNo x.band.toNat)).rle = x.enables.getLsbD 0)
    (wle : (record s (bandNo x.band.toNat)).wle = x.enables.getLsbD 1) : SameBand (bandNo x.band.toNat) s (bandBrought h x s) := by
  unfold bandBrought
  rw [if_neg]
  · exact ⟨rfl, rfl⟩
  · rw [Bool.or_eq_true, decide_eq_true_iff, decide_eq_true_iff]
    exact not_or.mpr ⟨not_not.mpr rle, not_not.mpr wle⟩

/-- A band whose enables changed is brought to them. -/
theorem bandBrought_changed (x : BandArgs) {z : Secret} (secret : s.w.secrets.get (bandNo x.band.toNat) = some z)
    (changed : (record s (bandNo x.band.toNat)).rle ≠ x.enables.getLsbD 0 ∨
      (record s (bandNo x.band.toNat)).wle ≠ x.enables.getLsbD 1) :
    bandPair (bandBrought h x s) (bandNo x.band.toNat) =
      settlePair (setRecord (bandNo x.band.toNat) (bandSetRecord h x s) s) (bandNo x.band.toNat)
        (some (.media (rootOf s) (rowKey (cred s 0) (bandNo x.band.toNat) (adminUnder h s)) z)) := by
  have brought : bandBrought h x s = settleBand (bandNo x.band.toNat)
      (some (.media (rootOf s) (rowKey (cred s 0) (bandNo x.band.toNat) (adminUnder h s)) z))
      (setRecord (bandNo x.band.toNat) (bandSetRecord h x s) s) := by
    unfold bandBrought
    rw [if_pos, secret]
    · rfl
    · rw [Bool.or_eq_true, decide_eq_true_iff, decide_eq_true_iff]
      exact changed
  rw [brought, settleBand]
  refine Prod.ext ?_ ?_
  · show flags (setPair _ _ _) _ = _
    rw [flags_setPair, if_pos rfl]
  · show entry (setPair _ _ _) (.band _) = _
    rw [entry_setPair, if_pos rfl]

/-- Settles O50. -/
theorem bandSetTakesItsSettings : Obligations.BandSetTakesItsSettings := by
  unfold Obligations.BandSetTakesItsSettings
  intro p h s y a b kb rle wle running body orders band key hr hw
  have frame := bandBrought_frame h a (endJob s)
  obtain ⟨t, brought⟩ : ∃ t, bandBrought h a (endJob s) = t := ⟨_, rfl⟩
  rw [brought] at frame
  have orders' : noOrders t = true := by
    rw [frame]
    exact orders
  have traffic := lanesReact_traffic orders'
  have applied : applyBandSet h a (endJob s) = queuePage (bandPage b) [] (lanesReact t) := by
    rw [applyBandSet_eq, brought, band]
  have held : box p (applyBandSet h a (endJob s)) = some h := by
    rw [applied, (WatchOnly.queue _ _ _).box, traffic.box, frame, ← running.2]
    cases p <;> rfl
  have done : bandSetDone p h (endJob s) = setBox p (some { h with
      stage := ends .ok, room := roomTouched (endJob s) (applyBandSet h a (endJob s)) }) (applyBandSet h a (endJob s)) := by
    unfold bandSetDone
    rw [body]
    exact nextAct_eq _ _ held
  rw [applied] at done
  have records (d : BandId) : record (lanesReact t) d = if b = d then bandSetRecord h a (endJob s) else record s d := by
    rw [record, traffic.w, frame, ← band]
    exact get_put _ _ _ _
  have bands (d : BandId) : SameBand d t (setBox p (some { h with
      stage := ends .ok, room := roomTouched (endJob s) (queuePage (bandPage b) [] (lanesReact t)) })
      (queuePage (bandPage b) [] (lanesReact t))) :=
    ((sameBand_lanesReact orders' d).trans (sameBand_queuePage _ _ d)).trans (sameBand_setBox _ d)
  refine ⟨_, (exec_bandSetJob running).trans (congrArg (fun x => Host.Outcome.next (settle x)) done),
    answers_setBox _ _ _ _, ?_, carried_setBox _ (carried_queuePage_same _ _ _), ?_, ?_, fun c other => ⟨?_, ?_⟩,
    fun sameR sameW => ?_, fun changed free z secret => ?_⟩
  · rw [record, setBox_w, queuePage_w, ← record, records, if_pos rfl, bandSetRecord, ← band, hr, hw, key]
    rfl
  · rw [setBox_w, queuePage_w, traffic.w, frame]
    rfl
  · rw [setBox_w, queuePage_w, traffic.w, frame]
    rfl
  · rw [record, setBox_w, queuePage_w, ← record, records, if_neg (Ne.symm other)]
  · refine SameBand.trans ?_ (bands c)
    rw [← brought]
    exact bandBrought_other (s := endJob s) a (band ▸ other)
  · refine SameBand.trans ?_ (bands b)
    subst band hr hw
    rw [← brought]
    exact bandBrought_same (s := endJob s) a sameR sameW
  · subst band hr hw key
    have at' := bandBrought_changed (h := h) (s := endJob s) a secret changed
    rw [brought] at at'
    have flagsT := congrArg Prod.fst at'
    have entryT := congrArg Prod.snd at'
    obtain ⟨flagsX, entryX⟩ := bands (bandNo a.band.toNat)
    have own : record (setRecord (bandNo a.band.toNat) (bandSetRecord h a (endJob s)) (endJob s)) (bandNo a.band.toNat) =
        bandSetRecord h a (endJob s) := by rw [record_setRecord, if_pos rfl]
    rw [flagsX, entryX]
    refine ⟨fun rle => ?_, fun rle => ?_⟩
    · rw [settlePair_closed (.inl (by rw [own]; exact rle))] at flagsT entryT
      exact ⟨by rw [show flags t _ = _ from flagsT]; rfl, entryT⟩
    · have some' : hasSecret s (bandNo a.band.toNat) = true := by rw [hasSecret, secret]; rfl
      rw [settlePair_open (s := setRecord (bandNo a.band.toNat) (bandSetRecord h a (endJob s)) (endJob s)) free some'
        (by rw [own]; exact rle), own] at flagsT entryT
      exact ⟨flagsT, entryT⟩

end

/-! # What a mailbox holds changes nothing else -/

section

variable {s t : State} {p q : Port} {h : Held} {x : Option Held} {l : LaneId}

/-! ## What a mailbox holds changes nothing else -/

theorem account_setBox (tag : Byte) (orders : noOrders s = true) :
    account tag (setBox p x s) = setBox p x (account tag s) := by
  have same : transfer (setBox p x s) tag = transfer s tag := by cases p <;> rfl
  have free (i : OrderSlot) : s.wipe.orders.get i = none := noOrders_get orders i
  unfold account
  rw [same]
  cases transfer s tag with
  | none => rfl
  | some r =>
    dsimp only
    split
    · cases r.order with
      | none => cases p <;> rfl
      | some i =>
        dsimp only
        rw [orderClose_none _ _ _ (by cases p <;> exact free i), orderClose_none _ _ _ (by exact free i)]
        cases p <;> rfl
    · rfl

theorem report_setBox (tag : Byte) (n a : Nat) (y : Option TStatus) (orders : noOrders s = true) :
    report tag n a y (setBox p x s) = setBox p x (report tag n a y s) := by
  have edit : editTransfer tag (counted n a y) (setBox p x s) = setBox p x (editTransfer tag (counted n a y) s) := by
    cases p <;> rfl
  unfold report
  rw [edit, account_setBox tag (by exact orders)]

theorem keyCheck_setBox (k : KeyName) (e : BitVec 32) : keyCheck (setBox p x s) k e = keyCheck s k e := by
  unfold keyCheck present entry theft
  rw [setBox_keys, setBox_w]

theorem takeFrom_setBox (g : List Segment) (orders : noOrders s = true) :
    takeFrom l g (setBox p x s) = setBox p x (takeFrom l g s) := by
  induction g generalizing s with
  | nil => cases p <;> cases l <;> rfl
  | cons g gs ih =>
    unfold takeFrom
    rw [keyCheck_setBox]
    cases keyCheck s g.key g.epoch with
    | none =>
      unfold startSegment
      dsimp only
      cases g.direction <;> cases p <;> cases l <;> rfl
    | some y =>
      dsimp only
      rw [report_setBox _ _ _ _ orders, ih ((report_traffic _ _ _ _ orders).noOrders.trans orders)]

theorem lane_setBox : lane l (setBox p x s) = lane l s := by cases p <;> cases l <;> rfl

theorem takeNext_setBox (orders : noOrders s = true) : takeNext l (setBox p x s) = setBox p x (takeNext l s) := by
  unfold takeNext
  rw [lane_setBox, takeFrom_setBox _ orders]

theorem endRefused_setBox (g : Segment) (y : TStatus) (orders : noOrders s = true) :
    endRefused l g y (setBox p x s) = setBox p x (endRefused l g y s) := by
  have drop : dropSegment l (setBox p x s) = setBox p x (dropSegment l s) := by cases p <;> cases l <;> rfl
  have orders' : noOrders (dropSegment l s) = true := by
    rw [← orders]
    cases l <;> rfl
  unfold endRefused
  rw [drop, report_setBox _ _ _ _ orders', takeNext_setBox ((report_traffic _ _ _ _ orders').noOrders.trans orders')]

theorem laneReact_setBox (orders : noOrders s = true) : laneReact l (setBox p x s) = setBox p x (laneReact l s) := by
  unfold laneReact
  rw [lane_setBox]
  cases (lane l s).inFlight with
  | none =>
    dsimp only
    split
    · rfl
    · exact takeNext_setBox orders
  | some g =>
    dsimp only
    rw [keyCheck_setBox]
    cases keyCheck s g.key g.epoch with
    | none => rfl
    | some y => exact endRefused_setBox g y orders

theorem lanesReact_setBox (orders : noOrders s = true) : lanesReact (setBox p x s) = setBox p x (lanesReact s) := by
  unfold lanesReact
  rw [laneReact_setBox orders, laneReact_setBox ((laneReact_traffic .a orders).noOrders.trans orders)]

theorem queuePage_setBox (r : PageId) (ws : List Waiter) : queuePage r ws (setBox p x s) = setBox p x (queuePage r ws s) := by
  have page : pageOf (setBox p x s) r = pageOf s r := by cases p <;> rfl
  have ref : reference (setBox p x s) r = reference s r := by cases p <;> rfl
  unfold queuePage
  rw [setBox_ks, page, ref]
  split
  · cases p <;> rfl
  · split
    · cases p <;> rfl
    · split
      · split <;> cases p <;> rfl
      · cases s.ks.writer with
        | none => rfl
        | some w =>
          dsimp only
          split <;> cases p <;> rfl

theorem settleBand_setBox (b : BandId) (k : Option MediaKey) :
    settleBand b k (setBox p x s) = setBox p x (settleBand b k s) := by cases p <;> rfl

theorem bumpRange_setBox (b : BandId) : bumpRange b (setBox p x s) = setBox p x (bumpRange b s) := by
  unfold bumpRange
  dsimp only
  split <;> cases p <;> rfl

theorem noOrders_of_wipe (same : t.wipe = s.wipe) : noOrders t = noOrders s := by
  unfold noOrders
  rw [same]

/-- The record that a range change gives its band. -/
def rangeRecord (y : BandArgs) (wrap : Option Wrap) (s : State) : BandRecord :=
  { withSettings y (record s (bandNo y.band.toNat)) with
    start := (newRange y).1, length := (newRange y).2, openWrap := wrap }

/-- The band as a range change leaves it, before the lanes react. -/
def rangeTaken (y : BandArgs) (key : MediaKey) (wrap : Option Wrap) (s : State) : State :=
  settleBand (bandNo y.band.toNat) (some key) (unhold (bandNo y.band.toNat) (queuePage (bandPage (bandNo y.band.toNat)) []
    (bumpRange (bandNo y.band.toNat) (setRecord (bandNo y.band.toNat) (rangeRecord y wrap s) s))))

theorem bandRangeWritten_eq (y : BandArgs) (key : MediaKey) (wrap : Option Wrap) (s : State) :
    bandRangeWritten y key wrap s = lanesReact (rangeTaken y key wrap s) := rfl

theorem bumpRange_frame (b : BandId) (s : State) :
    bumpRange b s = { s with keys := { s.keys with bands := (bumpRange b s).keys.bands } } := by
  unfold bumpRange
  dsimp only
  split <;> rfl

theorem rangeTaken_frame (y : BandArgs) (key : MediaKey) (wrap : Option Wrap) (s : State) : rangeTaken y key wrap s =
    { s with
      w := { s.w with bands := put s.w.bands (bandNo y.band.toNat) (rangeRecord y wrap s) },
      ks := (rangeTaken y key wrap s).ks, bands := (rangeTaken y key wrap s).bands,
      keys := { s.keys with bands := (rangeTaken y key wrap s).keys.bands } } := by
  unfold rangeTaken settleBand setPair unhold
  rw [queuePage_frame, bumpRange_frame]
  rfl

theorem rangeTaken_setBox (y : BandArgs) (key : MediaKey) (wrap : Option Wrap) :
    rangeTaken y key wrap (setBox p x s) = setBox p x (rangeTaken y key wrap s) := by
  have recorded (b : BandId) (r : BandRecord) : setRecord b r (setBox p x s) = setBox p x (setRecord b r s) := by
    cases p <;> rfl
  have same : rangeRecord y wrap (setBox p x s) = rangeRecord y wrap s := by cases p <;> rfl
  have unheld (b : BandId) (s : State) : unhold b (setBox p x s) = setBox p x (unhold b s) := by cases p <;> rfl
  unfold rangeTaken
  rw [same, recorded, bumpRange_setBox, queuePage_setBox, unheld, settleBand_setBox]

/-- What a written band secret brings about does not depend on the mailboxes. -/
theorem secretWritten_setBox (body : Body) (key : MediaKey) (wrap : Option Wrap) (orders : noOrders s = true) :
    secretWritten body key wrap (setBox p x s) = setBox p x (secretWritten body key wrap s) := by
  have unheld (b : BandId) : unhold b (setBox p x s) = setBox p x (unhold b s) := by cases p <;> rfl
  unfold secretWritten
  split
  · rename_i y z
    rw [bandRangeWritten_eq, bandRangeWritten_eq, rangeTaken_setBox, lanesReact_setBox]
    rw [rangeTaken_frame]
    exact orders
  · unfold bandEraseWritten
    rw [unheld, settleBand_setBox, lanesReact_setBox (by exact orders)]
  · rfl

end

/-! # At rest nothing follows, and how one mailbox goes on -/

section

variable {s t : State} {p q : Port} {h : Held} {x : Option Held} {l : LaneId}

/-! ## At rest nothing follows (entry 20) -/

theorem setBox_self (held : box p s = x) : setBox p x s = s := by
  subst held
  cases p <;> rfl

theorem roomMoved_some (held : box p s = some h) :
    roomMoved p s = setBox p (some { h with room := h.room.filter fun r => onList s.ks.room r }) s := by
  unfold roomMoved
  rw [held]

theorem roomMoved_listed (held : box p s = some h) (listed : (h.room.all fun r => onList s.ks.room r) = true) :
    roomMoved p s = s := by
  have kept : h.room.filter (fun r => onList s.ks.room r) = h.room :=
    List.filter_eq_self.mpr (by simpa [List.all_eq_true] using listed)
  rw [roomMoved_some held, kept]
  exact setBox_self held

/-- A mailbox whose request has not got what it waits for stays as it is. -/
theorem progressBox_quiet (quiet : boxQuiet p s = true) : progressBox p s = s := by
  unfold boxQuiet at quiet
  cases held : box p s with
  | none =>
    have moved : roomMoved p s = s := by
      unfold roomMoved
      rw [held]
    unfold progressBox advanceBox answerBox
    rw [moved, held]
    dsimp only
    rw [held]
  | some h =>
    rw [held] at quiet
    dsimp only at quiet
    rw [Bool.and_eq_true] at quiet
    obtain ⟨listed, waiting⟩ := quiet
    have advanced : advanceBox p s = s := by
      unfold advanceBox
      rw [held]
      dsimp only
      cases stage : h.stage with
      | charged =>
        rw [stage] at waiting
        exact if_pos waiting
      | secretWrite key wrap =>
        rw [stage] at waiting
        exact if_pos waiting
      | handing j =>
        rw [stage] at waiting
        exact if_neg (by simpa using waiting)
      | verifying | working | answering => rfl
    have answered : answerBox p s = s := by
      unfold answerBox
      rw [held]
      dsimp only
      cases stage : h.stage with
      | answering y g =>
        rw [stage] at waiting
        exact if_neg (by simpa using waiting)
      | charged | secretWrite | handing | verifying | working => rfl
    unfold progressBox
    rw [roomMoved_listed held listed, advanced, answered]

theorem progressWipe_quiet (quiet : wipeQuiet s = true) : progressWipe s = s := by
  unfold wipeQuiet at quiet
  unfold progressWipe
  cases active : s.wipe.activity
  case rootWait =>
    rw [active] at quiet
    exact if_pos quiet
  case coverZeroWait =>
    rw [active] at quiet
    exact if_pos quiet
  case rootWrite =>
    rw [active] at quiet
    exact if_pos quiet
  case rebuildWait =>
    rw [active] at quiet
    exact if_neg (by simpa using quiet)
  case rebuildRootWrite =>
    rw [active] at quiet
    exact if_pos quiet
  case rebuildNext =>
    rw [active] at quiet
    exact if_pos quiet
  case rebuildConfigWait =>
    rw [active] at quiet
    exact if_pos quiet
  case rebuildEnd =>
    rw [active] at quiet
    exact if_pos quiet
  case passWait =>
    rw [active] at quiet
    exact if_pos quiet
  case doneWait =>
    rw [active] at quiet
    exact if_pos quiet
  all_goals rfl

theorem progressWipe_idle (idle : s.wipe.activity = .idle) : progressWipe s = s := by
  unfold progressWipe
  rw [idle]

theorem handHeldWipe_none (free : s.wipe.toHand = none) : handHeldWipe s = s := by
  unfold handHeldWipe
  rw [free]

theorem handHeldWipe_back {j : Job} (kept : s.wipe.toHand = some j) (back : heldBack j s = true) : handHeldWipe s = s := by
  unfold handHeldWipe
  rw [kept]
  exact if_pos back

theorem handHeldWipe_hands {j : Job} (kept : s.wipe.toHand = some j) (free : heldBack j s = false) : handHeldWipe s =
    { s with engine := { s.engine with wipe := some j }, wipe := { s.wipe with toHand := none } } := by
  unfold handHeldWipe
  rw [kept]
  exact if_neg (by simp [free])

theorem grant_running (busy : s.engine.running ≠ none) : grant s = s := by
  unfold grant
  cases running : s.engine.running with
  | none => exact absurd running busy
  | some j => rfl

/-- With no job that waits the arbiter grants none. -/
theorem grant_idle (startup : s.engine.startup = none) (wipe : s.engine.wipe = none) (compare : s.engine.compare = none)
    (link : s.engine.link = none) (side : s.engine.side = none) : grant s = s := by
  have none' (p : Port) : mailboxJob p s = none := by
    cases p
    · exact link
    · exact side
  unfold grant
  split
  · rfl
  · rw [startup]
    dsimp only
    rw [wipe]
    dsimp only
    rw [compare]
    dsimp only
    rw [none']
    dsimp only
    rw [none']

theorem engineQuiet_iff : engineQuiet s = true ↔
    (s.engine.running ≠ none ∨ (s.engine.startup = none ∧ s.engine.wipe = none ∧ s.engine.compare = none ∧
      s.engine.link = none ∧ s.engine.side = none)) ∧ (s.wipe.toHand.all fun j => heldBack j s) = true := by
  unfold engineQuiet
  rw [Bool.and_eq_true, Bool.or_eq_true]
  simp only [Bool.and_eq_true, Option.isNone_iff_eq_none, Option.isSome_iff_ne_none, and_assoc]

theorem grant_quiet (quiet : engineQuiet s = true) : grant s = s := by
  obtain ⟨busy | ⟨startup, wipe, compare, link, side⟩, -⟩ := engineQuiet_iff.mp quiet
  · exact grant_running busy
  · exact grant_idle startup wipe compare link side

theorem handHeldWipe_quiet (quiet : engineQuiet s = true) : handHeldWipe s = s := by
  obtain ⟨-, back⟩ := engineQuiet_iff.mp quiet
  cases kept : s.wipe.toHand with
  | none => exact handHeldWipe_none kept
  | some j =>
    rw [kept] at back
    exact handHeldWipe_back kept back

theorem settle_quiet (quiet : Quiet s = true) : settle s = s := by
  unfold Quiet at quiet
  simp only [Bool.and_eq_true] at quiet
  obtain ⟨⟨⟨⟨store, link⟩, side⟩, wipe⟩, engine⟩ := quiet
  unfold settle
  rw [serviceStore_quiet s store, progressBox_quiet link, progressBox_quiet side, progressWipe_quiet wipe,
    serviceStore_quiet s store, handHeldWipe_quiet engine, grant_quiet engine]

/-! ## A request that goes on -/

/-- A mailbox at rest stays at rest where no page has left the lists. -/
theorem boxQuiet_mono (quiet : boxQuiet q s = true) (same : box q t = box q s)
    (listed : ∀ r, onList s.ks.room r = true → onList t.ks.room r = true)
    (waiting : ∀ k, waits k s = true → waits k t = true) : boxQuiet q t = true := by
  have clear (rs : List PageId) (h : (!roomClear rs s) = true) : (!roomClear rs t) = true := by
    simp only [roomClear, Bool.not_eq_true', List.all_eq_false, Bool.not_eq_true', Bool.not_eq_false] at h ⊢
    obtain ⟨r, mem, on⟩ := h
    exact ⟨r, mem, by simpa using listed r (by simpa using on)⟩
  unfold boxQuiet at quiet ⊢
  rw [same]
  cases held : box q s with
  | none => rfl
  | some h =>
    rw [held] at quiet
    dsimp only at quiet ⊢
    rw [Bool.and_eq_true] at quiet ⊢
    obtain ⟨all, rest⟩ := quiet
    refine ⟨?_, ?_⟩
    · rw [List.all_eq_true] at all ⊢
      exact fun r mem => listed r (all r mem)
    · cases stage : h.stage with
      | charged =>
        rw [stage] at rest
        rw [Bool.or_eq_true] at rest ⊢
        exact rest.imp (waiting _) (clear _)
      | secretWrite =>
        rw [stage] at rest
        exact waiting _ rest
      | handing | answering =>
        rw [stage] at rest
        exact clear _ rest
      | verifying | working => rfl

/-- With the other mailbox at rest, before and after, what follows from one mailbox is its own progress. -/
theorem progressBoxes (p : Port) (before : boxQuiet (otherPort p) s = true)
    (after : boxQuiet (otherPort p) (progressBox p s) = true) : progressBox .side (progressBox .link s) = progressBox p s := by
  cases p with
  | link => exact progressBox_quiet after
  | side => rw [show progressBox .link s = s from progressBox_quiet before]

/-- What follows where one mailbox alone goes on. -/
theorem settle_progress (p : Port) (store : storeQuiet s = true) (before : boxQuiet (otherPort p) s = true)
    (after : boxQuiet (otherPort p) (progressBox p s) = true) (idle : (progressBox p s).wipe.activity = .idle)
    (free : (progressBox p s).wipe.toHand = none) : settle s = grant (serviceStore (progressBox p s)) := by
  unfold settle
  rw [serviceStore_quiet s store, progressBoxes p before after, progressWipe_idle idle,
    handHeldWipe_none (by rw [serviceStore_wipe]; exact free)]

theorem roomMoved_clear (held : box p s = some h) (clear : roomClear h.room s = true) :
    roomMoved p s = setBox p (some { h with room := [] }) s := by
  have none' : h.room.filter (fun r => onList s.ks.room r) = [] :=
    List.filter_eq_nil_iff.mpr (by simpa [roomClear, List.all_eq_true] using clear)
  rw [roomMoved_some held, none']

theorem answerBox_stage (held : box p s = some h) (not : ∀ y g, h.stage ≠ .answering y g) : answerBox p s = s := by
  unfold answerBox
  rw [held]
  dsimp only
  split
  · rename_i y g stage
    exact absurd stage (not y g)
  · rfl

theorem progress_charged (held : box p s = some h) (stage : h.stage = .charged) (written : waits (.request p) s = false)
    (clear : roomClear h.room s = true) :
    progressBox p s = setBox p (some { h with stage := .verifying, room := [] }) (handMailbox p .verify s) := by
  unfold progressBox
  rw [roomMoved_clear held clear]
  have advanced : advanceBox p (setBox p (some { h with room := [] }) s) =
      setBox p (some { h with stage := .verifying, room := [] }) (handMailbox p .verify s) := by
    unfold advanceBox
    rw [box_setBox_same]
    dsimp only
    rw [stage]
    dsimp only
    rw [if_neg (by rw [waits_congr (setBox_ks s p _), written]; simp [roomClear])]
    unfold handVerify
    rw [box_setBox_same]
    cases p <;> rfl
  rw [advanced]
  exact answerBox_stage (box_setBox_same _ p _) (by simp)

theorem progress_handing {j : Job} (held : box p s = some h) (stage : h.stage = .handing j)
    (clear : roomClear h.room s = true) :
    progressBox p s = setBox p (some { h with stage := .working, room := [] }) (handMailbox p j s) := by
  unfold progressBox
  rw [roomMoved_clear held clear]
  have advanced : advanceBox p (setBox p (some { h with room := [] }) s) =
      setBox p (some { h with stage := .working, room := [] }) (handMailbox p j s) := by
    unfold advanceBox
    rw [box_setBox_same]
    dsimp only
    rw [stage]
    dsimp only
    rw [if_pos (by simp [roomClear])]
    cases p <;> rfl
  rw [advanced]
  exact answerBox_stage (box_setBox_same _ p _) (by simp)

theorem deliver_setBox (r : Response) : deliver p r (setBox p x s) = deliver p r s := by
  cases p
  · unfold deliver
    dsimp only
    rw [setBox_link, setBox_setBox]
  · rfl

theorem advanceBox_stage (held : box p s = some h) (charged : h.stage ≠ .charged) (handing : ∀ j, h.stage ≠ .handing j)
    (secret : ∀ key wrap, h.stage ≠ .secretWrite key wrap) : advanceBox p s = s := by
  unfold advanceBox
  rw [held]
  dsimp only
  split
  · rename_i stage
    exact absurd stage charged
  · rename_i j stage
    exact absurd stage (handing j)
  · rename_i key wrap stage
    exact absurd stage (secret key wrap)
  · rfl

theorem answerBox_answers {y : RStatus} {g : BandSet} (held : box p s = some h) (stage : h.stage = .answering y g)
    (clear : roomClear h.room s = true) :
    answerBox p s = deliver p { id := h.env.id, status := y, wait := 0, granted := g, report := [] } s := by
  unfold answerBox
  rw [held]
  dsimp only
  rw [stage]
  dsimp only
  rw [if_pos clear]
  rfl

theorem progress_answering {y : RStatus} {g : BandSet} (held : box p s = some h) (stage : h.stage = .answering y g)
    (clear : roomClear h.room s = true) :
    progressBox p s = deliver p { id := h.env.id, status := y, wait := 0, granted := g, report := [] } s := by
  unfold progressBox
  rw [roomMoved_clear held clear]
  have held' := box_setBox_same s p (some { h with room := [] })
  rw [advanceBox_stage held' (by simp [stage]) (by simp [stage]) (by simp [stage]),
    answerBox_answers held' stage (by simp [roomClear]), deliver_setBox]

theorem roomTouched_setBox (y : Option Held) : roomTouched (setBox p x s) (setBox p y t) = roomTouched s t := by
  cases p <;> rfl

theorem roomClear_setBox (rs : List PageId) : roomClear rs (setBox p x s) = roomClear rs s := by cases p <;> rfl

/-- A request whose band secret page is written takes its effect, and is answered where its pages have room. -/
theorem progress_secretWrite {key : MediaKey} {wrap : Option Wrap} (held : box p s = some h)
    (stage : h.stage = .secretWrite key wrap) (written : waits (.request p) s = false) (orders : noOrders s = true)
    (taken : secretWritten h.env.body key wrap s = t) : progressBox p s =
      if roomClear (roomTouched s t) t then
        deliver p { id := h.env.id, status := .ok, wait := 0, granted := 0, report := [] } t
      else setBox p (some { h with stage := .answering .ok 0, room := roomTouched s t }) t := by
  obtain ⟨k, moved⟩ : ∃ k, { h with room := h.room.filter fun r => onList s.ks.room r } = k := ⟨_, rfl⟩
  have stage' : k.stage = .secretWrite key wrap := moved ▸ stage
  have env : k.env = h.env := moved ▸ rfl
  have next : { k with stage := ends .ok, room := roomTouched s t } = { h with stage := .answering .ok 0, room := roomTouched s t } :=
    moved ▸ rfl
  have advanced : advanceBox p (setBox p (some k) s) =
      setBox p (some { h with stage := .answering .ok 0, room := roomTouched s t }) t := by
    unfold advanceBox
    rw [box_setBox_same]
    dsimp only
    rw [stage']
    dsimp only
    rw [if_neg (by rw [waits_congr (setBox_ks s p _), written]; simp), env, secretWritten_setBox _ _ _ orders, taken,
      nextAct_eq _ _ (box_setBox_same t p _), roomTouched_setBox, setBox_setBox, next]
  unfold progressBox
  rw [roomMoved_some held, moved, advanced]
  have held' := box_setBox_same t p (some { h with stage := .answering .ok 0, room := roomTouched s t })
  split
  · rename_i clear
    rw [answerBox_answers held' rfl (by rw [roomClear_setBox]; exact clear), deliver_setBox]
  · rename_i full
    unfold answerBox
    rw [held']
    dsimp only
    rw [roomClear_setBox, if_neg full]

end

/-! # What follows at once from an act -/

section

variable {s t : State} {p q : Port} {h : Held} {x : Option Held}

/-! ## What a written band secret leaves of the lists and the mailboxes -/

theorem room_queuePage (r r' : PageId) (ws : List Waiter) (on : onList s.ks.room r = true) :
    onList (queuePage r' ws s).ks.room r = true := by
  unfold queuePage
  split
  · exact on
  · split
    · simpa [onList_mergeEntry] using on
    · split
      · split
        · exact on
        · show onList (s.ks.room ++ _) r = true
          rw [onList_append, on]
          rfl
      · split
        · split <;> exact on
        · exact on

/-- What stands of the lists, the mailboxes and the engines as before, or longer. -/
structure BoxesStand (s t : State) : Prop where
  box : ∀ q, box q t = Machine.box q s
  wipe : t.wipe = s.wipe
  engine : t.engine = s.engine
  supplyOk : t.supplyOk = s.supplyOk
  dropMark : t.link.dropMark = s.link.dropMark
  response : t.psp = s.psp
  listed : ∀ r, onList s.ks.room r = true → onList t.ks.room r = true
  waiting : ∀ k, waits k s = true → waits k t = true

theorem BoxesStand.trans {u : State} (h : BoxesStand s t) (k : BoxesStand t u) : BoxesStand s u where
  box q := (k.box q).trans (h.box q)
  wipe := k.wipe.trans h.wipe
  engine := k.engine.trans h.engine
  supplyOk := k.supplyOk.trans h.supplyOk
  dropMark := k.dropMark.trans h.dropMark
  response := k.response.trans h.response
  listed r on := k.listed r (h.listed r on)
  waiting w on := k.waiting w (h.waiting w on)

theorem BoxesStand.ofTraffic (k : TrafficOnly s t) : BoxesStand s t where
  box q := k.box q
  wipe := k.wipe
  engine := k.engine
  supplyOk := by rw [k]
  dropMark := by rw [k]
  response := by rw [k]
  listed r on := by rw [k.ks]; exact on
  waiting w on := by rw [waits_congr k.ks]; exact on

/-- Work on the records, the flags and the keys alone. -/
theorem BoxesStand.ofKeys {w : Working} {f : Vector BandFlags 16} {k : KeyTable} :
    BoxesStand s { s with w := w, bands := f, keys := k } where
  box q := by cases q <;> rfl
  wipe := rfl
  engine := rfl
  supplyOk := rfl
  dropMark := rfl
  response := rfl
  listed _ on := on
  waiting _ on := on

theorem BoxesStand.queue (r : PageId) (ws : List Waiter) (s : State) : BoxesStand s (queuePage r ws s) where
  box q := (WatchOnly.queue r ws s).box q
  wipe := queuePage_wipe _ _ _
  engine := queuePage_engine _ _ _
  supplyOk := queuePage_supplyOk _ _ _
  dropMark := by rw [queuePage_link]
  response := queuePage_psp _ _ _
  listed _ on := room_queuePage _ _ _ on
  waiting _ on := waits_queuePage _ _ on

theorem settled_stands (b : BandId) (k : Option MediaKey) (s : State) : BoxesStand s (settleBand b k (unhold b s)) := .ofKeys

theorem rangeTaken_stands (y : BandArgs) (key : MediaKey) (wrap : Option Wrap) (s : State) :
    BoxesStand s (rangeTaken y key wrap s) := by
  have before : BoxesStand s (bumpRange (bandNo y.band.toNat) (setRecord (bandNo y.band.toNat) (rangeRecord y wrap s) s)) := by
    rw [bumpRange_frame]
    exact .ofKeys
  exact (before.trans (.queue (bandPage (bandNo y.band.toNat)) [] _)).trans (settled_stands _ _ _)

theorem rangeTaken_noOrders (y : BandArgs) (key : MediaKey) (wrap : Option Wrap) (orders : noOrders s = true) :
    noOrders (rangeTaken y key wrap s) = true := by
  rw [noOrders_of_wipe (rangeTaken_stands y key wrap s).wipe, orders]

theorem secretWritten_stands (body : Body) (key : MediaKey) (wrap : Option Wrap) (orders : noOrders s = true) :
    BoxesStand s (secretWritten body key wrap s) := by
  unfold secretWritten
  split
  · rw [bandRangeWritten_eq]
    exact (rangeTaken_stands _ key wrap s).trans (.ofTraffic (lanesReact_traffic (rangeTaken_noOrders _ key wrap orders)))
  · unfold bandEraseWritten
    refine BoxesStand.trans ?_ (.ofTraffic (lanesReact_traffic (by exact orders)))
    exact .ofKeys
  · exact .ofKeys

theorem BoxesStand.quiet (k : BoxesStand s t) (quiet : boxQuiet q s = true) : boxQuiet q t = true :=
  boxQuiet_mono quiet (k.box q) k.listed k.waiting

/-! ## What follows from one act -/

theorem storeQuiet_congr (ks : t.ks = s.ks) (supply : t.supplyOk = s.supplyOk) : storeQuiet t = storeQuiet s := by
  unfold storeQuiet
  rw [ks, supply]

/-- One mailbox goes on while a job runs. -/
theorem settle_one (p : Port) (store : storeQuiet s = true) (before : boxQuiet (otherPort p) s = true)
    (idle : s.wipe.activity = .idle) (free : s.wipe.toHand = none) (busy : s.engine.running ≠ none)
    (progress : progressBox p s = t) (after : boxQuiet (otherPort p) t = true) (wipe : t.wipe = s.wipe)
    (running : t.engine.running = s.engine.running) : settle s = serviceStore t := by
  subst progress
  rw [settle_progress p store before after (by rw [wipe]; exact idle) (by rw [wipe]; exact free)]
  exact grant_running (by rw [serviceStore_engine, running]; exact busy)

/-- As `settle_one`, where the act leaves the store as it was. -/
theorem settle_one_stored (p : Port) (store : storeQuiet s = true) (before : boxQuiet (otherPort p) s = true)
    (idle : s.wipe.activity = .idle) (free : s.wipe.toHand = none) (busy : s.engine.running ≠ none)
    (progress : progressBox p s = t) (other : box (otherPort p) t = box (otherPort p) s) (ks : t.ks = s.ks)
    (supply : t.supplyOk = s.supplyOk) (wipe : t.wipe = s.wipe) (running : t.engine.running = s.engine.running) :
    settle s = t := by
  have after : boxQuiet (otherPort p) t = true :=
    boxQuiet_mono before other (fun r on => by rw [ks]; exact on) (fun k on => by rw [waits_congr ks]; exact on)
  rw [settle_one p store before idle free busy progress after wipe running,
    serviceStore_quiet t ((storeQuiet_congr ks supply).trans store)]

theorem handMailbox_kept (p : Port) (j : Job) (s : State) :
    box (otherPort p) (handMailbox p j s) = box (otherPort p) s ∧ (handMailbox p j s).ks = s.ks ∧
    (handMailbox p j s).supplyOk = s.supplyOk ∧ (handMailbox p j s).wipe = s.wipe ∧
    (handMailbox p j s).engine.running = s.engine.running := by
  cases p <;> exact ⟨rfl, rfl, rfl, rfl, rfl⟩

/-- A mailbox hands a job while another runs. -/
theorem settle_hands {j : Job} {k : Held} (p : Port) (store : storeQuiet s = true) (before : boxQuiet (otherPort p) s = true)
    (idle : s.wipe.activity = .idle) (free : s.wipe.toHand = none) (busy : s.engine.running ≠ none)
    (progress : progressBox p s = setBox p (some k) (handMailbox p j s)) :
    settle s = setBox p (some k) (handMailbox p j s) := by
  obtain ⟨other, ks, supply, wipe, running⟩ := handMailbox_kept p j s
  refine settle_one_stored p store before idle free busy progress ?_ ?_ ?_ ?_ ?_
  · rw [box_setBox_other, other]
  · rw [setBox_ks, ks]
  · rw [setBox_supplyOk, supply]
  · rw [setBox_wipe, wipe]
  · rw [setBox_engine, running]

/-- What a delivered answer changes outside its port. -/
theorem deliver_kept (p : Port) (r : Response) (s : State) :
    box (otherPort p) (deliver p r s) = box (otherPort p) s ∧ (deliver p r s).ks = s.ks ∧
    (deliver p r s).supplyOk = s.supplyOk ∧ (deliver p r s).wipe = s.wipe ∧ (deliver p r s).engine = s.engine ∧
    (deliver p r s).w = s.w ∧ (deliver p r s).keys = s.keys ∧ (deliver p r s).bands = s.bands ∧ box p (deliver p r s) = none := by
  unfold deliver
  cases p with
  | link =>
    dsimp only
    split <;> exact ⟨rfl, rfl, rfl, rfl, rfl, rfl, rfl, rfl, rfl⟩
  | side => exact ⟨rfl, rfl, rfl, rfl, rfl, rfl, rfl, rfl, rfl⟩

theorem deliver_link (r : Response) (mark : s.link.dropMark = none) : deliver .link r s =
    { s with linkBox := none, link := { s.link with outbound := s.link.outbound ++ [.response r] } } := by
  unfold deliver
  dsimp only
  split
  · rename_i m found
    rw [mark] at found
    cases found
  · rfl

theorem deliver_dropped (r : Response) (mark : s.link.dropMark ≠ none) : deliver .link r s =
    { s with linkBox := none, link := { s.link with dropMark := none } } := by
  unfold deliver
  dsimp only
  cases found : s.link.dropMark with
  | none => exact absurd found mark
  | some m => rfl

/-! ## The arbiter (R89) -/

/-- At rest but for the arbiter. -/
theorem settle_grants (store : storeQuiet s = true) (link : boxQuiet .link s = true) (side : boxQuiet .side s = true)
    (idle : s.wipe.activity = .idle) (free : s.wipe.toHand = none) : settle s = grant s := by
  unfold settle
  rw [serviceStore_quiet s store, progressBox_quiet link, progressBox_quiet side, progressWipe_idle idle,
    serviceStore_quiet s store, handHeldWipe_none free]

theorem grantMailbox_eq (j : Job) (held : box p s = some h) : grantMailbox p j s =
    setBox p (some { h with started := true })
      { s with engine := { (withdraw p s).engine with running := some (.mailbox p, j), lastServed := p } } := by
  have same : box p { withdraw p s with
      engine := { (withdraw p s).engine with running := some (.mailbox p, j), lastServed := p } } = some h := by
    rw [← held]
    cases p <;> rfl
  unfold grantMailbox markStarted
  rw [same]
  cases p <;> rfl

theorem eq_otherPort {p q : Port} (h : p ≠ q) : p = otherPort q := by
  cases p <;> cases q <;> first | rfl | exact absurd rfl h

/-- The arbiter's choice among the mailboxes. -/
theorem grant_mailbox {j : Job} (running : s.engine.running = none) (startup : s.engine.startup = none)
    (wipe : s.engine.wipe = none) (compare : s.engine.compare = none) (job : mailboxJob p s = some j)
    (turn : p ≠ s.engine.lastServed ∨ mailboxJob (otherPort p) s = none) : grant s = grantMailbox p j s := by
  unfold grant
  rw [running]
  dsimp only
  rw [startup]
  dsimp only
  rw [wipe]
  dsimp only
  rw [compare]
  dsimp only
  by_cases last : p = s.engine.lastServed
  · have other := turn.resolve_left (not_not.mpr last)
    rw [← last, other]
    dsimp only
    rw [job]
  · rw [← eq_otherPort last, job]

/-- Settles O3. -/
theorem quietSettles : Obligations.QuietSettles := by
  unfold Obligations.QuietSettles
  refine ⟨fun s quiet => settle_quiet quiet, fun s p h store before idle free busy held => ⟨fun stage written clear => ?_,
    fun j stage clear => ?_, fun key wrap x stage written orders taken => ?_, fun y g stage clear => ?_⟩,
    fun s j moves wipe busy kept => ?_, fun s store link side idle free running => ⟨fun j startup => ?_, fun startup =>
      ⟨fun j wipe => ?_, fun wipe => ⟨fun j compare => ?_, fun p j h compare job held turn => ?_⟩⟩⟩⟩
  · exact settle_hands p store before idle free busy (progress_charged held stage written clear)
  · exact settle_hands p store before idle free busy (progress_handing held stage clear)
  · have progress := progress_secretWrite held stage written orders taken.symm
    have stands : BoxesStand s x := taken ▸ secretWritten_stands h.env.body key wrap orders
    refine ⟨fun clear => ?_, fun full => ?_⟩
    · rw [if_pos clear] at progress
      obtain ⟨other, ks, -, wipe, engine, -⟩ := deliver_kept p
        { id := h.env.id, status := .ok, wait := 0, granted := 0, report := [] } x
      refine settle_one p store before idle free busy progress ?_ (wipe.trans stands.wipe) ?_
      · exact boxQuiet_mono (stands.quiet before) other (fun r on => by rw [ks]; exact on)
          (fun k on => by rw [waits_congr ks]; exact on)
      · rw [engine, stands.engine]
    · rw [if_neg (by simp [full])] at progress
      refine settle_one p store before idle free busy progress ?_ ?_ ?_
      · exact boxQuiet_mono (stands.quiet before) (box_setBox_other _ p _) (fun r on => by rw [setBox_ks]; exact on)
          (fun k on => by rw [waits_congr (setBox_ks _ p _)]; exact on)
      · rw [setBox_wipe, stands.wipe]
      · rw [setBox_engine, stands.engine]
  · have answered : settle s = deliver p { id := h.env.id, status := y, wait := 0, granted := g, report := [] } s := by
      obtain ⟨other, ks, supply, wipe, engine, -⟩ := deliver_kept p
        { id := h.env.id, status := y, wait := 0, granted := g, report := [] } s
      exact settle_one_stored p store before idle free busy (progress_answering held stage clear) other ks supply wipe
        (by rw [engine])
    rw [answered]
    refine ⟨fun link mark => ?_, fun link mark => ?_, fun side => ?_⟩
    · subst link
      exact deliver_link _ mark
    · subst link
      exact deliver_dropped _ mark
    · subst side
      rfl
  · obtain ⟨store, link, side⟩ := moves
    have rest : settle s = grant (handHeldWipe s) := by
      unfold settle
      rw [serviceStore_quiet s store, progressBox_quiet link, progressBox_quiet side, progressWipe_quiet wipe,
        serviceStore_quiet s store]
    rw [rest]
    refine ⟨fun done open' => ?_, fun back => ?_⟩
    · have hands : heldBack j s = false := by
        unfold heldBack
        rw [done, Bool.false_or, Bool.and_eq_false_iff, decide_eq_false_iff_not]
        by_cases last : j = .openLoad
        · exact .inr (open' last)
        · exact .inl last
      rw [handHeldWipe_hands kept hands]
      exact grant_running busy
    · have stays : heldBack j s = true := by
        unfold heldBack
        rcases back with back | ⟨last, room⟩
        · rw [back]
          rfl
        · simp [last, room]
      rw [handHeldWipe_back kept stays]
      exact grant_running busy
  · rw [settle_grants store link side idle free, grant, running]
    dsimp only
    rw [startup]
  · rw [settle_grants store link side idle free, grant, running]
    dsimp only
    rw [startup]
    dsimp only
    rw [wipe]
  · rw [settle_grants store link side idle free, grant, running]
    dsimp only
    rw [startup]
    dsimp only
    rw [wipe]
    dsimp only
    rw [compare]
  · rw [settle_grants store link side idle free, grant_mailbox running startup wipe compare job turn, grantMailbox_eq j held]

end

/-! # A band secret that is replaced -/

section

variable {s t u : State} {p : Port} {h : Held} {b d : BandId}

/-! ## A band secret that is replaced (R17, R19) -/

/-- The band held closed with its fresh secret, and its page queued. -/
def secretReplaced (p : Port) (b : BandId) (z : Secret) (s : State) : State :=
  queuePage (secretPage b) [.request p] (setSecret b (some z) (lanesReact (holdClosed b s)))

theorem replaceSecret_eq (p : Port) (b : BandId) (z : Secret) (key : MediaKey) (wrap : Option Wrap) (s : State) :
    replaceSecret p b z key wrap s = nextAct p s (.secretWrite key wrap) (secretReplaced p b z s) := rfl

theorem holdClosed_at (b d : BandId) (s : State) :
    flags (holdClosed b s) d =
      (if b = d then { readLocked := true, writeLocked := true, pendingLoad := false, held := true } else flags s d) ∧
    entry (holdClosed b s) (.band d) = if b = d then removed (entry s (.band b)) else entry s (.band d) :=
  ⟨flags_setPair _ _ _ _, entry_setPair _ _ _ _⟩

theorem secretReplaced_bands (z : Secret) (orders : noOrders s = true) (d : BandId) :
    SameBand d (holdClosed b s) (secretReplaced p b z s) := by
  have orders' : noOrders (holdClosed b s) = true := orders
  refine ((sameBand_lanesReact orders' d).trans ?_).trans (sameBand_queuePage _ _ d)
  exact .of_tables rfl rfl

theorem secretReplaced_kept (z : Secret) (orders : noOrders s = true) :
    (secretReplaced p b z s).w = { s.w with secrets := put s.w.secrets b (some z) } ∧
    (∀ q, box q (secretReplaced p b z s) = box q s) := by
  have orders' : noOrders (holdClosed b s) = true := orders
  have traffic := lanesReact_traffic orders'
  refine ⟨?_, fun q => ?_⟩
  · rw [secretReplaced, queuePage_w]
    show { (lanesReact (holdClosed b s)).w with secrets := put (lanesReact (holdClosed b s)).w.secrets b (some z) } = _
    rw [traffic.w]
    rfl
  · have held := (WatchOnly.queue (secretPage b) [.request p] (setSecret b (some z) (lanesReact (holdClosed b s)))).box q
    have same : box q (setSecret b (some z) (lanesReact (holdClosed b s))) = box q (lanesReact (holdClosed b s)) := by
      cases q <;> rfl
    have before : box q (holdClosed b s) = box q s := by cases q <;> rfl
    rw [secretReplaced, held, same, traffic.box, before]

/-- A job that replaces a band secret holds the band closed and waits for the page. -/
theorem replaces_secret {c : Instr} {z : Secret} {key : MediaKey} {wrap : Option Wrap} (held : box p s = some h)
    (orders : noOrders s = true) (run : exec c s = .next (settle (replaceSecret p b z key wrap (endJob s)))) :
    ∃ x, exec c s = .next (settle x) ∧
      (∃ room, box p x = some { h with stage := .secretWrite key wrap, room := room }) ∧
      flags x b = { readLocked := true, writeLocked := true, pendingLoad := false, held := true } ∧
      entry x (.band b) = removed (entry s (.band b)) ∧ x.w.secrets = put s.w.secrets b (some z) ∧
      x.w.bands = s.w.bands ∧ x.w.creds = s.w.creds ∧ Carried (secretPage b) x ∧
      ∀ d : BandId, d ≠ b → SameBand d s x := by
  have orders' : noOrders (endJob s) = true := orders
  obtain ⟨w, boxes⟩ := secretReplaced_kept (p := p) (b := b) z orders'
  have bands (d : BandId) := secretReplaced_bands (p := p) (b := b) z orders' d
  have carried : Carried (secretPage b) (secretReplaced p b z (endJob s)) := carried_queuePage_same _ _ _
  obtain ⟨t, replaced⟩ : ∃ t, secretReplaced p b z (endJob s) = t := ⟨_, rfl⟩
  rw [replaced] at w carried
  simp only [replaced] at boxes bands
  have held' : box p t = some h := (boxes p).trans ((box_endJob p s).trans held)
  rw [replaceSecret_eq, replaced, nextAct_eq _ _ held'] at run
  have after (d : BandId) := (bands d).trans (sameBand_setBox (p := p)
    (some { h with stage := .secretWrite key wrap, room := roomTouched (endJob s) t }) d)
  refine ⟨_, run, ⟨_, box_setBox_same _ p _⟩, ?_, ?_, ?_, ?_, ?_, carried_setBox _ carried, fun d other => ?_⟩
  · rw [(after b).1, (holdClosed_at b b _).1, if_pos rfl]
  · rw [(after b).2, (holdClosed_at b b _).2, if_pos rfl]
    rfl
  · rw [setBox_w, w]
    rfl
  · rw [setBox_w, w]
    rfl
  · rw [setBox_w, w]
    rfl
  · refine SameBand.trans (s := s) (t := holdClosed b (endJob s)) ⟨?_, ?_⟩ (after d)
    · rw [(holdClosed_at b d _).1, if_neg (Ne.symm other)]
      rfl
    · rw [(holdClosed_at b d _).2, if_neg (Ne.symm other)]
      rfl

theorem bandSetRangeDone_drawn {y : Option Secret} {a : BandArgs} {z : Secret} (body : h.env.body = .bandSet y (some a))
    (good : s.entropyFailed = false) : bandSetRangeDone p h (some z) s =
      replaceSecret p (bandNo a.band.toNat) z
        (mediaKey s (rowKey (cred s 0) (bandNo a.band.toNat) (adminUnder h s)) z)
        (openWrapFor (a.enables.getLsbD 0) none (rowKey (cred s 0) (bandNo a.band.toNat) (adminUnder h s)) s) s := by
  unfold bandSetRangeDone
  rw [drawn_good good, body]

theorem bandEraseDone_drawn {y : Option Secret} {n : Byte} {z : Secret} (body : h.env.body = .bandErase y (some n))
    (good : s.entropyFailed = false) : bandEraseDone p h (some z) s =
      replaceSecret p (bandNo n.toNat) z (mediaKey s (rowKey (cred s 0) (bandNo n.toNat) (adminUnder h s)) z) none s := by
  unfold bandEraseDone
  rw [drawn_good good, body]

theorem bandSetRangeDone_none {d : Draw} (failed : d = none ∨ s.entropyFailed = true) :
    bandSetRangeDone p h d s = noEntropy p s := by
  unfold bandSetRangeDone
  rw [drawn_none failed]

theorem bandEraseDone_none {d : Draw} (failed : d = none ∨ s.entropyFailed = true) :
    bandEraseDone p h d s = noEntropy p s := by
  unfold bandEraseDone
  rw [drawn_none failed]

/-! ## The page is written: the effect (R17, R19) -/

/-- The band brought to its enables after its hold, in terms of the state before. -/
theorem settleBand_at (k : Option MediaKey) (d : BandId) (s : State) :
    flags (settleBand b k (unhold b s)) d = (if b = d then (settlePair (unhold b s) b k).1 else flags s d) ∧
    entry (settleBand b k (unhold b s)) (.band d) =
      if b = d then (settlePair (unhold b s) b k).2 else entry s (.band d) := by
  unfold settleBand
  rw [flags_setPair, entry_setPair]
  refine ⟨?_, rfl⟩
  split
  · rfl
  · rename_i other
    exact get_put_other _ other _

/-- An erased band is brought to its enables. -/
theorem bandEraseWritten_at (key : MediaKey) (orders : noOrders s = true) (d : BandId) :
    flags (bandEraseWritten b key s) d = (if b = d then (settlePair (unhold b s) b (some key)).1 else flags s d) ∧
    entry (bandEraseWritten b key s) (.band d) =
      if b = d then (settlePair (unhold b s) b (some key)).2 else entry s (.band d) := by
  have orders' : noOrders (settleBand b (some key) (unhold b s)) = true := orders
  unfold bandEraseWritten
  rw [flags_lanesReact orders', entry_lanesReact orders']
  exact settleBand_at (some key) d s

theorem absent_key {k : KeyName} (h : present s k = false) : (entry s k).key = none := by
  simpa [present] using h

theorem loaded_absent {e : LiveKey} (key : MediaKey) (h : e.key = none) : loaded key e = { key := some key, epoch := e.epoch + 1 } := by
  unfold loaded
  rw [if_neg (by simp [h])]

/-- The statement about an erased band. -/
theorem secretWritten_erase (y : Option Secret) (n : Byte) (key : MediaKey) (wrap : Option Wrap) (s x : State) (b : BandId)
    (orders : noOrders s = true) (band : b = bandNo n.toNat) (taken : x = secretWritten (.bandErase y (some n)) key wrap s) :
    x.w = s.w ∧ x.ks = s.ks ∧ (∀ d : BandId, d ≠ b → SameBand d s x) ∧
    (((record s b).rle = true ∨ barred s = true ∨ hasSecret s b = false) →
      flags x b = { readLocked := true, writeLocked := true, pendingLoad := false, held := false } ∧
      entry x (.band b) = removed (entry s (.band b))) ∧
    ((record s b).rle = false → barred s = false → hasSecret s b = true →
      flags x b = { readLocked := false, writeLocked := (record s b).wle, pendingLoad := false, held := false } ∧
      (present s (.band b) = false → entry x (.band b) = { key := some key, epoch := (entry s (.band b)).epoch + 1 })) := by
  have erased : x = bandEraseWritten b key s := by
    rw [taken, band]
    rfl
  have orders' : noOrders (settleBand b (some key) (unhold b s)) = true := orders
  have traffic := lanesReact_traffic orders'
  have at' := bandEraseWritten_at (b := b) key orders
  rw [← erased] at at'
  refine ⟨?_, ?_, fun d other => ?_, fun shut => ?_, fun rle free secret => ?_⟩
  · rw [erased, bandEraseWritten, traffic.w]
    rfl
  · rw [erased, bandEraseWritten, traffic.ks]
    rfl
  · refine ⟨?_, ?_⟩
    · rw [(at' d).1, if_neg (Ne.symm other)]
    · rw [(at' d).2, if_neg (Ne.symm other)]
  · rw [(at' b).1, (at' b).2, if_pos rfl, if_pos rfl, settlePair_closed (s := unhold b s) shut]
    exact ⟨rfl, rfl⟩
  · rw [(at' b).1, (at' b).2, if_pos rfl, if_pos rfl, settlePair_open (s := unhold b s) free secret rle]
    refine ⟨rfl, fun absent => ?_⟩
    dsimp only
    rw [if_neg (by show ¬present s (.band b) = true; simp [absent])]
    exact loaded_absent key (absent_key absent)

/-! ## The range change -/

theorem bumpRange_at (b d : BandId) (s : State) : entry (bumpRange b s) (.band d) =
    if d = b ∨ d = 0 then { (entry s (.band d)) with epoch := (entry s (.band d)).epoch + 1 } else entry s (.band d) := by
  have put' (c e : BandId) (k : LiveKey) (v : State) : entry (setBandKey c k v) (.band e) = if c = e then k else entry v (.band e) :=
    get_put _ _ _ _
  unfold bumpRange
  dsimp only
  split
  · rename_i zero
    rw [put']
    subst zero
    by_cases same : (0 : BandId) = d
    · subst same
      rw [if_pos rfl, if_pos (.inl rfl)]
      rfl
    · rw [if_neg same, if_neg (by rintro (h | h) <;> exact same h.symm)]
  · rename_i nonzero
    rw [put', put']
    by_cases zero : (0 : BandId) = d
    · subst zero
      rw [if_pos rfl, if_pos (.inr rfl)]
      show bumped (entry (setBandKey b _ s) (.band 0)) = _
      rw [put', if_neg nonzero]
      rfl
    · rw [if_neg zero]
      by_cases same : b = d
      · subst same
        rw [if_pos rfl, if_pos (.inl rfl)]
        rfl
      · rw [if_neg same, if_neg (by rintro (h | h); exacts [same h.symm, zero h.symm])]

/-- The state of a range change before its band is brought to its enables. -/
def rangeBase (y : BandArgs) (wrap : Option Wrap) (s : State) : State :=
  queuePage (bandPage (bandNo y.band.toNat)) []
    (bumpRange (bandNo y.band.toNat) (setRecord (bandNo y.band.toNat) (rangeRecord y wrap s) s))

theorem rangeTaken_eq (y : BandArgs) (key : MediaKey) (wrap : Option Wrap) (s : State) : rangeTaken y key wrap s =
    settleBand (bandNo y.band.toNat) (some key) (unhold (bandNo y.band.toNat) (rangeBase y wrap s)) := rfl

theorem rangeBase_w (y : BandArgs) (wrap : Option Wrap) (s : State) : (rangeBase y wrap s).w =
    { s.w with bands := put s.w.bands (bandNo y.band.toNat) (rangeRecord y wrap s) } := by
  rw [rangeBase, queuePage_w, bumpRange_frame]
  rfl

theorem rangeBase_flags (y : BandArgs) (wrap : Option Wrap) (d : BandId) : flags (rangeBase y wrap s) d = flags s d := by
  rw [flags, rangeBase, queuePage_bands, bumpRange_frame]
  rfl

theorem rangeBase_entry (y : BandArgs) (wrap : Option Wrap) (d : BandId) : entry (rangeBase y wrap s) (.band d) =
    if d = bandNo y.band.toNat ∨ d = 0 then { (entry s (.band d)) with epoch := (entry s (.band d)).epoch + 1 }
    else entry s (.band d) := by
  have queued : entry (rangeBase y wrap s) (.band d) =
      entry (bumpRange (bandNo y.band.toNat) (setRecord (bandNo y.band.toNat) (rangeRecord y wrap s) s)) (.band d) := by
    unfold entry rangeBase
    rw [queuePage_keys]
  rw [queued, bumpRange_at]
  rfl

theorem record_rangeBase (y : BandArgs) (wrap : Option Wrap) (d : BandId) : record (rangeBase y wrap s) d =
    if bandNo y.band.toNat = d then rangeRecord y wrap s else record s d := by
  rw [record, rangeBase_w]
  exact get_put _ _ _ _

end

/-! # Range changes, erasures, and the page write that brings them about -/

section

variable {s t u : State} {p : Port} {h : Held} {b d : BandId} {a : BandArgs} {wrap : Option Wrap}

/-! ## The ranges stay apart (R2) -/

theorem overlap_comm (x n y m : Nat) : overlap x n y m = overlap y m x n := by
  unfold overlap
  exact Bool.and_comm _ _

theorem rangeRecord_range : (rangeRecord a wrap s).start = (if a.band = 0 ∨ a.length = 0 then 0 else a.start.toNat) ∧
    (rangeRecord a wrap s).length = if a.band = 0 ∨ a.length = 0 then 0 else a.length.toNat := by
  have which : (a.band = 0 || a.length = 0) = true ↔ a.band = 0 ∨ a.length = 0 := by
    rw [Bool.or_eq_true, decide_eq_true_iff, decide_eq_true_iff]
  unfold rangeRecord newRange
  simp only [which]
  split <;> exact ⟨rfl, rfl⟩

/-- What the check of R15 says of a range that it lets through. -/
theorem checked_range (ok : bandSetCheck a s = none) (used : (rangeRecord a wrap s).length ≠ 0) :
    (rangeRecord a wrap s).start = a.start.toNat ∧ (rangeRecord a wrap s).length = a.length.toNat ∧
    a.start.toNat % granule s = 0 ∧ a.length.toNat % granule s = 0 ∧ a.start.toNat + a.length.toNat ≤ capacity s ∧
    ∀ c : BandId, c ≠ 0 → c ≠ bandNo a.band.toNat → (record s c).length ≠ 0 →
      overlap a.start.toNat a.length.toNat (record s c).start (record s c).length = false := by
  obtain ⟨start, length⟩ := rangeRecord_range (a := a) (wrap := wrap) (s := s)
  have ranged : ¬(a.band = 0 ∨ a.length = 0) := fun none' => by
    rw [length, if_pos none'] at used
    exact used rfl
  rw [if_neg ranged] at start length
  have legal : ¬(15 < a.band.toNat ∨ 15 < a.relock.toNat ∨ 3 < a.enables.toNat) := fun bad => by
    rw [bandSetCheck_bad a bad] at ok
    cases ok
  have band : a.band.toNat ≤ 15 := by omega
  rw [bandSetCheck_range a band (by omega) (by omega), if_neg ranged] at ok
  simp only [overlapping_iff a band] at ok
  split at ok
  · cases ok
  · rename_i fine
    simp only [not_or, not_not, Nat.not_lt] at fine
    obtain ⟨aligned, whole, within, apart⟩ := fine
    refine ⟨start, length, aligned, whole, within, fun c nonzero other used' => ?_⟩
    rw [← Bool.not_eq_true]
    exact fun meets => apart ⟨c, nonzero, (ne_bandNo band c).mp other, used', meets⟩

theorem rangesApart_of (ok : bandSetCheck a s = none) (apart : RangesApart s) (identity : t.w.identity = s.w.identity)
    (records : ∀ d, record t d = if bandNo a.band.toNat = d then rangeRecord a wrap s else record s d) : RangesApart t := by
  obtain ⟨disjoint, within⟩ := apart
  have fits := checked_range (wrap := wrap) ok
  have cap : capacity t = capacity s := by rw [capacity, identity]; rfl
  have gran : granule t = granule s := by rw [granule, identity]; rfl
  unfold RangesApart
  rw [cap, gran]
  refine ⟨fun b c hb hc ne ub uc => ?_, fun b hb ub => ?_⟩
  · rw [records] at ub uc
    rw [records b, records c]
    by_cases same : bandNo a.band.toNat = b
    · have other : bandNo a.band.toNat ≠ c := fun e => ne (same.symm.trans e)
      rw [if_pos same] at ub ⊢
      rw [if_neg other] at uc ⊢
      obtain ⟨start, length, -, -, -, clear⟩ := fits ub
      rw [start, length]
      exact clear c hc (Ne.symm other) uc
    · rw [if_neg same] at ub ⊢
      by_cases same' : bandNo a.band.toNat = c
      · rw [if_pos same'] at uc ⊢
        obtain ⟨start, length, -, -, -, clear⟩ := fits uc
        rw [start, length, overlap_comm]
        exact clear b hb (Ne.symm same) ub
      · rw [if_neg same'] at uc ⊢
        exact disjoint b c hb hc ne ub uc
  · rw [records] at ub ⊢
    split at ub
    · rename_i same
      rw [if_pos same]
      obtain ⟨start, length, aligned, whole, fits', -⟩ := fits ub
      rw [start, length]
      exact ⟨fits', aligned, whole⟩
    · rename_i other
      rw [if_neg other]
      exact within b hb ub

theorem settleBand_ks (b : BandId) (k : Option MediaKey) : (settleBand b k s).ks = s.ks := rfl

/-- The statement about a range change. -/
theorem secretWritten_range (y : Option Secret) (a : BandArgs) (key : MediaKey) (wrap : Option Wrap) (s x : State) (b : BandId)
    (orders : noOrders s = true) (band : b = bandNo a.band.toNat) (taken : x = secretWritten (.bandSet y (some a)) key wrap s) :
    record x b = { record s b with
      start := (if a.band = 0 ∨ a.length = 0 then 0 else a.start.toNat),
      length := (if a.band = 0 ∨ a.length = 0 then 0 else a.length.toNat),
      rle := a.enables.getLsbD 0, wle := a.enables.getLsbD 1, relock := a.relock.setWidth 4, openWrap := wrap } ∧
    Carried (bandPage b) x ∧ x.w.secrets = s.w.secrets ∧
    (b ≠ 0 → entry x (.band 0) = { (entry s (.band 0)) with epoch := (entry s (.band 0)).epoch + 1 }) ∧
    (∀ d : BandId, d ≠ b → d ≠ 0 → SameBand d s x ∧ record x d = record s d) ∧
    ((a.enables.getLsbD 0 = true ∨ barred s = true ∨ hasSecret s b = false) →
      flags x b = { readLocked := true, writeLocked := true, pendingLoad := false, held := false } ∧
      (present s (.band b) = false → entry x (.band b) = { key := none, epoch := (entry s (.band b)).epoch + 1 })) ∧
    (a.enables.getLsbD 0 = false → barred s = false → hasSecret s b = true →
      flags x b = { readLocked := false, writeLocked := a.enables.getLsbD 1, pendingLoad := false, held := false } ∧
      (present s (.band b) = false → entry x (.band b) = { key := some key, epoch := (entry s (.band b)).epoch + 2 })) ∧
    (bandSetCheck a s = none → RangesApart s → RangesApart x) := by
  have written : x = lanesReact (rangeTaken a key wrap s) := taken
  have orders' := rangeTaken_noOrders a key wrap orders
  have traffic := lanesReact_traffic orders'
  have flagsX (d : BandId) : flags x d =
      if b = d then (settlePair (unhold b (rangeBase a wrap s)) b (some key)).1 else flags s d := by
    rw [written, flags_lanesReact orders', rangeTaken_eq, ← band, (settleBand_at (some key) d _).1, rangeBase_flags]
  have entryX (d : BandId) : entry x (.band d) =
      if b = d then (settlePair (unhold b (rangeBase a wrap s)) b (some key)).2 else entry (rangeBase a wrap s) (.band d) := by
    rw [written, entry_lanesReact orders', rangeTaken_eq, ← band, (settleBand_at (some key) d _).2]
  have wX : x.w = (rangeBase a wrap s).w := by
    rw [written, traffic.w]
    rfl
  have ksX : x.ks = (rangeBase a wrap s).ks := by
    rw [written, traffic.ks, rangeTaken_eq, settleBand_ks]
    rfl
  have recordX (d : BandId) : record x d = if b = d then rangeRecord a wrap s else record s d := by
    rw [record, wX, ← record, record_rangeBase, band]
  have recordB : record (unhold b (rangeBase a wrap s)) b = rangeRecord a wrap s := by
    have same := record_rangeBase (s := s) a wrap b
    rw [if_pos band.symm] at same
    exact same
  have barredB : barred (unhold b (rangeBase a wrap s)) = barred s := by
    show barred (rangeBase a wrap s) = _
    unfold barred theft
    rw [rangeBase_w]
  have secretB : hasSecret (unhold b (rangeBase a wrap s)) b = hasSecret s b := by
    show hasSecret (rangeBase a wrap s) b = _
    unfold hasSecret
    rw [rangeBase_w]
  have entryB : entry (unhold b (rangeBase a wrap s)) (.band b) =
      { (entry s (.band b)) with epoch := (entry s (.band b)).epoch + 1 } := by
    have same := rangeBase_entry (s := s) a wrap b
    rw [if_pos (.inl band)] at same
    exact same
  have presentB : present (unhold b (rangeBase a wrap s)) (.band b) = present s (.band b) := by
    rw [present, entryB]
    rfl
  refine ⟨?_, ?_, ?_, fun nonzero => ?_, fun d other nonzero => ⟨⟨?_, ?_⟩, ?_⟩, fun shut => ?_, fun rle free secret => ?_,
    fun ok apart => ?_⟩
  · obtain ⟨start, length⟩ := rangeRecord_range (a := a) (wrap := wrap) (s := s)
    rw [recordX, if_pos rfl, ← start, ← length, band]
    rfl
  · have queued : Carried (bandPage b) (rangeBase a wrap s) := by
      rw [rangeBase, ← band]
      exact carried_queuePage_same _ _ _
    exact queued.keep wX ksX
  · rw [wX, rangeBase_w]
  · rw [entryX, if_neg nonzero, rangeBase_entry, if_pos (.inr rfl)]
  · rw [flagsX, if_neg (Ne.symm other)]
  · rw [entryX, if_neg (Ne.symm other), rangeBase_entry, if_neg (by rw [← band]; rintro (h | h); exacts [other h, nonzero h])]
  · rw [recordX, if_neg (Ne.symm other)]
  · have closed' := settlePair_closed (s := unhold b (rangeBase a wrap s)) (b := b) (k := some key)
      (by rw [recordB, barredB, secretB]; exact shut)
    refine ⟨by rw [flagsX, if_pos rfl, closed'], fun absent => ?_⟩
    rw [entryX, if_pos rfl, closed']
    dsimp only
    have none' : (entry s (.band b)).key = none := absent_key absent
    rw [entryB, removed_eq, none']
    rfl
  · have open' := settlePair_open (s := unhold b (rangeBase a wrap s)) (b := b) (k := key)
      (by rw [barredB]; exact free) (by rw [secretB]; exact secret) (by rw [recordB]; exact rle)
    refine ⟨by rw [flagsX, if_pos rfl, open', recordB]; rfl, fun absent => ?_⟩
    rw [entryX, if_pos rfl, open']
    dsimp only
    rw [presentB, absent, if_neg (by simp), entryB, loaded_absent]
    · dsimp only
      rw [BitVec.add_assoc]
      rfl
    · exact absent_key absent
  · exact rangesApart_of ok apart (by rw [wX, rangeBase_w]) (fun d => by rw [recordX, band])

/-! ## The page write that brings it about -/

theorem room_nil_queuePage (r : PageId) (ws : List Waiter) (queue : s.ks.queue = []) (room : s.ks.room = []) :
    (queuePage r ws s).ks.room = [] := by
  have few : s.ks.queue.length < Config.storeRoom := by rw [queue]; decide
  unfold queuePage
  rw [queue, room]
  rw [if_neg (by simp [onList]), if_neg (by simp [onList])]
  split
  · rw [if_pos (by decide)]
    exact room
  · split
    · split
      · exact room
      · exact room
    · exact room

/-- With the lists empty a written band secret leaves no page waiting for room. -/
theorem secretWritten_room (body : Body) (key : MediaKey) (wrap : Option Wrap) (orders : noOrders s = true)
    (queue : s.ks.queue = []) (room : s.ks.room = []) : (secretWritten body key wrap s).ks.room = [] := by
  unfold secretWritten
  split
  · rename_i y z
    rw [bandRangeWritten_eq, (lanesReact_traffic (rangeTaken_noOrders _ key wrap orders)).ks]
    show (rangeBase z wrap s).ks.room = []
    refine room_nil_queuePage _ _ ?_ ?_
    · rw [bumpRange_frame]
      exact queue
    · rw [bumpRange_frame]
      exact room
  · unfold bandEraseWritten
    rw [lanesReact_ks (by exact orders)]
    exact room
  · exact room

theorem waits_empty (k : Waiter) (queue : s.ks.queue = []) (room : s.ks.room = []) (writer : s.ks.writer = none) :
    waits k s = false := by
  unfold waits
  rw [queue, room, writer]
  rfl

theorem exec_pageWrite {w : Writing} (writer : s.ks.writer = some w) (mode : s.mode ≠ .writerWait) :
    exec .pageWriteComplete s = .next (settle (completeWrite s)) := by
  show execPageWriteComplete s = _
  unfold execPageWriteComplete
  rw [writer]
  exact if_neg mode

theorem grant_congr_quiet (quiet : engineQuiet s = true) (engine : t.engine = s.engine) : grant t = t := by
  obtain ⟨busy | ⟨startup, wipe, compare, link, side⟩, -⟩ := engineQuiet_iff.mp quiet
  · exact grant_running (by rw [engine]; exact busy)
  · exact grant_idle (by rw [engine]; exact startup) (by rw [engine]; exact wipe) (by rw [engine]; exact compare)
      (by rw [engine]; exact link) (by rw [engine]; exact side)

/-- The write of the band secret page, with nothing else queued. -/
theorem secret_page_written (p : Port) (h : Held) (key : MediaKey) (wrap : Option Wrap) (w : Writing) (s u x : State)
    (held : box p s = some h) (stage : h.stage = .secretWrite key wrap) (writer : s.ks.writer = some w) (queue : s.ks.queue = [])
    (room : s.ks.room = []) (mode : s.mode ≠ .writerWait) (orders : noOrders s = true) (idle : s.wipe.activity = .idle)
    (free : s.wipe.toHand = none) (quiet : engineQuiet s = true)
    (committed' : u = { s with ks := { s.ks with
      pages := put s.ks.pages w.page (match w.content with
        | some c => .intact c
        | none => .blank),
      writer := none } })
    (other : boxQuiet (otherPort p) u = true) (taken : x = secretWritten h.env.body key wrap u) :
    ∃ t, exec .pageWriteComplete s = .next t ∧ box p t = none ∧ t.w = x.w ∧ t.keys = x.keys ∧ t.bands = x.bands ∧
      (p = .link → s.link.dropMark = none →
        OutMsg.response { id := h.env.id, status := .ok, wait := 0, granted := 0, report := [] } ∈ t.link.outbound) ∧
      (p = .side → t.psp.response.id = h.env.id ∧ t.psp.response.status = rstatusCode .ok) := by
  have complete' : completeWrite s = u := by
    unfold completeWrite
    rw [committed']
    split
    · rename_i w' found
      obtain rfl : w = w' := Option.some.inj (writer.symm.trans found)
      unfold writtenAs
      cases w.content <;> rfl
    · rename_i found
      exact absurd (writer.symm.trans found) (by simp)
  have lists : u.ks.queue = [] ∧ u.ks.room = [] ∧ u.ks.writer = none := by
    rw [committed']
    exact ⟨queue, room, rfl⟩
  have kept : box p u = some h ∧ noOrders u = true ∧ u.wipe = s.wipe ∧ u.engine = s.engine ∧ u.link = s.link := by
    rw [committed', ← held, ← orders]
    exact ⟨by cases p <;> rfl, rfl, rfl, rfl, rfl⟩
  obtain ⟨queueU, roomU, writerU⟩ := lists
  obtain ⟨heldU, ordersU, wipeU, engineU, linkU⟩ := kept
  have store : storeQuiet u = true := by
    unfold storeQuiet
    rw [queueU, roomU]
    simp
  have stands : BoxesStand u x := taken ▸ secretWritten_stands h.env.body key wrap ordersU
  have roomX : x.ks.room = [] := taken ▸ secretWritten_room h.env.body key wrap ordersU queueU roomU
  have clear : roomClear (roomTouched u x) x = true := by
    unfold roomTouched
    rw [roomX]
    rfl
  have progress := progress_secretWrite heldU stage (waits_empty _ queueU roomU writerU) ordersU taken.symm
  rw [if_pos clear] at progress
  obtain ⟨otherX, ks, -, wipe, engine, w', keys, bands, done⟩ := deliver_kept p
    { id := h.env.id, status := .ok, wait := 0, granted := 0, report := [] } x
  have settled : settle u = serviceStore (progressBox p u) := by
    have after : boxQuiet (otherPort p) (progressBox p u) = true := by
      rw [progress]
      exact boxQuiet_mono (stands.quiet other) otherX (fun r on => by rw [ks]; exact on)
        (fun k on => by rw [waits_congr ks]; exact on)
    have wipe' : (progressBox p u).wipe = s.wipe := by rw [progress, wipe, stands.wipe, wipeU]
    rw [settle_progress p store other after (by rw [wipe', idle]) (by rw [wipe', free])]
    exact grant_congr_quiet quiet (by rw [serviceStore_engine, progress, engine, stands.engine, engineU])
  rw [progress] at settled
  have run := exec_pageWrite writer mode
  rw [complete', settled] at run
  refine ⟨_, run, ?_, ?_, ?_, ?_, fun link mark => ?_, fun side => ?_⟩
  · rw [serviceStore_frame, ← done]
    cases p <;> rfl
  · rw [serviceStore_w, w']
  · rw [serviceStore_keys, keys]
  · rw [serviceStore_bands, bands]
  · subst link
    rw [serviceStore_link, deliver_link _ (by rw [stands.dropMark, linkU, mark])]
    exact List.mem_append_right _ List.mem_cons_self
  · subst side
    rw [serviceStore_psp]
    exact ⟨rfl, rfl⟩

/-- Settles O51. -/
theorem replacedSecretHoldsTheBand : Obligations.ReplacedSecretHoldsTheBand := by
  unfold Obligations.ReplacedSecretHoldsTheBand
  refine ⟨secret_page_written, fun p h s c d failed which => ?_, fun p h s y a z b kb running body band orders good key => ?_,
    fun p h s y n z b kb running body band orders good key => ?_, secretWritten_range, secretWritten_erase⟩
  · rcases which with ⟨running, rfl⟩ | ⟨running, rfl⟩
    · have run := exec_bandSetRangeJob d running
      rw [bandSetRangeDone_none (s := endJob s) failed] at run
      exact noEntropy_ends running.2 run
    · have run := exec_bandEraseJob d running
      rw [bandEraseDone_none (s := endJob s) failed] at run
      exact noEntropy_ends running.2 run
  · subst band key
    have run := exec_bandSetRangeJob (some z) running
    rw [bandSetRangeDone_drawn (s := endJob s) body good] at run
    exact replaces_secret running.2 orders run
  · subst band key
    have run := exec_bandEraseJob (some z) running
    rw [bandEraseDone_drawn (s := endJob s) body good] at run
    exact replaces_secret running.2 orders run

end

/-! # What a mismatch does -/

section

variable {s t u : State} {p : Port} {h : Held} {i j : SlotId}

/-! ## VERIFY_JOB_COMPLETE on a mismatch (R102) -/

theorem heldSlot_eq (slot : slotPresented h.env.body = some i) : heldSlot h = i := by
  rw [heldSlot, slot]
  rfl

/-- A mismatch's effects on the slot, before BUDGET is re-evaluated. -/
def mismatched (i : SlotId) (s : State) : State :=
  if mustDisable i s then (if (cred s i).state = .disabled then setBackoff i 0 s else disable i s) else backoffAfter i s

theorem mismatched_work (i : SlotId) (s : State) : SlotWork s (mismatched i s) := by
  unfold mismatched
  split
  · split
    · exact (SlotWork.refl s).setBackoff i 0
    · exact disable_work i
  · exact backoffAfter_work i

theorem mismatchSlot_watch (i : SlotId) (scrub : ScrubInWiping s) : WatchOnly (mismatched i s) (mismatchSlot i s) :=
  (mismatched_work i s).budget scrub _

theorem mismatchSlot_slotWatch (i : SlotId) (scrub : ScrubInWiping s) : SlotWatch s (mismatchSlot i s) :=
  (mismatched_work i s).slotWatch.trans (mismatchSlot_watch i scrub).slotWatch

theorem counts_mismatched (i : SlotId) (s : State) : (mismatched i s).w.counts = s.w.counts := by
  unfold mismatched
  split
  · split
    · rfl
    · rw [disable, queuePage_w]
      rfl
  · unfold backoffAfter
    split <;> rfl

theorem backoffOf_mismatched (i j : SlotId) (s : State) : backoffOf (mismatched i s) j =
    if j ≠ i then backoffOf s j
    else if i ≠ 0 ∧ count s i = (cred s i).hard then 0
    else if count s i ≤ (cred s i).free then backoffOf s i
    else backoffDelay i (cred s i) (count s i) := by
  unfold mismatched
  simp only [mustDisable_iff]
  by_cases same : i = j
  · subst same
    rw [if_neg (not_not.mpr rfl)]
    split
    · split
      · rw [backoffOf_setBackoff, if_pos rfl]
      · rw [backoffOf_disable, if_pos rfl]
    · unfold backoffAfter
      split
      · rfl
      · rw [backoffOf_setBackoff, if_pos rfl]
  · rw [if_pos (Ne.symm same)]
    split
    · split
      · rw [backoffOf_setBackoff, if_neg same]
      · rw [backoffOf_disable, if_neg same]
    · exact backoffOf_backoffAfter_other same

theorem cred_mismatched (i j : SlotId) (s : State) : cred (mismatched i s) j =
    if j = i ∧ i ≠ 0 ∧ count s i = (cred s i).hard then { cred s i with state := .disabled } else cred s j := by
  unfold mismatched
  simp only [mustDisable_iff]
  split
  · rename_i limit
    split
    · rename_i disabled
      rw [cred_setBackoff]
      split
      · rename_i target
        rw [target.1, ← disabled]
      · rfl
    · rw [cred_disable]
      by_cases same : i = j
      · rw [if_pos same, if_pos ⟨same.symm, limit⟩]
      · rw [if_neg same, if_neg fun target => same target.1.symm]
  · rename_i below
    rw [cred_backoffAfter, if_neg fun target => below target.2]

theorem verified_mismatch (some' : (cred s i).state ≠ .empty) (wrong : verifies (cred s i) (secretPresented h.env.body) = false) :
    verified p h i s = nextAct p s (ends .authFailed) (mismatchSlot i s) := by
  unfold verified
  rw [if_neg some', if_neg (by simp [wrong])]

/-- Settles O42. -/
theorem mismatchHasNoEffectOfItsKind : Obligations.MismatchHasNoEffectOfItsKind := by
  unfold Obligations.MismatchHasNoEffectOfItsKind
  intro p h i s running slot some' wrong scrub
  have scrub' := scrub.endJob
  have run := exec_verify running
  rw [heldSlot_eq slot, verified_mismatch (s := endJob s) some' wrong] at run
  have watch := mismatchSlot_watch i scrub'
  have slots := mismatchSlot_slotWatch i scrub'
  have held : box p (mismatchSlot i (endJob s)) = some h := (slots.box p).trans ((box_endJob p s).trans running.2)
  rw [nextAct_eq _ _ held] at run
  refine ⟨_, run, ?_, answers_setBox _ _ _ _, ?_, ?_, fun j => ?_, fun j => ?_, ?_, ?_, ?_, ?_, ?_, fun dormant => ?_⟩
  · rw [setBox_engine, slots.engine]
    rfl
  · rw [box_setBox_other, slots.box]
    exact box_endJob _ s
  · rw [setBox_w, watch.counts, counts_mismatched]
    rfl
  · rw [backoffOf_setBox, watch.backoffOf, backoffOf_mismatched]
    rfl
  · rw [cred_setBox, watch.cred, cred_mismatched]
    rfl
  · rw [setBox_w, slots.root]
    rfl
  · rw [setBox_w, slots.secrets]
    rfl
  · rw [setBox_w, slots.records]
    rfl
  · rw [setBox_w, slots.config]
    rfl
  · rw [setBox_coverPermit, slots.coverPermit]
    rfl
  · have work := mismatched_work i (endJob s)
    have rest : theft (mismatched i (endJob s)) = .dormant := work.countsOnly.theft.trans dormant
    have still : mismatchSlot i (endJob s) = mismatched i (endJob s) :=
      budgetAfter_still (s := mismatched i (endJob s)) _ (by rw [rest]; simp) (by rw [rest]; simp)
    rw [still, setBox_w, setBox_wipe, setBox_keys, setBox_bands, setBox_link, setBox_twu, work.frame]
    exact ⟨rfl, rfl, rfl, rfl, rfl, rfl, rfl⟩

end

/-! # A match lowers the failure sum and may end SUSPECT -/

section

variable {s t u : State} {p : Port} {h : Held} {i j : SlotId}

/-! ## A match only lowers the failure sum (R101, R114) -/

/-- The slots with the presented slot's failures forgotten. -/
def forgiven (i : SlotId) (s : State) : State := clearCount i (undisable i s)

theorem forgiven_work (i : SlotId) (s : State) : SlotWork s (forgiven i s) := (undisable_work i).trans (clearCount_work i)

theorem forgiven_zero (s : State) : forgiven 0 s = clearCount 0 s := rfl

theorem count_forgiven (i j : SlotId) (s : State) : count (forgiven i s) j = if i = j then 0 else count s j := by
  rw [forgiven, count_clearCount]
  split
  · rfl
  · rename_i other
    exact (undisable_others i j other).1

theorem backoffOf_forgiven (i j : SlotId) (s : State) : backoffOf (forgiven i s) j = if i = j then 0 else backoffOf s j := by
  rw [forgiven, backoffOf_clearCount]
  split
  · rfl
  · rename_i other
    exact (undisable_others i j other).2.2

theorem cred_forgiven (i j : SlotId) (s : State) : cred (forgiven i s) j =
    if i = j ∧ i ≠ 0 ∧ (cred s i).state = .disabled then { cred s i with state := .set } else cred s j := by
  rw [forgiven, cred_clearCount]
  by_cases same : i = j
  · subst same
    unfold undisable
    by_cases disabled : i ≠ 0 ∧ (cred s i).state = .disabled
    · rw [if_pos (by simpa using disabled), cred_queuePage, cred_setCred, if_pos rfl, if_pos ⟨rfl, disabled⟩]
    · rw [if_neg (by simpa using disabled), if_neg fun both => disabled both.2]
  · rw [(undisable_others i j same).2.1, if_neg fun both => same both.1]

theorem summed_forgiven (i j : SlotId) (s : State) : summed (forgiven i s) j ≤ summed s j := by
  unfold summed
  rw [count_forgiven, cred_forgiven]
  by_cases same : i = j
  · rw [if_pos same]
    simp
  · have unmoved : ¬(i = j ∧ i ≠ 0 ∧ (cred s i).state = .disabled) := fun both => same both.1
    rw [if_neg same, if_neg unmoved]

theorem failureSum_forgiven (i : SlotId) (s : State) : failureSum (forgiven i s) ≤ failureSum s := by
  unfold failureSum
  have le := summed_forgiven (i := i) (s := s)
  have := le 0
  have := le 1
  have := le 2
  have := le 3
  have := le 4
  have := le 5
  have := le 6
  have := le 7
  omega

theorem budgetAsserted_forgiven (asserted : budgetAsserted (forgiven i s) = true) : budgetAsserted s = true := by
  unfold budgetAsserted at *
  rw [(forgiven_work i s).countsOnly.watch] at asserted
  simp only [Option.any_eq_true_iff_get, decide_eq_true_eq] at *
  obtain ⟨policy, sum⟩ := asserted
  exact ⟨policy, sum.trans (failureSum_forgiven i s)⟩

theorem budgetAfter_forgiven (i : SlotId) (s : State) : budgetAfter (budgetAsserted s) (forgiven i s) = forgiven i s ∨
    (budgetAfter (budgetAsserted s) (forgiven i s) = suspectCheck (forgiven i s)) := by
  cases before : budgetAsserted s with
  | false =>
    have after : budgetAsserted (forgiven i s) = false := by
      rw [← Bool.not_eq_true]
      intro asserted
      rw [budgetAsserted_forgiven asserted] at before
      cases before
    left
    simp [budgetAfter, after]
  | true =>
    unfold budgetAfter deassertIndicator
    rw [if_pos rfl]
    split
    · exact .inl rfl
    · split
      · exact .inr rfl
      · exact .inl rfl

/-! ## The tamper latch cleared -/

theorem clearLatch_frame : clearLatch s =
    { s with w := { s.w with watch := { s.w.watch with latch := false } }, ks := (clearLatch s).ks } := by
  unfold clearLatch
  split
  · rw [queuePage_frame]
    rfl
  · rename_i off
    have clear : s.w.watch.latch = false := by simpa using off
    rw [← clear]

theorem carriedWatch_clearLatch (c : Carried watchPage s) : Carried watchPage (clearLatch s) := by
  unfold clearLatch
  split
  · exact carried_queuePage_same _ _ _
  · exact c

theorem clearLatch_slotWatch : SlotWatch s (clearLatch s) := by
  refine ⟨?_⟩
  rw [clearLatch_frame]

theorem theft_clearLatch : theft (clearLatch s) = theft s := by
  unfold theft
  rw [clearLatch_frame]

theorem noOrders_clearLatch : noOrders (clearLatch s) = noOrders s := by
  unfold noOrders
  rw [clearLatch_frame]

theorem latch_clearLatch : (clearLatch s).w.watch.latch = false := by rw [clearLatch_frame]

/-! ## What an admin match leaves -/

/-- The part with the ADMIN slot's failures and the tamper latch forgotten. -/
def absolved (s : State) : State := clearLatch (clearCount 0 s)

theorem absolved_frame : absolved s =
    { s with
      w := { s.w with watch := { s.w.watch with latch := false }, counts := put s.w.counts 0 0 },
      backoff := put s.backoff 0 0, ks := (absolved s).ks } := by
  unfold absolved
  rw [clearLatch_frame, clearCount, queuePage_frame]
  rfl

theorem absolved_slotWatch : SlotWatch s (absolved s) := (clearCount_work 0).slotWatch.trans clearLatch_slotWatch

theorem theft_absolved : theft (absolved s) = theft s := by
  unfold theft
  rw [absolved_frame]

theorem noOrders_absolved : noOrders (absolved s) = noOrders s := by
  unfold noOrders
  rw [absolved_frame]

/-- A policy's indicators after an admin match, which leaves TAMPER deasserted. -/
theorem anyAsserted_of_absolved (watch : t.w.watch.policy = s.w.watch.policy) (latch : t.w.watch.latch = false)
    (counter : t.twu.counter = s.twu.counter) (lost : t.twu.tetherLost = s.twu.tetherLost) :
    anyAsserted t = true ↔ MatchKeepsSuspect s (failureSum t) := by
  unfold MatchKeepsSuspect
  cases policy : s.w.watch.policy with
  | none => simp [anyAsserted, enabled, watch.trans policy]
  | some p =>
    rw [anyAsserted_eq (watch.trans policy), latch, counter, lost]
    simp

/-- Fewer indicators asserted. -/
theorem anyAsserted_mono (policy : t.w.watch.policy = s.w.watch.policy) (latch : t.w.watch.latch = s.w.watch.latch)
    (counter : t.twu.counter = s.twu.counter) (sum : failureSum t = failureSum s)
    (lost : enabled s .tether = true → t.twu.tetherLost = true → s.twu.tetherLost = true)
    (asserted : anyAsserted t = true) : anyAsserted s = true := by
  cases policy' : s.w.watch.policy with
  | none => simp [anyAsserted, enabled, policy.trans policy'] at asserted
  | some q =>
    rw [anyAsserted_eq (policy.trans policy'), latch, counter, sum] at asserted
    rw [anyAsserted_eq policy']
    rw [enabled_eq policy'] at lost
    tauto

theorem anyAsserted_changeTheft (x : Theft) (counter : (countersAs x s.twu).counter = s.twu.counter) (orders : noOrders s = true) :
    anyAsserted (changeTheft x s) = anyAsserted s := by
  have sum := failureSum_of_watch (changeTheft_watch x orders)
  have twu := changeTheft_twu x orders
  have lost : (countersAs x s.twu).tetherLost = s.twu.tetherLost := by cases x <;> rfl
  have w := changeTheft_w x orders
  rw [Bool.eq_iff_iff]
  constructor
  · exact anyAsserted_mono (by rw [w]; rfl) (by rw [w]; rfl) (by rw [twu, counter]) sum (fun _ => by rw [twu, lost]; exact id)
  · exact anyAsserted_mono (by rw [w]; rfl) (by rw [w]; rfl) (by rw [twu, counter]) sum.symm (fun _ => by rw [twu, lost]; exact id)

/-- SUSPECT that an admin match ends. -/
structure AdminReturns (s m : State) : Prop where
  watch : m.w.watch = { s.w.watch with theft := .armed, cause := none, graceSeconds := 0, latch := false }
  twu : m.twu = { s.twu with grace := 0 }
  plan : m.w.plan = s.w.plan
  wipe : m.wipe = s.wipe
  keys : m.keys = s.keys
  bands : m.bands = s.bands
  carried : Carried watchPage m
  announced : Announced (.state .armed none) s m
  calm : anyAsserted m = false
  counts : m.w.counts = put s.w.counts 0 0
  creds : m.w.creds = s.w.creds

theorem anyAsserted_clearLatch (asserted : anyAsserted (clearLatch s) = true) : anyAsserted s = true := by
  have watch : (clearLatch s).w.watch.policy = s.w.watch.policy := by rw [clearLatch_frame]
  have twu : (clearLatch s).twu = s.twu := by rw [clearLatch_frame]
  have sum : failureSum (clearLatch s) = failureSum s := by
    rw [clearLatch_frame]
    rfl
  have keeps := (anyAsserted_of_absolved watch latch_clearLatch (by rw [twu]) (by rw [twu])).mp asserted
  obtain ⟨p, policy, keeps⟩ := keeps
  rw [sum] at keeps
  rw [anyAsserted_eq policy]
  tauto

theorem adminReturns_first (suspect : theft s = .suspect) (clear : anyAsserted (absolved s) = false) (orders : noOrders s = true) :
    AdminReturns s (changeTheft .armed (absolved s)) := by
  have orders' : noOrders (absolved s) = true := noOrders_absolved.trans orders
  obtain ⟨⟨watch, carried, told⟩, keys, bands⟩ := changeTheft_armed (theft_absolved.trans suspect) orders'
  refine ⟨?_, ?_, ?_, ?_, ?_, ?_, carried, fun up => told ?_, ?_, ?_, ?_⟩
  · rw [watch, absolved_frame]
  · rw [changeTheft_twu _ orders', absolved_frame]
    rfl
  · rw [changeTheft_w _ orders', absolved_frame]
  · rw [changeTheft_wipe _ orders', absolved_frame]
  · rw [keys, absolved_frame]
  · rw [bands, absolved_frame]
  · rw [linkUp_congr, up]
    rw [absolved_frame]
  · exact (anyAsserted_changeTheft .armed rfl orders').trans clear
  · rw [changeTheft_w _ orders', absolved_frame]
  · rw [changeTheft_w _ orders', absolved_frame]

theorem adminReturns_last (suspect : theft s = .suspect) (clear : anyAsserted (forgiven 0 s) = false) (orders : noOrders s = true) :
    AdminReturns s (clearLatch (changeTheft .armed (forgiven 0 s))) := by
  have counts := (forgiven_work 0 s).countsOnly
  have orders' : noOrders (forgiven 0 s) = true := counts.noOrders.trans orders
  obtain ⟨⟨watch, carried, told⟩, keys, bands⟩ := changeTheft_armed (counts.theft.trans suspect) orders'
  refine ⟨?_, ?_, ?_, ?_, ?_, ?_, carriedWatch_clearLatch carried, fun up => ?_, ?_, ?_, ?_⟩
  · rw [clearLatch_frame]
    dsimp only
    rw [watch, counts.watch]
  · rw [clearLatch_frame]
    dsimp only
    rw [changeTheft_twu _ orders', (forgiven_work 0 s).frame]
    rfl
  · rw [clearLatch_frame]
    dsimp only
    rw [changeTheft_w _ orders', counts.plan]
  · rw [clearLatch_frame]
    dsimp only
    rw [changeTheft_wipe _ orders', counts.wipe]
  · rw [clearLatch_frame]
    exact keys.trans counts.keys
  · rw [clearLatch_frame]
    exact bands.trans counts.bands
  · rw [clearLatch_frame]
    exact told ((linkUp_congr counts.mode).trans up)
  · rw [← Bool.not_eq_true]
    intro asserted
    have before := (anyAsserted_changeTheft .armed rfl orders').symm.trans (anyAsserted_clearLatch asserted)
    rw [clear] at before
    cases before
  · rw [clearLatch_frame]
    dsimp only
    rw [changeTheft_w _ orders', forgiven_zero, clearCount, queuePage_w]
    rfl
  · rw [clearLatch_frame]
    dsimp only
    rw [changeTheft_w _ orders', forgiven_zero, clearCount, queuePage_w]
    rfl

theorem matchSlot_zero (s : State) : matchSlot 0 s = suspectCheck (clearLatch (budgetAfter (budgetAsserted s) (forgiven 0 s))) := rfl

/-- Outside a SUSPECT that it ends, an admin match only forgets. -/
theorem matchSlot_stays (keeps : theft s = .suspect → anyAsserted (absolved s) = true) : matchSlot 0 s = absolved s := by
  have watch : theft (forgiven 0 s) = theft s := (forgiven_work 0 s).countsOnly.theft
  have first : suspectCheck (absolved s) = absolved s := by
    by_cases suspect : theft s = .suspect
    · exact suspectCheck_asserted (keeps suspect)
    · exact suspectCheck_still (by rw [theft_absolved]; exact suspect)
  have second : suspectCheck (forgiven 0 s) = forgiven 0 s := by
    by_cases suspect : theft s = .suspect
    · exact suspectCheck_asserted (anyAsserted_clearLatch (keeps suspect))
    · exact suspectCheck_still (by rw [watch]; exact suspect)
  have budget : budgetAfter (budgetAsserted s) (forgiven 0 s) = forgiven 0 s := by
    rcases budgetAfter_forgiven 0 s with same | same
    · exact same
    · rw [same, second]
  rw [matchSlot_zero, budget]
  exact first

/-- A SUSPECT with nothing left asserted becomes ARMED. -/
theorem matchSlot_returns (suspect : theft s = .suspect) (clear : anyAsserted (absolved s) = false) (orders : noOrders s = true) :
    AdminReturns s (matchSlot 0 s) := by
  have here : theft (forgiven 0 s) = .suspect := (forgiven_work 0 s).countsOnly.theft.trans suspect
  have orders' : noOrders (forgiven 0 s) = true := (forgiven_work 0 s).countsOnly.noOrders.trans orders
  have first : suspectCheck (clearLatch (forgiven 0 s)) = changeTheft .armed (absolved s) :=
    suspectCheck_clear (s := absolved s) (theft_absolved.trans suspect) clear
  rcases budgetAfter_forgiven 0 s with same | same
  · rw [matchSlot_zero, same, first]
    exact adminReturns_first suspect clear orders
  · rw [matchSlot_zero, same]
    cases asserted : anyAsserted (forgiven 0 s) with
    | true =>
      rw [suspectCheck_asserted asserted, first]
      exact adminReturns_first suspect clear orders
    | false =>
      have armed : theft (clearLatch (changeTheft .armed (forgiven 0 s))) = .armed :=
        theft_clearLatch.trans (theft_changeTheft .armed orders')
      rw [suspectCheck_clear here asserted, suspectCheck_still (by simp [armed])]
      exact adminReturns_last suspect asserted orders

end

/-! # A match's own effects -/

section

variable {s t u m : State} {p : Port} {h : Held} {i j : SlotId}

/-! ## A match's own effects (R101) -/

/-- What a match leaves of the slot, the watch and the rest. -/
structure Matched (i : SlotId) (s m : State) : Prop where
  slots : SlotWatch s m
  creds : ∀ j : SlotId, cred m j = if i = j ∧ i ≠ 0 ∧ (cred s i).state = .disabled then { cred s i with state := .set } else cred s j
  counts : ∀ j : SlotId, count m j = if i = j then 0 else count s j
  backoffs : ∀ j : SlotId, backoffOf m j = if i = j then 0 else backoffOf s j
  latch : i = 0 → m.w.watch.latch = false
  theft : theft m = theft s ∨ (theft s = .suspect ∧ theft m = .armed)
  policy : m.w.watch.policy = s.w.watch.policy
  orders : noOrders m = noOrders s

theorem suspectCheck_watchOnly (orders : theft s ≠ .wiping → noOrders s = true) : WatchOnly s (suspectCheck s) := by
  by_cases suspect : theft s = .suspect
  · exact suspectCheck_watch (orders (by simp [suspect]))
  · rw [suspectCheck_still suspect]
    exact .refl s

theorem suspectCheck_theft (orders : theft s ≠ .wiping → noOrders s = true) :
    theft (suspectCheck s) = theft s ∨ (theft s = .suspect ∧ theft (suspectCheck s) = .armed) := by
  by_cases suspect : theft s = .suspect
  · cases asserted : anyAsserted s with
    | true =>
      rw [suspectCheck_asserted asserted]
      exact .inl rfl
    | false =>
      rw [suspectCheck_clear suspect asserted]
      exact .inr ⟨suspect, theft_changeTheft _ (orders (by simp [suspect]))⟩
  · rw [suspectCheck_still suspect]
    exact .inl rfl

/-- The slots with a match's failures forgotten and BUDGET re-evaluated. -/
def budgeted (i : SlotId) (s : State) : State := budgetAfter (budgetAsserted s) (forgiven i s)

theorem budgeted_watch (i : SlotId) (scrub : ScrubInWiping s) : WatchOnly (forgiven i s) (budgeted i s) :=
  (forgiven_work i s).budget scrub _

theorem budgeted_orders (scrub : ScrubInWiping s) : noOrders (budgeted i s) = noOrders s :=
  (budgeted_watch i scrub).noOrders.trans (forgiven_work i s).countsOnly.noOrders

theorem budgeted_theft (scrub : ScrubInWiping s) :
    theft (budgeted i s) = theft s ∨ (theft s = .suspect ∧ theft (budgeted i s) = .armed) := by
  have counts := (forgiven_work i s).countsOnly
  rw [← counts.theft]
  rcases budgetAfter_forgiven i s with same | same
  · exact .inl (congrArg theft same)
  · rw [budgeted, same]
    exact suspectCheck_theft (counts.orders scrub)

theorem budgeted_matched (zero : i ≠ 0) (scrub : ScrubInWiping s) : Matched i s (budgeted i s) where
  slots := (forgiven_work i s).slotWatch.trans (budgeted_watch i scrub).slotWatch
  creds := fun j => by rw [(budgeted_watch i scrub).cred, cred_forgiven]
  counts := fun j => by rw [(budgeted_watch i scrub).count, count_forgiven]
  backoffs := fun j => by rw [(budgeted_watch i scrub).backoffOf, backoffOf_forgiven]
  latch := fun none => absurd none zero
  theft := budgeted_theft scrub
  policy := by rw [(budgeted_watch i scrub).policy, (forgiven_work i s).countsOnly.watch]
  orders := budgeted_orders scrub

theorem calm_clearLatch (scrub : ScrubInWiping s) : theft (clearLatch (budgeted 0 s)) ≠ .wiping →
    noOrders (clearLatch (budgeted 0 s)) = true := by
  rw [theft_clearLatch, noOrders_clearLatch, budgeted_orders scrub]
  intro calm
  refine scrub.noOrders fun wiping => calm ?_
  rcases budgeted_theft (i := 0) scrub with same | ⟨suspect, -⟩
  · exact same.trans wiping
  · rw [wiping] at suspect
    cases suspect

theorem matchSlot_zero_matched (scrub : ScrubInWiping s) : Matched 0 s (matchSlot 0 s) := by
  have watch := budgeted_watch 0 scrub
  have last : WatchOnly (clearLatch (budgeted 0 s)) (matchSlot 0 s) := suspectCheck_watchOnly (calm_clearLatch scrub)
  have moves := suspectCheck_theft (calm_clearLatch scrub)
  have slots : SlotWatch s (clearLatch (budgeted 0 s)) :=
    ((forgiven_work 0 s).slotWatch.trans watch.slotWatch).trans clearLatch_slotWatch
  have same : (clearLatch (budgeted 0 s)).w.counts = (budgeted 0 s).w.counts ∧
      (clearLatch (budgeted 0 s)).w.creds = (budgeted 0 s).w.creds ∧
      (clearLatch (budgeted 0 s)).backoff = (budgeted 0 s).backoff ∧
      (clearLatch (budgeted 0 s)).w.watch.policy = (budgeted 0 s).w.watch.policy := by
    rw [clearLatch_frame]
    exact ⟨rfl, rfl, rfl, rfl⟩
  obtain ⟨counts, creds, backoff, policy⟩ := same
  refine ⟨slots.trans last.slotWatch, fun j => ?_, fun j => ?_, fun j => ?_, fun _ => ?_, ?_, ?_, ?_⟩
  · rw [cred, last.creds, creds, ← cred, watch.cred, cred_forgiven]
  · rw [count, last.counts, counts, ← count, watch.count, count_forgiven]
  · rw [backoffOf, last.backoff, backoff, ← backoffOf, watch.backoffOf, backoffOf_forgiven]
  · rw [last.latch, latch_clearLatch]
  · rw [theft_clearLatch] at moves
    rcases budgeted_theft (i := 0) scrub with first | ⟨suspect, armed⟩
    · rw [← first]
      exact moves
    · right
      refine ⟨suspect, ?_⟩
      rcases moves with moves | ⟨again, -⟩
      · exact moves.trans armed
      · rw [armed] at again
        cases again
  · rw [last.policy, policy, watch.policy, (forgiven_work 0 s).countsOnly.watch]
  · rw [last.noOrders, noOrders_clearLatch, budgeted_orders scrub]

theorem matchSlot_matched (i : SlotId) (scrub : ScrubInWiping s) : Matched i s (matchSlot i s) := by
  by_cases zero : i = 0
  · subst zero
    exact matchSlot_zero_matched scrub
  · have slot : matchSlot i s = budgeted i s := if_neg zero
    rw [slot]
    exact budgeted_matched zero scrub

theorem Matched.calm (k : Matched i s m) (scrub : ScrubInWiping s) (calm : Machine.theft m ≠ .wiping) : noOrders m = true := by
  rw [k.orders]
  refine scrub.noOrders fun wiping => calm ?_
  rcases k.theft with same | ⟨suspect, -⟩
  · exact same.trans wiping
  · rw [wiping] at suspect
    cases suspect

/-! ## What the kinds change (R101) -/

/-- A request's own effect, as far as every kind goes. -/
structure KindWork (i : SlotId) (s t : State) : Prop where
  frame : t = { s with
    w := { s.w with watch := t.w.watch, plan := t.w.plan, counts := t.w.counts, creds := t.w.creds, config := t.w.config },
    twu := t.twu, backoff := t.backoff, bands := t.bands, keys := { s.keys with bands := t.keys.bands }, ks := t.ks,
    wipe := t.wipe, psp := { s.psp with notice := t.psp.notice }, dq := t.dq, laneA := t.laneA, laneB := t.laneB,
    link := { s.link with outbound := t.link.outbound }, engine := { s.engine with wipe := t.engine.wipe },
    coverPermit := t.coverPermit }
  count : count s i = 0 → count t i = 0
  backoff : backoffOf s i = 0 → backoffOf t i = 0
  cred : i ≠ 0 → cred t i = cred s i
  latch : s.w.watch.latch = false → t.w.watch.latch = false

theorem KindWork.refl (i : SlotId) (s : State) : KindWork i s s := ⟨rfl, id, id, fun _ => rfl, id⟩

theorem KindWork.trans (h : KindWork i s t) (k : KindWork i t u) : KindWork i s u where
  frame := by rw [k.frame, h.frame]
  count := k.count ∘ h.count
  backoff := k.backoff ∘ h.backoff
  cred := fun nonzero => (k.cred nonzero).trans (h.cred nonzero)
  latch := k.latch ∘ h.latch

theorem WatchOnly.kindWork (h : WatchOnly s t) (i : SlotId) : KindWork i s t where
  frame := by rw [h.frame]
  count := fun zero => (h.count i).trans zero
  backoff := fun zero => (h.backoffOf i).trans zero
  cred := fun _ => h.cred i
  latch := fun off => h.latch.trans off

/-- Work on the slots under the ADMIN slot's match. -/
theorem SlotWork.kindWork (h : SlotWork s t) (count : Machine.count s 0 = 0 → Machine.count t 0 = 0)
    (backoff : Machine.backoffOf s 0 = 0 → Machine.backoffOf t 0 = 0) : KindWork 0 s t where
  frame := by rw [h.frame]
  count := count
  backoff := backoff
  cred := fun nonzero => absurd rfl nonzero
  latch := fun off => by rw [h.frame]; exact off

theorem KindWork.box (k : KindWork i s t) (p : Port) : Machine.box p t = Machine.box p s := by
  rw [k.frame]
  cases p <;> rfl

theorem KindWork.root (k : KindWork i s t) : t.w.root = s.w.root := by rw [k.frame]
theorem KindWork.secrets (k : KindWork i s t) : t.w.secrets = s.w.secrets := by rw [k.frame]
theorem KindWork.records (k : KindWork i s t) : t.w.bands = s.w.bands := by rw [k.frame]

end

/-! # What the kinds of a matched request change -/

section

variable {s t u m : State} {p : Port} {h : Held} {i j : SlotId} {e : Envelope}

/-! ## Each kind's effect as a change of the part (R101) -/

theorem KindWork.queue (i : SlotId) (q : PageId) (ws : List Waiter) (s : State) : KindWork i s (queuePage q ws s) := by
  rw [queuePage_frame]
  exact ⟨rfl, id, id, fun _ => rfl, id⟩

theorem KindWork.queues (i : SlotId) (qs : List PageId) (ws : List Waiter) (s : State) : KindWork i s (queuePages qs ws s) := by
  rw [queuePages_frame]
  exact ⟨rfl, id, id, fun _ => rfl, id⟩

theorem clearSlot_kindWork (a : LimitArgs) (i : SlotId) (calm : theft s ≠ .wiping → noOrders s = true) :
    KindWork 0 s (clearSlot a i s) := by
  have work : SlotWork s (queuePage (credPage i) [] (clearCount i (setCred i (clearedSlot a (cred s i)) s))) :=
    (((SlotWork.refl s).setCred i _).trans (clearCount_work i)).queue _ _
  refine (work.kindWork (fun zero => ?_) fun zero => ?_).trans ((budgetAfter_watchOnly _ fun rest => ?_).kindWork 0)
  · rw [count_queuePage, count_clearCount, count_setCred, zero, ite_self]
  · rw [backoffOf_queuePage, backoffOf_clearCount, backoffOf_setCred, zero, ite_self]
  · rw [work.countsOnly.noOrders]
    exact calm (by rw [← work.countsOnly.theft]; exact rest)

theorem matchRevoke_kindWork (a : RowArgs) : KindWork 0 s (matchRevoke a s).1 :=
  (((SlotWork.refl s).setCred _ _).queue _ _).kindWork
    (fun zero => by rw [count_queuePage, count_setCred]; exact zero)
    (fun zero => by rw [backoffOf_queuePage, backoffOf_setCred]; exact zero)

theorem meterResponds_kindWork (old new : DriveConfig) (calm : theft s ≠ .wiping → noOrders s = true) :
    KindWork 0 s (meterResponds old new s) := by
  unfold meterResponds
  split
  · exact .refl 0 s
  · split
    · refine KindWork.trans (t := { s with twu := meterOff s.twu }) ⟨rfl, id, id, fun _ => rfl, id⟩ ?_
      unfold deassertIndicator
      split
      · exact (suspectCheck_watchOnly (s := { s with twu := meterOff s.twu }) calm).kindWork 0
      · exact .refl 0 _
    · exact ⟨rfl, id, id, fun _ => rfl, id⟩

/-- The part with new settings, before the meter responds. -/
def configured (c : DriveConfig) (s : State) : State :=
  queuePage configPage [] { s with w := { s.w with config := c }, coverPermit := permitAfter s.w.config c s.coverPermit }

theorem applyConfig_eq (c : DriveConfig) (s : State) : applyConfig c s = meterResponds s.w.config c (configured c s) := rfl

theorem configured_frame (c : DriveConfig) (s : State) : configured c s =
    { s with w := { s.w with config := c }, coverPermit := permitAfter s.w.config c s.coverPermit, ks := (configured c s).ks } := by
  unfold configured
  rw [queuePage_frame]

theorem theft_configured (c : DriveConfig) (s : State) : theft (configured c s) = theft s := by
  unfold theft
  rw [configured_frame]

theorem noOrders_configured (c : DriveConfig) (s : State) : noOrders (configured c s) = noOrders s := by
  unfold noOrders
  rw [configured_frame]

theorem applyConfig_kindWork (c : DriveConfig) (calm : theft s ≠ .wiping → noOrders s = true) :
    KindWork 0 s (applyConfig c s) := by
  rw [applyConfig_eq]
  refine KindWork.trans (t := configured c s) ?_ (meterResponds_kindWork _ _ ?_)
  · rw [configured_frame]
    exact ⟨rfl, id, id, fun _ => rfl, id⟩
  · rw [theft_configured, noOrders_configured]
    exact calm

/-- The part under a new policy, before ARMED is entered. -/
def underPolicy (q : Policy) (s : State) : State :=
  setWatch { s.w.watch with policy := some q } { s with twu := { s.twu with counter := 0 } }

theorem armWith_eq (q : Policy) (s : State) : armWith q s =
    if theft s = .dormant then changeTheft .armed (underPolicy q s) else queuePage watchPage [] (underPolicy q s) := rfl

theorem armWith_kindWork (q : Policy) (calm : theft s ≠ .wiping → noOrders s = true) : KindWork 0 s (armWith q s) := by
  have start : KindWork 0 s (underPolicy q s) := ⟨rfl, id, id, fun _ => rfl, id⟩
  rw [armWith_eq]
  split
  · rename_i dormant
    have orders : noOrders (underPolicy q s) = true := calm (by simp [dormant])
    exact start.trans ((changeTheft_watch .armed orders).kindWork 0)
  · exact start.trans (.queue 0 _ _ _)

theorem matchWatchArm_kindWork (a : WatchArgs) (calm : theft s ≠ .wiping → noOrders s = true) :
    KindWork 0 s (matchWatchArm a s).1 := by
  unfold matchWatchArm
  split
  · exact .refl 0 s
  · split
    · exact .refl 0 s
    · split
      · exact .refl 0 s
      · exact armWith_kindWork _ calm

theorem matchWatchDisarm_kindWork (calm : theft s ≠ .wiping → noOrders s = true) : KindWork 0 s (matchWatchDisarm s).1 := by
  unfold matchWatchDisarm
  split
  · rename_i armed
    exact (changeTheft_watch .dormant (calm (by simp [armed]))).kindWork 0
  · rename_i suspect
    exact (changeTheft_watch .dormant (calm (by simp [suspect]))).kindWork 0
  · exact .refl 0 s
  · exact .refl 0 s

theorem recoverClear_kindWork : KindWork 0 s (recoverClear s) where
  frame := rfl
  count := fun zero => by
    show (tab8 (recoveredCount s)).get 0 = 0
    rw [get_tab8, recoveredCount]
    split
    · exact zero
    · rfl
  backoff := fun zero => by
    show (tab8 (recoveredBackoff s)).get 0 = 0
    rw [get_tab8, recoveredBackoff]
    split
    · exact zero
    · rfl
  cred := fun nonzero => absurd rfl nonzero
  latch := fun _ => rfl

/-- The part as WATCH_RECOVER leaves it. -/
def recovered (s : State) : State := queuePages attemptPages [] (changeTheft (recoverTo s) (recoverClear s))

theorem matchRecover_eq (s : State) : matchRecover s =
    if theft s ≠ .alarm then (s, ends .denied)
    else (recovered s, if anyPending (recovered s) then .handing .recover else ends .ok) := rfl

theorem recovered_kindWork (orders : noOrders s = true) : KindWork 0 s (recovered s) := by
  have orders' : noOrders (recoverClear s) = true := orders
  exact (recoverClear_kindWork.trans ((changeTheft_watch _ orders').kindWork 0)).trans (.queues 0 _ _ _)

theorem matchRecover_kindWork (calm : theft s ≠ .wiping → noOrders s = true) : KindWork 0 s (matchRecover s).1 := by
  rw [matchRecover_eq]
  split
  · exact .refl 0 s
  · rename_i alarm
    have orders : noOrders s = true := calm (by rw [not_not.mp alarm]; simp)
    dsimp only
    exact recovered_kindWork orders

theorem matchRemoteWipe_kindWork (i : SlotId) (calm : theft s ≠ .wiping → noOrders s = true) :
    KindWork i s (matchRemoteWipe s).1 := by
  have enters (free : theft s ≠ .wiping) : KindWork i s (enterWiping .remote (theftPasses s) s) :=
    (enterWiping_watch _ _ (calm free)).kindWork i
  unfold matchRemoteWipe
  split
  case h_1 now => exact enters (by simp [now])
  case h_2 now => exact enters (by simp [now])
  case h_3 now => exact enters (by simp [now])
  all_goals exact .refl i s

theorem matchWipeNow_kindWork (q : Passes) (calm : theft s ≠ .wiping → noOrders s = true) :
    KindWork 0 s (matchWipeNow q s).1 := by
  have enters (free : theft s ≠ .wiping) : KindWork 0 s (enterWiping .owner q s) := (enterWiping_watch _ _ (calm free)).kindWork 0
  unfold matchWipeNow
  split
  case h_1 now => exact enters (by simp [now])
  case h_2 now => exact enters (by simp [now])
  case h_3 now => exact enters (by simp [now])
  case h_4 now => exact enters (by simp [now])
  all_goals exact .refl 0 s

theorem setStop_frame : setStop s = { s with w := { s.w with plan := { s.w.plan with stop := true } }, ks := (setStop s).ks } := by
  unfold setStop journalQueue
  rw [queuePage_frame]
  rfl

theorem setStop_kindWork : KindWork 0 s (setStop s) := by
  rw [setStop_frame]
  exact ⟨rfl, id, id, fun _ => rfl, id⟩

theorem storeResult_kindWork (x : Ended) (a b c : Nat) : KindWork 0 s (storeResult x a b c s) := by
  rw [storeResult_frame]
  exact ⟨rfl, id, id, fun _ => rfl, id⟩

theorem goDone_kindWork : KindWork 0 s (goDone s) := by
  rw [goDone_frame]
  exact ⟨rfl, id, id, fun _ => rfl, id⟩

theorem matchScrubStop_kindWork : KindWork 0 s (matchScrubStop s).1 := by
  unfold matchScrubStop
  split
  · split
    · exact setStop_kindWork
    · exact (setStop_kindWork.trans (storeResult_kindWork _ _ _ _)).trans goDone_kindWork
  · exact .refl 0 s

theorem matchKind_kindWork (slot : slotPresented e.body = some i) (calm : theft s ≠ .wiping → noOrders s = true) :
    KindWork i s (matchKind e i s).1 := by
  unfold matchKind
  have admin (zero : slotPresented e.body = some 0) : i = 0 := Option.some.inj (slot.symm.trans zero)
  split
  case h_3 a new body =>
    obtain rfl := admin (by rw [body]; rfl)
    unfold matchSetCred
    cases new with
    | none => exact clearSlot_kindWork a _ calm
    | some z =>
      dsimp only
      split <;> exact .refl 0 s
  case h_5 a body =>
    obtain rfl := admin (by rw [body]; rfl)
    exact matchRevoke_kindWork a
  case h_6 a body =>
    unfold matchBandSet
    split <;> exact .refl i s
  case h_8 l c t body =>
    obtain rfl := admin (by rw [body]; rfl)
    exact applyConfig_kindWork _ calm
  case h_9 body => exact ⟨rfl, id, id, fun _ => rfl, id⟩
  case h_10 a body =>
    obtain rfl := admin (by rw [body]; rfl)
    exact matchWatchArm_kindWork a calm
  case h_11 body =>
    obtain rfl := admin (by rw [body]; rfl)
    exact matchWatchDisarm_kindWork calm
  case h_12 body =>
    obtain rfl := admin (by rw [body]; rfl)
    exact matchRecover_kindWork calm
  case h_13 body => exact matchRemoteWipe_kindWork i calm
  case h_14 n body =>
    obtain rfl := admin (by rw [body]; rfl)
    exact matchWipeNow_kindWork _ calm
  case h_15 body =>
    obtain rfl := admin (by rw [body]; rfl)
    exact matchScrubStop_kindWork
  all_goals exact .refl i s

end

/-! # Matched requests act by their kinds -/

section

variable {s t u m x : State} {p : Port} {h : Held} {i j : SlotId} {e : Envelope}

/-! ## VERIFY_JOB_COMPLETE on a match (R101) -/

theorem verified_match (some' : (cred s i).state ≠ .empty) (right : verifies (cred s i) (secretPresented h.env.body) = true) :
    verified p h i s =
      effectAct p s (matchKind h.env i (matchSlot i s)).2 (matchKind h.env i (matchSlot i s)).1 := by
  unfold verified
  rw [if_neg some', if_pos right]

theorem effectAct_eq (before : State) (x : ReqStage) (held : box p t = some h) : effectAct p before x t =
    setBox p (some { h with stage := x, room := if beganWipe before t then [] else roomTouched before t }) t := by
  unfold effectAct
  split
  · exact setNext_eq x [] held
  · exact nextAct_eq before x held

/-- The part after a matched request, whose kind has acted. -/
theorem exec_match (running : Running p .verify h s) (slot : slotPresented h.env.body = some i)
    (some' : (cred s i).state ≠ .empty) (right : verifies (cred s i) (secretPresented h.env.body) = true)
    (scrub : ScrubInWiping s) :
    exec .verifyJobComplete s = .next (settle (setBox p
      (some { h with
        stage := (matchKind h.env i (matchSlot i (endJob s))).2,
        room := if beganWipe (endJob s) (matchKind h.env i (matchSlot i (endJob s))).1 then []
          else roomTouched (endJob s) (matchKind h.env i (matchSlot i (endJob s))).1 })
      (matchKind h.env i (matchSlot i (endJob s))).1)) ∧
    Matched i (endJob s) (matchSlot i (endJob s)) ∧
    KindWork i (matchSlot i (endJob s)) (matchKind h.env i (matchSlot i (endJob s))).1 := by
  have scrub' := scrub.endJob
  have matched := matchSlot_matched i scrub'
  have kind : KindWork i (matchSlot i (endJob s)) (matchKind h.env i (matchSlot i (endJob s))).1 :=
    matchKind_kindWork slot (matched.calm scrub')
  have held := (kind.box p).trans ((matched.slots.box p).trans ((box_endJob p s).trans running.2))
  have run := exec_verify running
  rw [heldSlot_eq slot, verified_match (s := endJob s) some' right, effectAct_eq _ _ held] at run
  exact ⟨run, matched, kind⟩

theorem mem_unlockWraps {a : UnlockArgs} {b : BandId} {w : Wrap} : (b, w) ∈ unlockWraps a i s ↔
    names a.bands b = true ∧ hasSecret s b = true ∧ (cred s i).row.get b = some w := by
  have all : b ∈ allBands := List.mem_finRange b
  unfold unlockWraps
  rw [List.mem_filterMap]
  constructor
  · rintro ⟨c, -, found⟩
    split at found
    · rename_i both
      obtain ⟨w', row, same⟩ := Option.map_eq_some_iff.mp found
      obtain ⟨rfl, rfl⟩ := Prod.mk.inj same
      rw [Bool.and_eq_true] at both
      exact ⟨both.1, both.2, row⟩
    · cases found
  · rintro ⟨named, secret, wrap⟩
    refine ⟨b, all, ?_⟩
    rw [if_pos (by rw [named, secret]; rfl), wrap]
    rfl

theorem Matched.row (k : Matched i s m) (j : SlotId) : (cred m j).row = (cred s j).row := by
  rw [k.creds]
  split
  · rename_i same
    rw [same.1]
  · rfl

theorem Matched.salt (k : Matched i s m) (j : SlotId) : saltOf (cred m j) = saltOf (cred s j) := by
  rw [k.creds]
  split
  · rename_i same
    rw [same.1]
    rfl
  · rfl

theorem Matched.others (k : Matched i s m) (other : j ≠ i ∨ i = 0) : cred m j = cred s j := by
  rw [k.creds, if_neg]
  rintro ⟨same, nonzero, -⟩
  rcases other with other | zero
  · exact other same.symm
  · exact nonzero zero

theorem clearSlot_target (a : LimitArgs) (i : SlotId) (calm : theft s ≠ .wiping → noOrders s = true) :
    cred (clearSlot a i s) i = clearedSlot a (cred s i) ∧ count (clearSlot a i s) i = 0 := by
  have work : SlotWork s (queuePage (credPage i) [] (clearCount i (setCred i (clearedSlot a (cred s i)) s))) :=
    (((SlotWork.refl s).setCred i _).trans (clearCount_work i)).queue _ _
  have watch : WatchOnly (queuePage (credPage i) [] (clearCount i (setCred i (clearedSlot a (cred s i)) s))) (clearSlot a i s) :=
    budgetAfter_watchOnly _ fun rest => by
      rw [work.countsOnly.noOrders]
      exact calm (by rw [← work.countsOnly.theft]; exact rest)
  rw [watch.cred, watch.count, cred_queuePage, count_queuePage, cred_clearCount, cred_setCred, count_clearCount, if_pos rfl,
    if_pos rfl]
  exact ⟨rfl, rfl⟩

theorem get_revokedRow (v : BitVec 32) (row : Vector (Option Wrap) 16) (b : BandId) :
    (revokedRow v row).get b = if names v b then none else row.get b := get_tab16 _ b

/-- What UNLOCK and TOKEN_UNLOCK do on a match. -/
theorem unlock_acts {a : UnlockArgs} (kind : matchKind h.env i m = matchUnlock a i m) (row : (cred m i).row = (cred s i).row)
    (salt : saltOf (cred m i) = saltOf (cred s i)) (secrets : m.w.secrets = s.w.secrets) (room : List PageId) :
    ∃ (ws : List (BandId × Wrap)) (room' : List PageId),
      (∀ b w, (b, w) ∈ ws ↔ (names a.bands b = true ∧ hasSecret s b = true ∧ (cred s i).row.get b = some w)) ∧
      box p (setBox p (some { h with stage := (matchKind h.env i m).2, room := room }) (matchKind h.env i m).1) =
        some { h with
          stage := if ws = [] then .answering .ok 0 else .handing (.unlock (saltOf (cred s i)) ws), room := room' } := by
  refine ⟨unlockWraps a i m, room, fun b w => ?_, ?_⟩
  · rw [mem_unlockWraps, row]
    unfold hasSecret
    rw [secrets]
  · rw [box_setBox_same, kind, ← salt]
    unfold matchUnlock
    cases unlockWraps a i m <;> rfl

/-- Settles O43. -/
theorem matchActsByKind : Obligations.MatchActsByKind := by
  unfold Obligations.MatchActsByKind
  intro p h i s running slot some' right scrub
  obtain ⟨run, matched, kind⟩ := exec_match running slot some' right scrub
  have calm := matched.calm scrub.endJob
  obtain ⟨m, moved⟩ : ∃ m, matchSlot i (endJob s) = m := ⟨_, rfl⟩
  rw [moved] at run matched kind calm
  have admin {x : Body} (body : h.env.body = x) (zero : slotPresented x = some 0) : i = 0 :=
    Option.some.inj (slot.symm.trans ((congrArg slotPresented body).trans zero))
  have entropy : m.entropyFailed = s.entropyFailed := matched.slots.entropyFailed
  have record' (b : BandId) : record m b = record s b := by
    unfold record
    rw [matched.slots.records]
    rfl
  have ranged (a : BandArgs) : rangeChange a m = rangeChange a s := by
    unfold rangeChange
    rw [record']
  refine ⟨_, run, ?_, ?_, fun nonzero => ?_, fun zero => ?_, ?_, ?_, ?_, fun a body => ?_, fun y body => ?_,
    fun y a body => ?_, fun y a body => ?_, fun y a n body good => ?_, fun failed which => ?_, fun y a body same => ?_,
    fun y a n body => ?_, fun y a body good => ?_, fun y n body good => ?_⟩
  · rw [count_setBox]
    exact kind.count (by rw [matched.counts, if_pos rfl])
  · rw [backoffOf_setBox]
    exact kind.backoff (by rw [matched.backoffs, if_pos rfl])
  · rw [cred_setBox, kind.cred nonzero, matched.creds]
    by_cases disabled : (cred s i).state = .disabled
    · rw [if_pos ⟨rfl, nonzero, disabled⟩, if_pos disabled]
    · rw [if_neg fun both => disabled both.2.2, if_neg disabled]
      rfl
  · rw [setBox_w]
    exact kind.latch (matched.latch zero)
  · rw [setBox_w, kind.root, matched.slots.root]
    rfl
  · rw [setBox_w, kind.secrets, matched.slots.secrets]
    rfl
  · rw [setBox_w, kind.records, matched.slots.records]
    rfl
  · have acts : matchKind h.env i m = matchUnlock a i m := by
      unfold matchKind
      rcases body with ⟨n, y, body⟩ | ⟨y, body⟩ <;> rw [body]
    exact unlock_acts (s := s) acts (matched.row i) (matched.salt i) matched.slots.secrets _
  · have acts : matchKind h.env i m = ({ m with coverPermit := true }, ends .ok) := by
      unfold matchKind
      rw [body]
    rw [acts]
    exact ⟨setBox_coverPermit _ _ _, answers_setBox _ _ _ _⟩
  · have acts : matchKind h.env i m = matchRevoke a m := by
      unfold matchKind
      rw [body]
    rw [acts]
    refine ⟨answers_setBox _ _ _ _, fun b => ?_⟩
    rw [cred_setBox]
    unfold matchRevoke
    dsimp only
    rw [cred_queuePage, cred_setCred, if_pos rfl]
    dsimp only
    rw [get_revokedRow, matched.row]
    rfl
  · obtain rfl := admin body rfl
    have acts : matchKind h.env 0 m = (clearSlot a (slotOf a.target.toNat) m, ends .ok) := by
      unfold matchKind
      rw [body]
      rfl
    obtain ⟨target, none'⟩ := clearSlot_target a (slotOf a.target.toNat) calm
    rw [acts]
    refine ⟨answers_setBox _ _ _ _, ?_, ?_, ?_, fun b => ?_⟩
    · rw [cred_setBox, target]
      rfl
    · rw [cred_setBox, target]
      rfl
    · rw [count_setBox, none']
    · rw [cred_setBox, target]
      exact Vector.getElem_replicate _
  · have acts : matchKind h.env i m = (m, .handing (if slotOf a.target.toNat = 0 then .setCredAdmin else .setCred)) := by
      unfold matchKind matchSetCred
      rw [body]
      dsimp only
      rw [entropy, good, if_neg (by simp)]
    rw [acts]
    exact ⟨_, box_setBox_same _ _ _⟩
  · have acts : matchKind h.env i m = (m, ends .noEntropy) := by
      unfold matchKind matchSetCred matchBandSet matchBandErase
      rcases which with ⟨y, a, n, body⟩ | ⟨y, a, body, change⟩ | ⟨y, n, body⟩
      · rw [body]
        dsimp only
        rw [entropy, failed, if_pos rfl]
      · rw [body]
        dsimp only
        rw [ranged, change, entropy, failed, if_pos rfl, if_pos rfl]
      · rw [body]
        dsimp only
        rw [entropy, failed, if_pos rfl]
    rw [acts]
    refine ⟨answers_setBox _ _ _ _, ?_, ?_, fun j other => ?_⟩
    · rw [setBox_keys, matched.slots.fill]
      rfl
    · rw [setBox_keys, matched.slots.cover]
      rfl
    · rw [cred_setBox, matched.others other]
      rfl
  · have acts : matchKind h.env i m = (m, .handing .bandSet) := by
      unfold matchKind matchBandSet
      rw [body]
      dsimp only
      rw [ranged, same, if_neg (by simp)]
    rw [acts]
    exact ⟨_, box_setBox_same _ _ _⟩
  · have acts : matchKind h.env i m = (m, .handing .grant) := by
      unfold matchKind
      rw [body]
    rw [acts]
    exact ⟨_, box_setBox_same _ _ _⟩
  · have acts : matchKind h.env i m = (m, .handing (if rangeChange a s then .bandSetRange else .bandSet)) := by
      unfold matchKind matchBandSet
      rw [body]
      dsimp only
      rw [ranged, entropy, good]
      cases rangeChange a s <;> rfl
    rw [acts]
    exact ⟨_, box_setBox_same _ _ _⟩
  · have acts : matchKind h.env i m = (m, .handing .bandErase) := by
      unfold matchKind matchBandErase
      rw [body]
      dsimp only
      rw [entropy, good, if_neg (by simp)]
    rw [acts]
    exact ⟨_, box_setBox_same _ _ _⟩

end

/-! # New settings and the meter -/

section

variable {s t u m x : State} {p : Port} {h : Held} {i j : SlotId} {c : DriveConfig}

/-! ## DRIVE_SET on a match (R20, R59, R121) -/

/-- A matched request, where the act leaves the mailbox as it was. -/
theorem exec_match_held (running : Running p .verify h s) (slot : slotPresented h.env.body = some i)
    (some' : (cred s i).state ≠ .empty) (right : verifies (cred s i) (secretPresented h.env.body) = true)
    {k : State × ReqStage} (acts : matchKind h.env i (matchSlot i (endJob s)) = k) (held : box p k.1 = some h) :
    exec .verifyJobComplete s = .next (settle (setBox p
      (some { h with stage := k.2, room := if beganWipe (endJob s) k.1 then [] else roomTouched (endJob s) k.1 }) k.1)) := by
  have run := exec_verify running
  rw [heldSlot_eq slot, verified_match (s := endJob s) some' right, acts, effectAct_eq _ _ held] at run
  exact run

/-- The meter after a change of the settings (R121). -/
def meterAfter (old new : DriveConfig) (u : WatchUnit) : WatchUnit :=
  if (new.period, new.tolerance, new.filterLength) = (old.period, old.tolerance, old.filterLength) then u
  else if new.period = 0 then meterOff u
  else meterStart u

theorem meterAfter_counter (old new : DriveConfig) (u : WatchUnit) : (meterAfter old new u).counter = u.counter := by
  unfold meterAfter meterOff meterStart
  split
  · rfl
  · split <;> rfl

theorem meterAfter_lost (old new : DriveConfig) (u : WatchUnit) (lost : (meterAfter old new u).tetherLost = true) :
    u.tetherLost = true := by
  unfold meterAfter meterOff meterStart at lost
  split at lost
  · exact lost
  · split at lost
    · cases lost
    · exact lost

theorem meterAfter_grace (old new : DriveConfig) (u : WatchUnit) (n : Nat) :
    meterAfter old new { u with grace := n } = { meterAfter old new u with grace := n } := by
  unfold meterAfter meterOff meterStart
  split
  · rfl
  · split <;> rfl

/-- The part with new settings and the meter as they leave it. -/
def driven (c : DriveConfig) (s : State) : State := { configured c s with twu := meterAfter s.w.config c s.twu }

theorem driven_frame (c : DriveConfig) (s : State) : driven c s =
    { s with
      w := { s.w with config := c }, coverPermit := permitAfter s.w.config c s.coverPermit, ks := (driven c s).ks,
      twu := meterAfter s.w.config c s.twu } := by
  unfold driven
  rw [configured_frame]

theorem theft_driven : theft (driven c s) = theft s := by
  unfold theft
  rw [driven_frame]

theorem noOrders_driven : noOrders (driven c s) = noOrders s := by
  unfold noOrders
  rw [driven_frame]

theorem carried_driven : Carried configPage (driven c s) := by
  have queued : Carried configPage (configured c s) := carried_queuePage_same _ _ _
  exact queued.keep rfl rfl

theorem driven_of_same (same : meterAfter s.w.config c s.twu = s.twu) : driven c s = configured c s := by
  unfold driven
  rw [same, configured_frame]

/-- New settings: the meter stands by them, and TETHER deasserts where they turn it off. -/
theorem applyConfig_driven (c : DriveConfig) (s : State) :
    (applyConfig c s = driven c s ∧ (enabled s .tether = true → (driven c s).twu.tetherLost = s.twu.tetherLost)) ∨
    (applyConfig c s = suspectCheck (driven c s) ∧ enabled s .tether = true) := by
  rw [applyConfig_eq]
  unfold meterResponds
  by_cases same : (c.period, c.tolerance, c.filterLength) = (s.w.config.period, s.w.config.tolerance, s.w.config.filterLength)
  · obtain ⟨period, tolerance, filter⟩ : c.period = s.w.config.period ∧ c.tolerance = s.w.config.tolerance ∧
        c.filterLength = s.w.config.filterLength := by simpa using same
    rw [if_pos (by simp [period, tolerance, filter])]
    have meter : meterAfter s.w.config c s.twu = s.twu := if_pos same
    exact .inl ⟨(driven_of_same meter).symm, fun _ => congrArg WatchUnit.tetherLost meter⟩
  · rw [if_neg (by simp only [Prod.mk.injEq] at same; simp only [Bool.and_eq_true, decide_eq_true_eq]; tauto)]
    split
    · rename_i off
      have meter : driven c s = { configured c s with twu := meterOff (configured c s).twu } := by
        unfold driven meterAfter
        rw [if_neg same, if_pos off, configured_frame]
      have on : enabled (driven c s) .tether = enabled s .tether := by
        unfold enabled
        rw [driven_frame]
      rw [← meter]
      unfold deassertIndicator
      rw [on]
      split
      · rename_i enabled'
        exact .inr ⟨rfl, enabled'⟩
      · rename_i disabled
        exact .inl ⟨rfl, fun enabled' => absurd enabled' disabled⟩
    · rename_i on
      have meter : meterAfter s.w.config c s.twu = meterStart s.twu := by
        unfold meterAfter
        rw [if_neg same, if_neg on]
      have lost : (meterAfter s.w.config c s.twu).tetherLost = s.twu.tetherLost := by
        rw [meter]
        rfl
      refine .inl ⟨?_, fun _ => lost⟩
      unfold driven
      rw [meter, configured_frame]

theorem failureSum_driven : failureSum (driven c s) = failureSum s := by
  rw [driven_frame]
  rfl

theorem anyAsserted_driven (asserted : anyAsserted (driven c s) = true) : anyAsserted s = true :=
  anyAsserted_mono (t := driven c s) (by rw [driven_frame]) (by rw [driven_frame])
    (by rw [driven_frame]; exact meterAfter_counter _ _ _) failureSum_driven
    (fun _ lost => by rw [driven_frame] at lost; exact meterAfter_lost _ _ _ lost) asserted

theorem anyAsserted_setBox (x : Option Held) : anyAsserted (setBox p x s) = anyAsserted s := by cases p <;> rfl

end

/-! # DRIVE_SET on a match -/

section

variable {s t u m k : State} {p : Port} {h : Held} {i j : SlotId} {c : DriveConfig}

/-- What DRIVE_SET leaves. -/
structure DriveEnds (c : DriveConfig) (s k : State) : Prop where
  config : k.w.config = c
  permit : k.coverPermit = permitAfter s.w.config c s.coverPermit
  page : Carried configPage k
  keys : k.keys = s.keys
  bands : k.bands = s.bands
  box : ∀ p : Port, box p k = Machine.box p s
  kept : theft s ≠ .suspect ∨ anyAsserted k = true →
    k.twu = meterAfter s.w.config c s.twu ∧ k.w.watch = { s.w.watch with latch := false }
  ended : theft s = .suspect → anyAsserted k = false →
    k.twu = { meterAfter s.w.config c s.twu with grace := 0 } ∧ Carried watchPage k ∧
      k.w.watch = { s.w.watch with theft := .armed, cause := none, graceSeconds := 0, latch := false } ∧
      Announced (.state .armed none) s k

theorem driven_absolved (c : DriveConfig) (s : State) : driven c (absolved s) =
    { s with
      w := { s.w with config := c, watch := { s.w.watch with latch := false }, counts := put s.w.counts 0 0 },
      backoff := put s.backoff 0 0, coverPermit := permitAfter s.w.config c s.coverPermit, ks := (driven c (absolved s)).ks,
      twu := meterAfter s.w.config c s.twu } := by
  have frame := driven_frame c (absolved s)
  obtain ⟨q, ks⟩ : ∃ q, (driven c (absolved s)).ks = q := ⟨_, rfl⟩
  rw [ks] at frame ⊢
  rw [frame, absolved_frame]

theorem driven_kept (stays : theft s = .suspect → anyAsserted (driven c (absolved s)) = true) :
    DriveEnds c s (driven c (absolved s)) where
  config := by rw [driven_absolved]
  permit := by rw [driven_absolved]
  page := carried_driven
  keys := by rw [driven_absolved]
  bands := by rw [driven_absolved]
  box := fun p => by
    rw [driven_absolved]
    cases p <;> rfl
  kept := fun _ => by
    rw [driven_absolved]
    exact ⟨rfl, rfl⟩
  ended := fun suspect clear => by
    rw [stays suspect] at clear
    cases clear

theorem driven_ends (suspect : theft s = .suspect) (orders : noOrders s = true)
    (clear : anyAsserted (driven c (absolved s)) = false) : DriveEnds c s (changeTheft .armed (driven c (absolved s))) := by
  have suspect' : theft (driven c (absolved s)) = .suspect := theft_driven.trans (theft_absolved.trans suspect)
  have orders' : noOrders (driven c (absolved s)) = true := noOrders_driven.trans (noOrders_absolved.trans orders)
  obtain ⟨⟨watch, carried, told⟩, keys, bands⟩ := changeTheft_armed suspect' orders'
  have quiet : anyAsserted (changeTheft .armed (driven c (absolved s))) = false :=
    (anyAsserted_changeTheft .armed rfl orders').trans clear
  have w := changeTheft_w .armed orders'
  have frame := driven_absolved c s
  have box' (p : Port) : box p (driven c (absolved s)) = box p s := by
    rw [frame]
    cases p <;> rfl
  refine ⟨?_, ?_, ?_, ?_, ?_, fun p => ?_, fun which => ?_, fun _ _ => ⟨?_, carried, ?_, fun up => told ?_⟩⟩
  · rw [w, frame]
  · rw [(changeTheft_watch .armed orders').slotWatch.coverPermit, frame]
  · exact (changeTheft_watch .armed orders').carried (by decide) (by decide) carried_driven
  · rw [keys, frame]
  · rw [bands, frame]
  · exact ((changeTheft_watch .armed orders').slotWatch.box p).trans (box' p)
  · rcases which with which | which
    · exact absurd suspect which
    · rw [quiet] at which
      cases which
  · rw [changeTheft_twu _ orders', frame]
    rfl
  · rw [watch, frame]
  · rw [linkUp_congr, up]
    rw [frame]

theorem driven_returned (suspect : theft s = .suspect) (slots : SlotWatch s m) (returns : AdminReturns s m)
    (clear : anyAsserted m = false) : DriveEnds c s (driven c m) := by
  have quiet : anyAsserted (driven c m) = false := by
    rw [← Bool.not_eq_true]
    intro asserted
    rw [anyAsserted_driven asserted] at clear
    cases clear
  have frame := driven_frame c m
  have config : m.w.config = s.w.config := slots.config
  have box' (p : Port) : box p (driven c m) = box p m := by
    rw [frame]
    cases p <;> rfl
  refine ⟨?_, ?_, carried_driven, ?_, ?_, fun p => (box' p).trans (slots.box p), fun which => ?_, fun _ _ => ⟨?_, ?_, ?_, fun up => ?_⟩⟩
  · rw [frame]
  · rw [frame]
    dsimp only
    rw [config, slots.coverPermit]
  · rw [frame]
    exact returns.keys
  · rw [frame]
    exact returns.bands
  · rcases which with which | which
    · exact absurd suspect which
    · rw [quiet] at which
      cases which
  · rw [frame]
    dsimp only
    rw [config, returns.twu, meterAfter_grace]
  · have queued : Carried watchPage (configured c m) := carried_queuePage _ _ (returns.carried.congr rfl rfl)
    exact queued.keep rfl rfl
  · rw [frame]
    exact returns.watch
  · rw [frame]
    exact returns.announced up

theorem driven_asserted (lost : enabled s .tether = true → (driven c s).twu.tetherLost = s.twu.tetherLost)
    (asserted : anyAsserted s = true) : anyAsserted (driven c s) = true := by
  have frame := driven_frame c s
  have on : enabled (driven c s) .tether = enabled s .tether := by
    unfold enabled
    rw [frame]
  refine anyAsserted_mono (by rw [frame]) (by rw [frame]) ?_ failureSum_driven.symm (fun enabled' => ?_) asserted
  · exact (meterAfter_counter _ _ _).symm
  · rw [lost (on.symm.trans enabled')]
    exact id

/-- The settings applied after an admin match. -/
theorem applyConfig_ends (c : DriveConfig) (s : State) (orders : theft s = .suspect → noOrders s = true)
    (slots : theft s = .suspect → SlotWatch s (matchSlot 0 s)) : DriveEnds c s (applyConfig c (matchSlot 0 s)) := by
  by_cases suspect : theft s = .suspect
  · cases asserted : anyAsserted (absolved s) with
    | true =>
      rw [matchSlot_stays fun _ => asserted]
      rcases applyConfig_driven c (absolved s) with ⟨done, lost⟩ | ⟨done, -⟩
      · rw [done]
        exact driven_kept fun _ => driven_asserted lost asserted
      · rw [done]
        cases still : anyAsserted (driven c (absolved s)) with
        | true =>
          rw [suspectCheck_asserted still]
          exact driven_kept fun _ => still
        | false =>
          rw [suspectCheck_clear (theft_driven.trans (theft_absolved.trans suspect)) still]
          exact driven_ends suspect (orders suspect) still
    | false =>
      have returns := matchSlot_returns suspect asserted (orders suspect)
      have armed : theft (driven c (matchSlot 0 s)) = .armed := by
        rw [theft_driven, theft, returns.watch]
      have done : applyConfig c (matchSlot 0 s) = driven c (matchSlot 0 s) := by
        rcases applyConfig_driven c (matchSlot 0 s) with ⟨done, -⟩ | ⟨done, -⟩
        · exact done
        · rw [done, suspectCheck_still (by simp [armed])]
      rw [done]
      exact driven_returned suspect (slots suspect) returns returns.calm
  · have still : suspectCheck (driven c (absolved s)) = driven c (absolved s) :=
      suspectCheck_still (by rw [theft_driven, theft_absolved]; exact suspect)
    have done : applyConfig c (absolved s) = driven c (absolved s) := by
      rcases applyConfig_driven c (absolved s) with ⟨done, -⟩ | ⟨done, -⟩
      · exact done
      · rw [done, still]
    rw [matchSlot_stays fun now => absurd now suspect, done]
    exact driven_kept fun now => absurd now suspect

/-- The drive configuration with the groups given. -/
def grouped (l : Option LaneArgs) (c : Option CoverArgs) (t : Option TetherArgs) (d : DriveConfig) : DriveConfig :=
  applyGroup t withTether (applyGroup c withCover (applyGroup l withLane d))

theorem withTether_others (a : TetherArgs) (d : DriveConfig) : withTether a d =
    { d with period := (withTether a d).period, tolerance := (withTether a d).tolerance,
             filterLength := (withTether a d).filterLength } := by
  unfold withTether
  split <;> rfl

theorem grouped_lane (l : Option LaneArgs) (c : Option CoverArgs) (t : Option TetherArgs) (d : DriveConfig) :
    ((grouped l c t d).mode, (grouped l c t d).split) =
      (match l with
       | some a => (modeOf a.mode.toNat, if a.mode = 2 then a.split.toNat else 0)
       | none => (d.mode, d.split)) := by
  have tether (e : DriveConfig) : ((applyGroup t withTether e).mode, (applyGroup t withTether e).split) = (e.mode, e.split) := by
    cases t with
    | none => rfl
    | some a =>
      show ((withTether a e).mode, (withTether a e).split) = _
      rw [withTether_others]
  unfold grouped
  rw [tether]
  cases c <;> cases l <;> rfl

theorem grouped_cover (l : Option LaneArgs) (c : Option CoverArgs) (t : Option TetherArgs) (d : DriveConfig) :
    ((grouped l c t d).coverLength, (grouped l c t d).coverBand) =
      (match c with
       | some a => (a.length.toNat, bandNo a.band.toNat)
       | none => (d.coverLength, d.coverBand)) := by
  have tether (e : DriveConfig) :
      ((applyGroup t withTether e).coverLength, (applyGroup t withTether e).coverBand) = (e.coverLength, e.coverBand) := by
    cases t with
    | none => rfl
    | some a =>
      show ((withTether a e).coverLength, (withTether a e).coverBand) = _
      rw [withTether_others]
  unfold grouped
  rw [tether]
  cases c <;> cases l <;> rfl

theorem grouped_tether (l : Option LaneArgs) (c : Option CoverArgs) (t : Option TetherArgs) (d : DriveConfig) :
    ((grouped l c t d).period, (grouped l c t d).tolerance, (grouped l c t d).filterLength) =
      (match t with
       | some a => if a.period = 0 then (0, 0, 2) else (a.period.toNat, a.tolerance.toNat, a.filter.toNat)
       | none => (d.period, d.tolerance, d.filterLength)) := by
  have others (e : DriveConfig) (same : (e.period, e.tolerance, e.filterLength) = (d.period, d.tolerance, d.filterLength)) :
      ((applyGroup t withTether e).period, (applyGroup t withTether e).tolerance, (applyGroup t withTether e).filterLength) =
      (match t with
       | some a => if a.period = 0 then (0, 0, 2) else (a.period.toNat, a.tolerance.toNat, a.filter.toNat)
       | none => (d.period, d.tolerance, d.filterLength)) := by
    cases t with
    | none => exact same
    | some a =>
      unfold applyGroup withTether
      dsimp only
      split <;> rfl
  exact others _ (by cases c <;> cases l <;> rfl)

theorem permitAfter_eq (old new : DriveConfig) (permit : Bool) : permitAfter old new permit =
    (permit && decide ((new.coverLength, new.coverBand) = (old.coverLength, old.coverBand))) := by
  unfold permitAfter
  by_cases length : old.coverLength = new.coverLength
  · by_cases band : old.coverBand = new.coverBand
    · simp [length, band]
    · simp [band, Ne.symm band]
  · simp [length, Ne.symm length]

/-- Settles O44. -/
theorem driveSetStoresItsGroups : Obligations.DriveSetStoresItsGroups := by
  unfold Obligations.DriveSetStoresItsGroups
  intro p h s y l c t running body some' right rest
  have slot : slotPresented h.env.body = some 0 := by
    rw [body]
    rfl
  have scrub (suspect : theft s = .suspect) : ScrubInWiping (endJob s) := by
    rcases rest with dormant | armed | ⟨-, scrub⟩
    · rw [dormant] at suspect
      cases suspect
    · rw [armed] at suspect
      cases suspect
    · exact scrub.endJob
  have slots : SlotWatch (endJob s) (matchSlot 0 (endJob s)) := by
    by_cases suspect : theft s = .suspect
    · exact (matchSlot_matched 0 (scrub suspect)).slots
    · rw [matchSlot_stays (s := endJob s) fun now => absurd now suspect]
      exact absolved_slotWatch
  have orders (suspect : theft s = .suspect) : noOrders (endJob s) = true :=
    (scrub suspect).noOrders (by rw [show theft (endJob s) = .suspect from suspect]; simp)
  have ends' := applyConfig_ends (grouped l c t s.w.config) (endJob s) orders fun _ => slots
  have acts : matchKind h.env 0 (matchSlot 0 (endJob s)) =
      (applyConfig (grouped l c t s.w.config) (matchSlot 0 (endJob s)), ends .ok) := by
    unfold matchKind
    rw [body]
    show (applyConfig (grouped l c t (matchSlot 0 (endJob s)).w.config) _, _) = _
    rw [slots.config]
    rfl
  have held := (ends'.box p).trans ((box_endJob p s).trans running.2)
  have run := exec_match_held running slot some' right acts held
  obtain ⟨k, same⟩ : ∃ k, applyConfig (grouped l c t s.w.config) (matchSlot 0 (endJob s)) = k := ⟨_, rfl⟩
  rw [same] at run ends'
  have config : k.w.config = grouped l c t s.w.config := ends'.config
  refine ⟨_, meterAfter s.w.config k.w.config s.twu, run, answers_setBox _ _ _ _, carried_setBox _ ends'.page, ?_, ?_, ?_, ?_, ?_, ?_,
    ?_, fun which => ?_, fun suspect clear => ?_⟩
  · rw [setBox_bands, ends'.bands]
    rfl
  · rw [setBox_keys, ends'.keys]
    rfl
  · rw [setBox_w, config]
    exact (grouped_lane l c t s.w.config).trans (by cases l <;> rfl)
  · rw [setBox_w, config]
    exact (grouped_cover l c t s.w.config).trans (by cases c <;> rfl)
  · rw [setBox_w, config]
    exact (grouped_tether l c t s.w.config).trans (by cases t <;> rfl)
  · rw [setBox_coverPermit, setBox_w, config, ends'.permit, permitAfter_eq]
    rfl
  · rw [setBox_w]
    rfl
  · rw [anyAsserted_setBox] at which
    rw [setBox_twu, setBox_w, config]
    exact ends'.kept which
  · rw [anyAsserted_setBox] at clear
    obtain ⟨twu, carried, watch, told⟩ := ends'.ended suspect clear
    rw [setBox_twu, setBox_w, config]
    refine ⟨twu, carried_setBox _ carried, watch, fun up => ?_⟩
    rw [setBox_psp, setBox_link]
    exact told up

end

/-! # WATCH_RECOVER on a match -/

section

variable {s t u m k : State} {p : Port} {h : Held} {i j : SlotId}

/-! ## WATCH_RECOVER on a match (R120, R5, R14) -/

theorem recoverTo_calm (s : State) : recoverTo s ≠ .alarm ∧ recoverTo s ≠ .wiping ∧ recoverTo s ≠ .wiped := by
  unfold recoverTo
  split <;> simp

/-- A return from ALARM: every band is brought to its enables or held for its open load. -/
theorem theftCore_awaits {x : Theft} (alarm : theft s = .alarm) (ha : x ≠ .alarm) (hw : x ≠ .wiping) (b : BandId) :
    flags (theftCore x s) b = (awaitPair s b).1 ∧ entry (theftCore x s) (.band b) = (awaitPair s b).2 := by
  have core : bandsAs (theft s) x { s with w := { s.w with watch := watchAs x s.w.watch }, twu := countersAs x s.twu } =
      awaitBands { s with w := { s.w with watch := watchAs x s.w.watch }, twu := countersAs x s.twu } := by
    rw [alarm]
    cases x <;> simp_all [bandsAs]
  have pair : awaitPair { s with w := { s.w with watch := watchAs x s.w.watch }, twu := countersAs x s.twu } b = awaitPair s b := rfl
  rw [theftCore_flags, theftCore_entry, theftMoved, core, awaitBands, flags_tabBands, entry_tabBands, pair]
  exact ⟨rfl, rfl⟩

theorem recovered_w (orders : noOrders s = true) : (recovered s).w =
    { s.w with watch := { watchAs (recoverTo s) s.w.watch with latch := false }, counts := tab8 (recoveredCount s) } := by
  have orders' : noOrders (recoverClear s) = true := orders
  rw [recovered, queuePages_w, changeTheft_w _ orders']
  rfl

theorem recovered_twu (orders : noOrders s = true) : (recovered s).twu =
    countersAs (recoverTo s) { s.twu with counter := 0, tetherLost := false, tetherRun := 0 } := by
  have orders' : noOrders (recoverClear s) = true := orders
  rw [recovered, queuePages_twu, changeTheft_twu _ orders']
  rfl

theorem recovered_backoff (orders : noOrders s = true) : (recovered s).backoff = tab8 (recoveredBackoff s) := by
  have orders' : noOrders (recoverClear s) = true := orders
  rw [recovered, queuePages_backoff, (changeTheft_watch _ orders').backoff]
  rfl

theorem recovered_band (alarm : theft s = .alarm) (orders : noOrders s = true) {b : BandId} (free : (flags s b).held = false)
    (secret : hasSecret s b = true) : flags (recovered s) b =
      { flags s b with readLocked := true, writeLocked := true, pendingLoad := !(record s b).rle } ∧
    present (recovered s) (.band b) = false := by
  have orders' : noOrders (recoverClear s) = true := orders
  have alarm' : theft (recoverClear s) = .alarm := alarm
  obtain ⟨calm, rest, -⟩ := recoverTo_calm s
  obtain ⟨fl, en⟩ := theftCore_awaits alarm' calm rest b
  have pair := awaitPair_free (s := recoverClear s) (b := b) free secret
  rw [pair] at fl en
  constructor
  · rw [recovered]
    unfold flags at *
    rw [queuePages_bands, changeTheft_bands _ orders', fl]
    rfl
  · refine not_present_of_removed (e := s.keys.bands.get b) ?_
    rw [recovered]
    unfold entry at *
    rw [queuePages_keys, changeTheft_keys _ orders', en]
    rfl

theorem recovered_notice (orders : noOrders s = true) (up : linkUp s = true) : (recovered s).psp.notice.getLsbD 0 = true := by
  have orders' : noOrders (recoverClear s) = true := orders
  have up' : linkUp (recoverClear s) = true := up
  rw [recovered, queuePages_psp]
  exact (changeTheft_announced _ (recoverTo_calm s).2.1 orders' up').1

theorem anyPending_setBox (x : Option Held) : anyPending (setBox p x s) = anyPending s := by cases p <;> rfl

/-- Settles O46. -/
theorem recoverLeavesAlarm : Obligations.RecoverLeavesAlarm := by
  unfold Obligations.RecoverLeavesAlarm
  intro p h s y running body some' right alarm scrub up
  have slot : slotPresented h.env.body = some 0 := by
    rw [body]
    rfl
  have stays : matchSlot 0 (endJob s) = absolved (endJob s) :=
    matchSlot_stays (s := endJob s) fun suspect => by
      rw [show theft (endJob s) = .alarm from alarm] at suspect
      cases suspect
  obtain ⟨run, matched, kind⟩ := exec_match running slot some' right scrub
  rw [stays] at run matched kind
  have alarm' : theft (absolved (endJob s)) = .alarm := theft_absolved.trans alarm
  have orders : noOrders (absolved (endJob s)) = true := noOrders_absolved.trans (scrub.endJob.noOrders (by
    rw [show theft (endJob s) = .alarm from alarm]
    simp))
  have acts : matchKind h.env 0 (absolved (endJob s)) = (recovered (absolved (endJob s)),
      if anyPending (recovered (absolved (endJob s))) then .handing .recover else ends .ok) := by
    unfold matchKind
    rw [body]
    show matchRecover _ = _
    rw [matchRecover_eq, if_neg (by simp [alarm'])]
  have before := absolved_frame (s := endJob s)
  obtain ⟨m, moved⟩ : ∃ m, absolved (endJob s) = m := ⟨_, rfl⟩
  rw [moved] at run matched kind alarm' orders acts before
  rw [acts] at run
  have record' (b : BandId) : record m b = record s b := by
    rw [before]
    rfl
  have w := recovered_w orders
  have twu := recovered_twu orders
  refine ⟨_, run, ?_, ?_, ?_, ?_, ?_, ?_, ?_, fun j nonzero => ⟨?_, ?_⟩, ?_, ?_, fun b free secret => ?_, ?_, ?_⟩
  · rw [theft, setBox_w, w]
    show recoverTo m = _
    unfold recoverTo
    rw [before]
    rfl
  · rw [setBox_w, w]
  · rw [setBox_w, w, before]
    rfl
  · rw [setBox_twu, twu]
    unfold recoverTo
    split <;> rfl
  · rw [setBox_twu, twu]
    unfold recoverTo
    split <;> rfl
  · rw [setBox_twu, twu]
    unfold recoverTo
    split <;> rfl
  · rw [setBox_w, w, before]
    rfl
  · have creds : cred m j = cred s j := matched.others (.inr rfl)
    rw [count, setBox_w, w]
    show (tab8 (recoveredCount m)).get j = _
    rw [get_tab8, recoveredCount, creds, matched.counts, if_neg (Ne.symm nonzero)]
    rfl
  · have creds : cred m j = cred s j := matched.others (.inr rfl)
    rw [backoffOf, setBox_backoff, recovered_backoff orders, get_tab8, recoveredBackoff, creds, matched.backoffs,
      if_neg (Ne.symm nonzero)]
    rfl
  · rw [count_setBox]
    rw [acts] at kind
    exact kind.count (by rw [matched.counts, if_pos rfl])
  · rw [backoffOf_setBox]
    rw [acts] at kind
    exact kind.backoff (by rw [matched.backoffs, if_pos rfl])
  · have free' : (flags m b).held = false := by
      rw [before]
      exact free
    have secret' : hasSecret m b = true := by
      rw [before]
      exact secret
    obtain ⟨fl, absent⟩ := recovered_band alarm' orders free' secret'
    have flags' (x : Option Held) : flags (setBox p x (recovered m)) b = flags (recovered m) b := by
      unfold flags
      rw [setBox_bands]
    have present' (x : Option Held) : present (setBox p x (recovered m)) (.band b) = present (recovered m) (.band b) := by
      unfold present entry
      rw [setBox_keys]
    rw [flags', present', fl, record']
    exact ⟨rfl, rfl, rfl, absent⟩
  · dsimp only
    generalize recovered m = k
    rw [anyPending_setBox, box_setBox_same]
    exact ⟨_, rfl⟩
  · have up' : linkUp m = true := by
      rw [before]
      exact up
    rw [setBox_psp]
    dsimp only
    exact recovered_notice orders up'

end

/-! # What an admin match leaves, and the watch requests as acts -/

section

variable {s t u m k x : State} {p : Port} {h : Held} {i j : SlotId} {q : Policy} {a : WatchArgs}

/-! ## What an admin match leaves, whether it ends SUSPECT or not -/

/-- What an admin match leaves in every theft state. -/
structure AdminLeaves (s m : State) : Prop where
  policy : m.w.watch.policy = s.w.watch.policy
  latch : m.w.watch.latch = false
  counter : m.twu.counter = s.twu.counter
  tetherLost : m.twu.tetherLost = s.twu.tetherLost
  counts : m.w.counts = put s.w.counts 0 0
  creds : m.w.creds = s.w.creds
  plan : m.w.plan = s.w.plan
  wipe : m.wipe = s.wipe
  keys : m.keys = s.keys
  bands : m.bands = s.bands

theorem absolved_leaves : AdminLeaves s (absolved s) := by
  rw [absolved_frame]
  exact ⟨rfl, rfl, rfl, rfl, rfl, rfl, rfl, rfl, rfl, rfl⟩

theorem AdminReturns.leaves (h : AdminReturns s m) : AdminLeaves s m :=
  ⟨by rw [h.watch], by rw [h.watch], by rw [h.twu], by rw [h.twu], h.counts, h.creds, h.plan, h.wipe, h.keys, h.bands⟩

theorem AdminLeaves.anyAsserted (h : AdminLeaves s m) : anyAsserted m = true ↔ MatchKeepsSuspect s (failureSum m) :=
  anyAsserted_of_absolved h.policy h.latch h.counter h.tetherLost

/-- An admin match only forgets, or ends a SUSPECT that nothing keeps. -/
theorem adminMatch_cases (orders : theft s = .suspect → noOrders s = true) :
    (matchSlot 0 s = absolved s ∧ (theft s = .suspect → MatchKeepsSuspect s (failureSum (matchSlot 0 s)))) ∨
    (theft s = .suspect ∧ ¬MatchKeepsSuspect s (failureSum (matchSlot 0 s)) ∧ AdminReturns s (matchSlot 0 s)) := by
  by_cases suspect : theft s = .suspect
  · cases asserted : Machine.anyAsserted (absolved s) with
    | true =>
      rw [matchSlot_stays fun _ => asserted]
      exact .inl ⟨rfl, fun _ => absolved_leaves.anyAsserted.mp asserted⟩
    | false =>
      have returns := matchSlot_returns suspect asserted (orders suspect)
      refine .inr ⟨suspect, fun keeps => ?_, returns⟩
      rw [← returns.leaves.anyAsserted, returns.calm] at keeps
      cases keeps
  · rw [matchSlot_stays fun now => absurd now suspect]
    exact .inl ⟨rfl, fun now => absurd now suspect⟩

theorem adminMatch_leaves (orders : theft s = .suspect → noOrders s = true) : AdminLeaves s (matchSlot 0 s) := by
  rcases adminMatch_cases orders with ⟨same, -⟩ | ⟨-, -, returns⟩
  · rw [same]
    exact absolved_leaves
  · exact returns.leaves

theorem failureSum_congr (counts : t.w.counts = s.w.counts) (creds : t.w.creds = s.w.creds) : failureSum t = failureSum s := by
  unfold failureSum summed cred count
  rw [counts, creds]

/-! ## WATCH_ARM (R118) -/

theorem policyAsserted_iff (latch : s.w.watch.latch = false) : policyAsserted (policyOf a) s = true ↔
    (a.indicators.getLsbD 1 = true ∧ s.twu.tetherLost = true) ∨
      (a.indicators.getLsbD 3 = true ∧ a.budget.toNat ≤ failureSum s) := by
  have tether : inSet (policyOf a).enabled .tether = a.indicators.getLsbD 1 := by simp [inSet, policyOf, indicatorBit]
  have budget : inSet (policyOf a).enabled .budget = a.indicators.getLsbD 3 := by simp [inSet, policyOf, indicatorBit]
  unfold policyAsserted
  rw [tether, budget, latch, Bool.and_false, Bool.or_false, Bool.or_eq_true, Bool.and_eq_true, Bool.and_eq_true, decide_eq_true_iff]
  rfl

theorem matchWatchArm_eq (a : WatchArgs) (s : State) : matchWatchArm a s =
    if theft s ≠ .dormant ∧ theft s ≠ .armed then (s, ends .denied)
    else if a.indicators.getLsbD 0 = true ∧ (cred s 7).state ≠ .set then (s, ends .badArgument)
    else if policyAsserted (policyOf a) s then (s, ends .denied)
    else (armWith (policyOf a) s, ends .ok) := by
  unfold matchWatchArm
  simp

/-- The policy replaced in DORMANT or ARMED. -/
theorem armWith_arms (q : Policy) (rest : theft s = .dormant ∨ theft s = .armed) (orders : noOrders s = true) :
    theft (armWith q s) = .armed ∧ (armWith q s).w.watch.policy = some q ∧ (armWith q s).twu.counter = 0 ∧
    (armWith q s).bands = s.bands ∧ (armWith q s).keys = s.keys ∧ Carried watchPage (armWith q s) ∧
    (theft s = .armed → (armWith q s).link = s.link ∧ (armWith q s).psp = s.psp) := by
  have orders' : noOrders (underPolicy q s) = true := orders
  rw [armWith_eq]
  split
  · rename_i dormant
    have dormant' : theft (underPolicy q s) = .dormant := dormant
    obtain ⟨keys, bands⟩ := changeTheft_still (x := .armed) (s := underPolicy q s) (by simp [dormant']) (by simp) (by simp)
      (by simp) orders'
    refine ⟨theft_changeTheft _ orders', ?_, ?_, bands, keys, changeTheft_carried _ orders', fun armed => ?_⟩
    · rw [changeTheft_w _ orders']
      rfl
    · rw [changeTheft_twu _ orders']
      rfl
    · rw [dormant] at armed
      cases armed
  · rename_i awake
    have armed : theft s = .armed := rest.resolve_left awake
    have carried : Carried watchPage (queuePage watchPage [] (underPolicy q s)) := carried_queuePage_same _ _ _
    refine ⟨?_, ?_, ?_, ?_, ?_, carried, fun _ => ⟨?_, ?_⟩⟩
    · rw [theft, queuePage_w]
      exact armed
    · rw [queuePage_w]
      rfl
    · rw [queuePage_twu]
      rfl
    · rw [queuePage_bands]
      rfl
    · rw [queuePage_keys]
      rfl
    · rw [queuePage_link]
      rfl
    · rw [queuePage_psp]
      rfl

theorem armWith_slots (q : Policy) (calm : theft s ≠ .wiping → noOrders s = true) : (armWith q s).w.counts = s.w.counts ∧
    (armWith q s).w.creds = s.w.creds ∧ (armWith q s).w.watch.latch = s.w.watch.latch := by
  rw [armWith_eq]
  split
  · rename_i dormant
    have orders : noOrders (underPolicy q s) = true := calm (by simp [dormant])
    rw [changeTheft_w _ orders]
    exact ⟨rfl, rfl, rfl⟩
  · rw [queuePage_w]
    exact ⟨rfl, rfl, rfl⟩

theorem matchWatchArm_slots (a : WatchArgs) (calm : theft s ≠ .wiping → noOrders s = true) :
    (matchWatchArm a s).1.w.counts = s.w.counts ∧ (matchWatchArm a s).1.w.creds = s.w.creds ∧
    (matchWatchArm a s).1.w.watch.latch = s.w.watch.latch := by
  rw [matchWatchArm_eq]
  split
  · exact ⟨rfl, rfl, rfl⟩
  · split
    · exact ⟨rfl, rfl, rfl⟩
    · split
      · exact ⟨rfl, rfl, rfl⟩
      · exact armWith_slots _ calm

/-! ## WATCH_DISARM (R119) -/

theorem matchWatchDisarm_armed (rest : theft s = .armed ∨ theft s = .suspect) :
    matchWatchDisarm s = (changeTheft .dormant s, ends .ok) := by
  unfold matchWatchDisarm
  rcases rest with rest | rest <;> rw [rest]

theorem matchWatchDisarm_dormant (rest : theft s = .dormant) : matchWatchDisarm s = (s, ends .ok) := by
  unfold matchWatchDisarm
  rw [rest]

theorem matchWatchDisarm_denied (rest : theft s = .alarm ∨ theft s = .wiping) : matchWatchDisarm s = (s, ends .denied) := by
  unfold matchWatchDisarm
  rcases rest with rest | rest <;> rw [rest]

theorem disarms (rest : theft s = .armed ∨ theft s = .suspect) (orders : noOrders s = true) :
    (changeTheft .dormant s).twu = { s.twu with counter := 0, grace := 0 } ∧ Carried watchPage (changeTheft .dormant s) ∧
    (changeTheft .dormant s).w.watch = { s.w.watch with theft := .dormant, cause := none, graceSeconds := 0 } ∧
    (changeTheft .dormant s).bands = s.bands ∧ (changeTheft .dormant s).keys = s.keys := by
  obtain ⟨keys, bands⟩ := changeTheft_still (x := .dormant) (s := s) (by rcases rest with rest | rest <;> simp [rest]) (by simp)
    (by simp) (by simp) orders
  refine ⟨?_, changeTheft_carried _ orders, ?_, bands, keys⟩
  · rw [changeTheft_twu _ orders]
    rfl
  · rw [changeTheft_w _ orders]
    rfl

/-! ## REMOTE_WIPE and WIPE_NOW (R134, R151) -/

theorem matchRemoteWipe_wipes (rest : theft s = .armed ∨ theft s = .suspect ∨ theft s = .alarm) :
    matchRemoteWipe s = (enterWiping .remote (theftPasses s) s, ends .ok) := by
  unfold matchRemoteWipe
  rcases rest with rest | rest | rest <;> rw [rest]

theorem matchRemoteWipe_unarmed (rest : theft s = .dormant ∨ theft s = .wiped) : matchRemoteWipe s = (s, ends .notArmed) := by
  unfold matchRemoteWipe
  rcases rest with rest | rest <;> rw [rest]

theorem matchRemoteWipe_denied (rest : theft s = .wiping) : matchRemoteWipe s = (s, ends .denied) := by
  unfold matchRemoteWipe
  rw [rest]

theorem matchWipeNow_wipes (ps : Passes) (rest : theft s = .dormant ∨ theft s = .armed ∨ theft s = .suspect ∨ theft s = .wiped) :
    matchWipeNow ps s = (enterWiping .owner ps s, ends .ok) := by
  unfold matchWipeNow
  rcases rest with rest | rest | rest | rest <;> rw [rest]

theorem matchWipeNow_denied (ps : Passes) (rest : theft s = .alarm ∨ theft s = .wiping) :
    matchWipeNow ps s = (s, ends .denied) := by
  unfold matchWipeNow
  rcases rest with rest | rest <;> rw [rest]

/-! ## SCRUB_STOP (R152) -/

theorem carried_goDone (carried : Carried journalPage s) : Carried journalPage (goDone s) := by
  have core : Carried journalPage (theftCore .wiped s) := by
    rw [theftCore_eq]
    refine carried_queuePage _ _ (carried.congr ?_ ?_)
    · rw [theftMoved, bandsAs_frame]
    · rw [theftMoved, bandsAs_frame]
      rfl
  refine (core.announce).congr ?_ ?_
  · unfold goDone
    rw [handOpenLoad_frame]
    rfl
  · unfold goDone
    rw [handOpenLoad_frame]
    rfl

end

/-! # WATCH_ARM and WATCH_DISARM on a match -/

section

variable {s t u m k x : State} {p : Port} {h : Held} {i j : SlotId} {q : Policy} {a : WatchArgs} {room : List PageId}

/-! ## A matched request's watch and wipe, clause by clause -/

theorem flags_setBox (g : Option Held) (b : BandId) : flags (setBox p g s) b = flags s b := by
  unfold flags
  rw [setBox_bands]

theorem present_setBox (g : Option Held) (n : KeyName) : present (setBox p g s) n = present s n := by
  unfold present entry
  rw [setBox_keys]

theorem theft_setBox (g : Option Held) : theft (setBox p g s) = theft s := by
  unfold theft
  rw [setBox_w]

theorem ScrubInWiping.suspects (scrub : ScrubInWiping s) (suspect : Machine.theft s = .suspect) : Machine.noOrders s = true :=
  scrub.noOrders (by simp [suspect])

/-- Where WATCH_ARM finds DORMANT or ARMED after the match. -/
theorem adminMatch_awake (scrub : ScrubInWiping s)
    (rest : theft s = .dormant ∨ theft s = .armed ∨ (theft s = .suspect ∧ ¬MatchKeepsSuspect s (failureSum (matchSlot 0 s)))) :
    (theft (matchSlot 0 s) = .dormant ∨ theft (matchSlot 0 s) = .armed) ∧ noOrders (matchSlot 0 s) = true ∧
      (theft s = .armed → (matchSlot 0 s).link = s.link ∧ (matchSlot 0 s).psp = s.psp) := by
  have orders : noOrders (matchSlot 0 s) = true := by
    rw [(matchSlot_matched 0 scrub).orders]
    exact scrub.noOrders (by rcases rest with rest | rest | ⟨rest, -⟩ <;> simp [rest])
  refine ⟨?_, orders, fun armed => ?_⟩
  · rcases adminMatch_cases scrub.suspects with ⟨same, keeps⟩ | ⟨-, -, returns⟩
    · rw [same, theft_absolved]
      rcases rest with rest | rest | ⟨rest, lost⟩
      · exact .inl rest
      · exact .inr rest
      · exact absurd (keeps rest) lost
    · right
      rw [theft, returns.watch]
  · rw [matchSlot_stays (fun suspect => by rw [armed] at suspect; cases suspect), absolved_frame]
    exact ⟨rfl, rfl⟩

/-- Where an admin match only forgets. -/
theorem adminMatch_asleep (scrub : ScrubInWiping s) (rest : theft s = .alarm ∨ theft s = .wiping ∨ theft s = .wiped ∨
    (theft s = .suspect ∧ MatchKeepsSuspect s (failureSum (matchSlot 0 s)))) : matchSlot 0 s = absolved s := by
  rcases adminMatch_cases scrub.suspects with ⟨same, -⟩ | ⟨suspect, lost, -⟩
  · exact same
  · rcases rest with rest | rest | rest | ⟨-, keeps⟩
    · rw [suspect] at rest
      cases rest
    · rw [suspect] at rest
      cases rest
    · rw [suspect] at rest
      cases rest
    · exact absurd keeps lost

theorem arm_slots (scrub : ScrubInWiping s) (g : Option Held) (done : x = setBox p g (matchWatchArm a (matchSlot 0 s)).1) :
    (∀ j : SlotId, count x j = if j = 0 then 0 else count s j) ∧ x.w.creds = s.w.creds ∧ x.w.watch.latch = false ∧
    failureSum x = failureSum (matchSlot 0 s) := by
  have leaves := adminMatch_leaves scrub.suspects
  obtain ⟨counts, creds, latch⟩ := matchWatchArm_slots a ((matchSlot_matched 0 scrub).calm scrub)
  have w : x.w = (matchWatchArm a (matchSlot 0 s)).1.w := by rw [done, setBox_w]
  refine ⟨fun j => ?_, ?_, ?_, ?_⟩
  · rw [count, w, counts, leaves.counts, get_put]
    simp only [eq_comm]
    rfl
  · rw [w, creds, leaves.creds]
  · rw [w, latch, leaves.latch]
  · exact failureSum_congr (by rw [w, counts]) (by rw [w, creds])

/-- WATCH_ARM in DORMANT, ARMED and a SUSPECT that the match ends. -/
theorem arm_awake (scrub : ScrubInWiping s)
    (done : x = setBox p (some { h with stage := (matchWatchArm a (matchSlot 0 s)).2, room := room })
      (matchWatchArm a (matchSlot 0 s)).1)
    (rest : theft s = .dormant ∨ theft s = .armed ∨ (theft s = .suspect ∧ ¬MatchKeepsSuspect s (failureSum x))) :
    ((a.indicators.getLsbD 0 = true → (cred s 7).state = .set) → (a.indicators.getLsbD 1 = true → s.twu.tetherLost = false) →
      (a.indicators.getLsbD 3 = true → failureSum x < a.budget.toNat) →
      Answers p h .ok 0 x ∧ theft x = .armed ∧ x.w.watch.policy = some (policyOf a) ∧ x.twu.counter = 0 ∧
      x.bands = s.bands ∧ x.keys = s.keys ∧ Carried watchPage x ∧ (theft s = .armed → x.link = s.link ∧ x.psp = s.psp)) ∧
    (a.indicators.getLsbD 0 = true → (cred s 7).state ≠ .set →
      Answers p h .badArgument 0 x ∧ x.w.watch.policy = s.w.watch.policy ∧ x.twu.counter = s.twu.counter) ∧
    ((a.indicators.getLsbD 0 = true → (cred s 7).state = .set) →
      (a.indicators.getLsbD 1 = true ∧ s.twu.tetherLost = true) ∨
        (a.indicators.getLsbD 3 = true ∧ a.budget.toNat ≤ failureSum x) →
      Answers p h .denied 0 x ∧ x.w.watch.policy = s.w.watch.policy ∧ x.twu.counter = s.twu.counter) := by
  have leaves := adminMatch_leaves scrub.suspects
  obtain ⟨-, -, -, sum⟩ := arm_slots scrub _ done
  rw [sum] at rest ⊢
  obtain ⟨awake, orders, told⟩ := adminMatch_awake scrub rest
  have policy := policyAsserted_iff (a := a) leaves.latch
  rw [leaves.tetherLost] at policy
  have platform : cred (matchSlot 0 s) 7 = cred s 7 := by
    unfold cred
    rw [leaves.creds]
  have eq := matchWatchArm_eq a (matchSlot 0 s)
  rw [if_neg fun both => awake.elim both.1 both.2, platform] at eq
  refine ⟨fun checkin tether budget => ?_, fun named unset => ?_, fun checkin asserted => ?_⟩
  · have fine : ¬policyAsserted (policyOf a) (matchSlot 0 s) = true := by
      rw [policy]
      rintro (⟨on, lost⟩ | ⟨on, low⟩)
      · rw [tether on] at lost
        cases lost
      · exact absurd low (Nat.not_le.mpr (budget on))
    rw [if_neg fun both => both.2 (checkin both.1), if_neg fine] at eq
    rw [eq] at done
    obtain ⟨theft', policy', counter, bands, keys, carried, quiet⟩ := armWith_arms (policyOf a) awake orders
    generalize armWith (policyOf a) (matchSlot 0 s) = k at *
    dsimp only at done
    rw [done]
    refine ⟨answers_setBox _ _ _ _, ?_, ?_, ?_, ?_, ?_, carried_setBox _ carried, fun armed => ?_⟩
    · rw [theft_setBox, theft']
    · rw [setBox_w, policy']
    · rw [setBox_twu, counter]
    · rw [setBox_bands, bands, leaves.bands]
    · rw [setBox_keys, keys, leaves.keys]
    · have armed' : theft (matchSlot 0 s) = .armed := by
        rw [matchSlot_stays (fun suspect => by rw [armed] at suspect; cases suspect), theft_absolved, armed]
      rw [setBox_link, setBox_psp, (quiet armed').1, (quiet armed').2]
      exact told armed
  · rw [if_pos ⟨named, unset⟩] at eq
    rw [eq] at done
    dsimp only at done
    rw [done]
    refine ⟨answers_setBox _ _ _ _, ?_, ?_⟩
    · rw [setBox_w, leaves.policy]
    · rw [setBox_twu, leaves.counter]
  · rw [if_neg fun both => both.2 (checkin both.1), if_pos (policy.mpr asserted)] at eq
    rw [eq] at done
    dsimp only at done
    rw [done]
    refine ⟨answers_setBox _ _ _ _, ?_, ?_⟩
    · rw [setBox_w, leaves.policy]
    · rw [setBox_twu, leaves.counter]

/-- WATCH_ARM in every other theft state. -/
theorem arm_asleep (scrub : ScrubInWiping s)
    (done : x = setBox p (some { h with stage := (matchWatchArm a (matchSlot 0 s)).2, room := room })
      (matchWatchArm a (matchSlot 0 s)).1)
    (rest : theft s = .alarm ∨ theft s = .wiping ∨ theft s = .wiped ∨
      (theft s = .suspect ∧ MatchKeepsSuspect s (failureSum x))) :
    Answers p h .denied 0 x ∧ theft x = theft s ∧ x.w.watch = { s.w.watch with latch := false } ∧ x.twu = s.twu := by
  obtain ⟨-, -, -, sum⟩ := arm_slots scrub _ done
  rw [sum] at rest
  have same := adminMatch_asleep scrub rest
  have eq := matchWatchArm_eq a (matchSlot 0 s)
  rw [same] at eq done
  rw [if_pos (by
    rw [theft_absolved]
    rcases rest with rest | rest | rest | ⟨rest, -⟩ <;> simp [rest])] at eq
  rw [eq] at done
  dsimp only at done
  rw [done]
  refine ⟨answers_setBox _ _ _ _, ?_, ?_, ?_⟩
  · rw [theft_setBox, theft_absolved]
  · rw [setBox_w, absolved_frame]
  · rw [setBox_twu, absolved_frame]

/-- WATCH_DISARM. -/
theorem disarm_ends (scrub : ScrubInWiping s)
    (done : x = setBox p (some { h with stage := (matchWatchDisarm (matchSlot 0 s)).2, room := room })
      (matchWatchDisarm (matchSlot 0 s)).1) :
    (theft s = .armed ∨ theft s = .suspect →
      Answers p h .ok 0 x ∧ x.twu = { s.twu with counter := 0, grace := 0 } ∧ Carried watchPage x ∧
      x.w.watch = { s.w.watch with theft := .dormant, cause := none, graceSeconds := 0, latch := false } ∧
      x.bands = s.bands ∧ x.keys = s.keys) ∧
    (theft s = .dormant → Answers p h .ok 0 x ∧ x.twu = s.twu ∧ x.bands = s.bands ∧ x.keys = s.keys ∧
      x.w = { s.w with watch := { s.w.watch with latch := false }, counts := put s.w.counts 0 0 }) ∧
    (theft s = .alarm ∨ theft s = .wiping →
      Answers p h .denied 0 x ∧ x.w.watch = { s.w.watch with latch := false } ∧ x.twu = s.twu) := by
  have leaves := adminMatch_leaves scrub.suspects
  have matched := matchSlot_matched 0 scrub
  refine ⟨fun rest => ?_, fun rest => ?_, fun rest => ?_⟩
  · have rest' : theft (matchSlot 0 s) = .armed ∨ theft (matchSlot 0 s) = .suspect := by
      rcases matched.theft with same | ⟨-, armed⟩
      · rw [same]
        exact rest
      · exact .inl armed
    have orders : noOrders (matchSlot 0 s) = true :=
      matched.calm scrub (by rcases rest' with rest' | rest' <;> simp [rest'])
    obtain ⟨twu, carried, watch, bands, keys⟩ := disarms rest' orders
    rw [matchWatchDisarm_armed rest'] at done
    dsimp only at done
    rw [done]
    refine ⟨answers_setBox _ _ _ _, ?_, carried_setBox _ carried, ?_, ?_, ?_⟩
    · rw [setBox_twu, twu]
      rcases adminMatch_cases scrub.suspects with ⟨same, -⟩ | ⟨-, -, returns⟩
      · rw [same, absolved_frame]
      · rw [returns.twu]
    · rw [setBox_w, watch]
      rcases adminMatch_cases scrub.suspects with ⟨same, -⟩ | ⟨-, -, returns⟩
      · rw [same, absolved_frame]
      · rw [returns.watch]
    · rw [setBox_bands, bands, leaves.bands]
    · rw [setBox_keys, keys, leaves.keys]
  · rw [matchSlot_stays fun suspect => by rw [rest] at suspect; cases suspect] at done
    rw [matchWatchDisarm_dormant (theft_absolved.trans rest)] at done
    dsimp only at done
    rw [done]
    refine ⟨answers_setBox _ _ _ _, ?_, ?_, ?_, ?_⟩
    · rw [setBox_twu, absolved_frame]
    · rw [setBox_bands, absolved_frame]
    · rw [setBox_keys, absolved_frame]
    · rw [setBox_w, absolved_frame]
  · rw [matchSlot_stays fun suspect => by rw [suspect] at rest; simp at rest] at done
    rw [matchWatchDisarm_denied (by rw [theft_absolved]; exact rest)] at done
    dsimp only at done
    rw [done]
    refine ⟨answers_setBox _ _ _ _, ?_, ?_⟩
    · rw [setBox_w, absolved_frame]
    · rw [setBox_twu, absolved_frame]

end

/-! # REMOTE_WIPE, WIPE_NOW and SCRUB_STOP on a match -/

section

variable {s t u m k x : State} {p : Port} {h : Held} {i j : SlotId} {q : Policy} {a : WatchArgs} {room : List PageId} {c : Cause}
  {ps : Passes}

/-! ## REMOTE_WIPE, WIPE_NOW and SCRUB_STOP on a match (R134, R151, R152, R135) -/

/-- Outside ARMED and SUSPECT a platform or user slot's match only forgives it. -/
theorem matchSlot_forgiven (zero : i ≠ 0) (armed : theft s ≠ .armed) (suspect : theft s ≠ .suspect) :
    matchSlot i s = forgiven i s := by
  have same : theft (forgiven i s) = theft s := (forgiven_work i s).countsOnly.theft
  have slot : matchSlot i s = budgeted i s := if_neg zero
  rw [slot, budgeted, budgetAfter_still (s := forgiven i s) _ (by rw [same]; exact armed) (by rw [same]; exact suspect)]

theorem remote_refused (zero : i ≠ 0) {st : RStatus} (rest : theft s = .dormant ∨ theft s = .wiped ∨ theft s = .wiping)
    (acts : matchRemoteWipe (matchSlot i s) = (matchSlot i s, ends st))
    (done : x = setBox p (some { h with stage := (matchRemoteWipe (matchSlot i s)).2, room := room })
      (matchRemoteWipe (matchSlot i s)).1) :
    Answers p h st 0 x ∧ x.w.watch = s.w.watch ∧ x.w.plan = s.w.plan := by
  have still := matchSlot_forgiven (i := i) (s := s) zero (by rcases rest with rest | rest | rest <;> simp [rest])
    (by rcases rest with rest | rest | rest <;> simp [rest])
  have counts := (forgiven_work i s).countsOnly
  rw [acts] at done
  dsimp only at done
  rw [done]
  refine ⟨answers_setBox _ _ _ _, ?_, ?_⟩
  · rw [setBox_w, still, counts.watch]
  · rw [setBox_w, still, counts.plan]

theorem theft_forgiven (i : SlotId) (s : State) : theft (forgiven i s) = theft s := (forgiven_work i s).countsOnly.theft

/-- A request's own wipe begins: it is answered at the change of the theft state. -/
theorem wipe_begins (free : theft s ≠ .wiping) (orders : noOrders m = true)
    (done : x = setBox p (some { h with
      stage := ends .ok,
      room := if beganWipe s (enterWiping c ps m) then [] else roomTouched s (enterWiping c ps m) }) (enterWiping c ps m)) :
    AnswersAtOnce p h .ok x ∧ theft x = .wiping ∧ x.wipe.activity = .rootWait ∧
    x.w.plan = { cause := some c, phase := .root, passes := ps, pass := 0, watermark := 0, stop := false, written := 0,
                 refused := 0 } ∧
    ∀ b : BandId, closed (flags x b) = true ∧ present x (.band b) = false := by
  have enters := enterWiping_enters c ps orders
  generalize enterWiping c ps m = k at *
  have wiping : theft k = .wiping := by
    rw [theft, enters.w]
    rfl
  have began : beganWipe s k = true := by
    unfold beganWipe
    simp [free, wiping]
  rw [if_pos began] at done
  rw [done]
  refine ⟨box_setBox_same _ _ _, ?_, ?_, ?_, fun b => ?_⟩
  · rw [theft_setBox, wiping]
  · rw [setBox_wipe, enters.wipe]
  · rw [setBox_w, enters.w]
    rfl
  · rw [flags_setBox, present_setBox]
    exact ⟨(enters.shut b).1, (enters.shut b).2.2⟩

theorem matchScrubStop_eq (s : State) : matchScrubStop s =
    if theft s = .wiping ∧ s.w.plan.phase = .scrub ∧ s.w.plan.stop = false then
      if s.wipe.running = true then (setStop s, ends .ok)
      else (goDone (storeResult .stopped s.w.plan.pass s.w.plan.written s.w.plan.refused (setStop s)), ends .ok)
    else (s, ends .ok) := by
  unfold matchScrubStop
  simp [and_assoc]

/-- SCRUB_STOP where it changes nothing. -/
theorem stop_idle (rest : theft s = .wiped ∨ (theft s = .wiping ∧ s.w.plan.phase = .scrub ∧ s.w.plan.stop = true))
    (done : x = setBox p (some { h with stage := (matchScrubStop (absolved s)).2, room := room })
      (matchScrubStop (absolved s)).1) :
    Answers p h .ok 0 x ∧ x.w.plan = s.w.plan ∧ theft x = theft s ∧ x.wipe = s.wipe := by
  have leaves := absolved_leaves (s := s)
  have eq := matchScrubStop_eq (absolved s)
  rw [theft_absolved, leaves.plan, if_neg (by
    rintro ⟨wiping, -, going⟩
    rcases rest with rest | ⟨-, -, rest⟩
    · rw [rest] at wiping
      cases wiping
    · rw [rest] at going
      cases going)] at eq
  rw [eq] at done
  dsimp only at done
  rw [done]
  refine ⟨answers_setBox _ _ _ _, ?_, ?_, ?_⟩
  · rw [setBox_w, leaves.plan]
  · rw [theft_setBox, theft_absolved]
  · rw [setBox_wipe, leaves.wipe]

/-- SCRUB_STOP in a running pass. -/
theorem stop_running (wiping : theft s = .wiping) (phase : s.w.plan.phase = .scrub) (running : s.wipe.running = true)
    (done : x = setBox p (some { h with stage := (matchScrubStop (absolved s)).2, room := room })
      (matchScrubStop (absolved s)).1) :
    Answers p h .ok 0 x ∧ x.w.plan = { s.w.plan with stop := true } ∧ theft x = .wiping ∧ x.wipe = s.wipe := by
  cases stop : s.w.plan.stop with
  | true =>
    obtain ⟨answers, plan, same, wipe⟩ := stop_idle (.inr ⟨wiping, phase, stop⟩) done
    refine ⟨answers, ?_, same.trans wiping, wipe⟩
    rw [plan, ← stop]
  | false =>
    have leaves := absolved_leaves (s := s)
    have eq := matchScrubStop_eq (absolved s)
    rw [theft_absolved, leaves.plan, if_pos ⟨wiping, phase, stop⟩, leaves.wipe, if_pos running] at eq
    rw [eq] at done
    dsimp only at done
    rw [done]
    refine ⟨answers_setBox _ _ _ _, ?_, ?_, ?_⟩
    · rw [setBox_w, setStop_frame, leaves.plan]
    · have same : theft (setStop (absolved s)) = theft (absolved s) := by
        unfold theft
        rw [setStop_frame]
      rw [theft_setBox, same, theft_absolved, wiping]
    · rw [setBox_wipe, setStop_frame, leaves.wipe]

theorem reachesDone_setBox (g : Option Held) (h : ReachesDone s t) : ReachesDone s (setBox p g t) := by
  cases p <;> exact h

/-- What `ReachesDone` reads of the state before. -/
theorem ReachesDone.of_same {s' : State} (h : ReachesDone s t) (bands : s'.bands = s.bands) (w : s'.w.bands = s.w.bands)
    (secrets : s'.w.secrets = s.w.secrets) (busy : wipeBusy s' = wipeBusy s) (mode : s'.mode = s.mode) : ReachesDone s' t := by
  unfold ReachesDone at *
  unfold flags hasSecret record linkUp at *
  rw [bands, w, secrets, busy, mode]
  exact h

/-- SCRUB_STOP with no pass running ends the wipe. -/
theorem stop_ends (wiping : theft s = .wiping) (phase : s.w.plan.phase = .scrub) (idle : s.wipe.running = false)
    (going : s.w.plan.stop = false)
    (done : x = setBox p (some { h with stage := (matchScrubStop (absolved s)).2, room := room })
      (matchScrubStop (absolved s)).1) :
    Answers p h .ok 0 x ∧ x.w.plan = { s.w.plan with stop := true } ∧ Carried journalPage x ∧
    StoresResult .stopped s.w.plan.pass s.w.plan.written s.w.plan.refused s x ∧ ReachesDone s x := by
  have leaves := absolved_leaves (s := s)
  have eq := matchScrubStop_eq (absolved s)
  rw [theft_absolved, leaves.plan, if_pos ⟨wiping, phase, going⟩, leaves.wipe, if_neg (by simp [idle])] at eq
  rw [eq] at done
  dsimp only at done
  have frame : setStop (absolved s) =
      { absolved s with w := { (absolved s).w with plan := { s.w.plan with stop := true } }, ks := (setStop (absolved s)).ks } := by
    rw [← leaves.plan]
    exact setStop_frame
  have before := absolved_frame (s := s)
  have journal : Carried journalPage (setStop (absolved s)) := carried_queuePage_same _ _ _
  generalize setStop (absolved s) = m at *
  have plan : m.w.plan = { s.w.plan with stop := true } := by rw [frame]
  have same : m.wipe = s.wipe ∧ m.mode = s.mode ∧ m.psp = s.psp ∧ m.bands = s.bands ∧ m.engine = s.engine ∧
      m.w.bands = s.w.bands ∧ m.w.secrets = s.w.secrets := by
    rw [frame, before]
    exact ⟨rfl, rfl, rfl, rfl, rfl, rfl, rfl⟩
  obtain ⟨wipe, mode, psp, bands, engine, records, secrets⟩ := same
  have stored := storeResult_stores (s := m) .stopped s.w.plan.pass s.w.plan.written s.w.plan.refused
  have result := storeResult_frame (s := m) .stopped s.w.plan.pass s.w.plan.written s.w.plan.refused
  have journal' : Carried journalPage (storeResult .stopped s.w.plan.pass s.w.plan.written s.w.plan.refused m) :=
    journal.keep rfl rfl
  generalize storeResult .stopped s.w.plan.pass s.w.plan.written s.w.plan.refused m = n at *
  have ending := goDone_frame (s := n)
  have stays : StoresResult .stopped s.w.plan.pass s.w.plan.written s.w.plan.refused m (goDone n) :=
    stored.keep (by rw [ending]) (by rw [ending]) (goDone_notice 1)
  have reaches := goDone_reaches (s := n)
  have planN : n.w.plan = m.w.plan := by rw [result]
  rw [done]
  refine ⟨answers_setBox _ _ _ _, ?_, carried_setBox _ (carried_goDone journal'), ?_, reachesDone_setBox _ ?_⟩
  · rw [setBox_w, ending, ← plan, ← planN]
  · refine (stays.congr (by rw [wipe]) (by rw [wipe]) mode.symm (by rw [plan])).keep ?_ ?_ ?_
    · rw [setBox_wipe]
    · rw [setBox_wipe]
    · rw [setBox_psp]
      exact id
  · refine reaches.of_same ?_ ?_ ?_ ?_ ?_
    · rw [result, bands]
    · rw [result, records]
    · rw [result, secrets]
    · unfold wipeBusy
      rw [result, engine]
    · rw [result, mode]

end

/-! # The requests of the watch and the wipe on a match -/

section

variable {s : State} {p : Port} {h : Held} {j : Job}

theorem wipeBusy_endJob (running : Running p j h s) : wipeBusy s = wipeBusy (endJob s) := by
  unfold wipeBusy
  rw [running.1]
  rfl

theorem remoteRest_theft (rest : theft s = .dormant ∨ theft s = .wiped ∨ theft s = .wiping) :
    theft (matchSlot 7 s) = theft s := by
  rw [matchSlot_forgiven (i := 7) (by decide) (by rcases rest with rest | rest | rest <;> simp [rest])
    (by rcases rest with rest | rest | rest <;> simp [rest]), theft_forgiven]

/-- Settles O45. -/
theorem matchedWatchRequests : Obligations.MatchedWatchRequests := by
  unfold Obligations.MatchedWatchRequests
  intro p h i s running slot some' right scrub
  obtain ⟨run, matched, kind⟩ := exec_match running slot some' right scrub
  have scrub' := scrub.endJob
  have admin {b : Body} (body : h.env.body = b) (zero : slotPresented b = some 0) : i = 0 :=
    Option.some.inj (slot.symm.trans ((congrArg slotPresented body).trans zero))
  have platform {y : Option Secret} (body : h.env.body = .remoteWipe y) : i = 7 :=
    Option.some.inj (slot.symm.trans (congrArg slotPresented body))
  have root : (matchKind h.env i (matchSlot i (endJob s))).1.w.root = s.w.root := kind.root.trans matched.slots.root
  have secrets : (matchKind h.env i (matchSlot i (endJob s))).1.w.secrets = s.w.secrets :=
    kind.secrets.trans matched.slots.secrets
  have settled0 (calm : theft s ≠ .suspect) : matchSlot 0 (endJob s) = absolved (endJob s) :=
    matchSlot_stays (s := endJob s) fun suspect => absurd suspect calm
  obtain ⟨x, done⟩ : ∃ x, setBox p (some { h with
      stage := (matchKind h.env i (matchSlot i (endJob s))).2,
      room := if beganWipe (endJob s) (matchKind h.env i (matchSlot i (endJob s))).1 then []
        else roomTouched (endJob s) (matchKind h.env i (matchSlot i (endJob s))).1 })
    (matchKind h.env i (matchSlot i (endJob s))).1 = x := ⟨_, rfl⟩
  rw [done] at run
  replace done := done.symm
  refine ⟨x, run, ?_, ?_, fun y a body => ?_, fun y body => ?_, fun y body => ?_, fun y n body rest => ?_, fun y body rest => ?_,
    fun y body rest => ?_, fun y n ps body passes rest => ?_, fun y body wiping phase active => ?_,
    fun y body wiping phase idle going => ?_⟩
  · rw [done, setBox_w, root]
  · rw [done, setBox_w, secrets]
  · obtain rfl := admin body rfl
    have acts : matchKind h.env 0 (matchSlot 0 (endJob s)) = matchWatchArm a (matchSlot 0 (endJob s)) := by
      unfold matchKind
      rw [body]
    rw [acts] at done
    obtain ⟨counts, creds, latch, -⟩ := arm_slots scrub' _ done
    have awake := arm_awake (s := endJob s) scrub' done
    have asleep := arm_asleep (s := endJob s) scrub' done
    exact ⟨counts, creds, latch, awake, asleep⟩
  · obtain rfl := admin body rfl
    have acts : matchKind h.env 0 (matchSlot 0 (endJob s)) = matchWatchDisarm (matchSlot 0 (endJob s)) := by
      unfold matchKind
      rw [body]
    rw [acts] at done
    exact disarm_ends (s := endJob s) scrub' done
  · obtain rfl := platform body
    have acts : matchKind h.env 7 (matchSlot 7 (endJob s)) = matchRemoteWipe (matchSlot 7 (endJob s)) := by
      unfold matchKind
      rw [body]
    rw [acts] at done
    have still (rest : theft s = .dormant ∨ theft s = .wiped ∨ theft s = .wiping) :
        theft (matchSlot 7 (endJob s)) = theft s := remoteRest_theft (s := endJob s) rest
    refine ⟨fun rest => ?_, fun rest => ?_⟩
    · exact remote_refused (s := endJob s) (i := 7) (by decide) (by rcases rest with rest | rest; exacts [.inl rest, .inr (.inl rest)])
        (matchRemoteWipe_unarmed (by rw [still (by tauto)]; exact rest)) done
    · exact remote_refused (s := endJob s) (i := 7) (by decide) (.inr (.inr rest))
        (matchRemoteWipe_denied (by rw [still (by tauto)]; exact rest)) done
  · obtain rfl := admin body rfl
    have stays : matchSlot 0 (endJob s) = absolved (endJob s) := settled0 (by rcases rest with rest | rest <;> simp [rest])
    have acts : matchKind h.env 0 (absolved (endJob s)) = (absolved (endJob s), ends .denied) := by
      unfold matchKind
      rw [body]
      exact matchWipeNow_denied _ (by rw [theft_absolved]; exact rest)
    rw [stays, acts] at done
    dsimp only at done
    rw [done]
    refine ⟨answers_setBox _ _ _ _, ?_, ?_⟩
    · rw [setBox_w, absolved_frame]
      rfl
    · rw [setBox_w, absolved_frame]
      rfl
  · obtain rfl := admin body rfl
    have acts : matchKind h.env 0 (absolved (endJob s)) = matchScrubStop (absolved (endJob s)) := by
      unfold matchKind
      rw [body]
    rw [settled0 (by rcases rest with rest | ⟨rest, -⟩ <;> simp [rest]), acts] at done
    exact stop_idle (s := endJob s) rest done
  · obtain rfl := platform body
    have free : theft s ≠ .wiping := by rcases rest with rest | rest | rest <;> simp [rest]
    have acts : matchKind h.env 7 (matchSlot 7 (endJob s)) =
        (enterWiping .remote (theftPasses s) (matchSlot 7 (endJob s)), ends .ok) := by
      unfold matchKind
      rw [body]
      have passes : theftPasses (matchSlot 7 (endJob s)) = theftPasses s := by
        unfold theftPasses
        rw [matched.policy]
        rfl
      rw [← passes]
      refine matchRemoteWipe_wipes ?_
      rcases matched.theft with same | ⟨-, armed⟩
      · rw [same]
        exact rest
      · exact .inl armed
    rw [acts] at done
    dsimp only at done
    exact wipe_begins (s := endJob s) free (matched.orders.trans (scrub'.noOrders free)) done
  · obtain rfl := admin body rfl
    have free : theft s ≠ .wiping := by rcases rest with rest | rest | rest | rest <;> simp [rest]
    have acts : matchKind h.env 0 (matchSlot 0 (endJob s)) =
        (enterWiping .owner ps (matchSlot 0 (endJob s)), ends .ok) := by
      unfold matchKind
      rw [body]
      have given : ((some n).bind passesOf).getD (.times 0) = ps := by
        show (passesOf n).getD _ = _
        rw [passes]
        rfl
      show matchWipeNow (((some n).bind passesOf).getD (.times 0)) _ = _
      rw [given]
      refine matchWipeNow_wipes ps ?_
      rcases matched.theft with same | ⟨-, armed⟩
      · rw [same]
        exact rest
      · exact .inr (.inl armed)
    rw [acts] at done
    dsimp only at done
    exact wipe_begins (s := endJob s) free (matched.orders.trans (scrub'.noOrders free)) done
  · obtain rfl := admin body rfl
    have acts : matchKind h.env 0 (absolved (endJob s)) = matchScrubStop (absolved (endJob s)) := by
      unfold matchKind
      rw [body]
    rw [settled0 (by simp [wiping]), acts] at done
    exact stop_running (s := endJob s) wiping phase active done
  · obtain rfl := admin body rfl
    have acts : matchKind h.env 0 (absolved (endJob s)) = matchScrubStop (absolved (endJob s)) := by
      unfold matchKind
      rw [body]
    rw [settled0 (by simp [wiping]), acts] at done
    obtain ⟨answers, plan, carried, stores, reaches⟩ := stop_ends (s := endJob s) wiping phase idle going done
    refine ⟨answers, plan, carried, stores, reaches.of_same rfl rfl rfl ?_ rfl⟩
    exact wipeBusy_endJob running

end

/-! # The strobe and a good check-in -/

section

variable {s t u m k x : State} {p : Port} {h : Held} {i j : SlotId} {token : Secret}

/-! ## CHECKIN_STROBE (R125, R175) -/

/-- The part once a strobe has taken the token field. -/
def struck (s : State) : State := zeroToken (pointAfter 8 s)

theorem struck_eq (s : State) : struck s = { s with psp := { s.psp with pointer := 9, token := Vector.replicate 32 0 } } := rfl

theorem exec_strobe_up (up : linkUp s = true) : exec .checkinStrobe s = .next (settle (strobe (tokenValue s) (struck s))) := by
  have going : starting (pointAfter 8 s) = false := by
    show (!linkUp s) = false
    rw [up]
    rfl
  rw [execCheckinStrobe_on (sidebandOn_of_linkUp up), strobeWrite, if_pos rfl, if_neg (by simp [going])]
  rfl

theorem exec_strobe_down (down : linkUp s = false) (on : sidebandOn s = true) :
    exec .checkinStrobe s = .next (setStatus .ignoredState (struck s)) := by
  have going : starting (pointAfter 8 s) = true := by
    show (!linkUp s) = true
    rw [down]
    rfl
  rw [execCheckinStrobe_on on, strobeWrite, if_pos rfl, if_pos going]
  rfl

theorem strobe_sets {x : CheckinStatus} (free : s.twu.status ≠ .pending) (status : strobeStatus s = x) (other : x ≠ .pending) :
    strobe token s = setStatus x s := by
  unfold strobe
  rw [if_neg free]
  dsimp only
  rw [status, if_neg other]

theorem strobe_hands (free : s.twu.status ≠ .pending) (status : strobeStatus s = .pending) :
    strobe token s = handCompare token (setStatus .pending s) := by
  unfold strobe
  rw [if_neg free]
  dsimp only
  rw [status, if_pos rfl]

theorem strobeStatus_eq (free : s.twu.status ≠ .pending) : strobeStatus s =
    if theft s ≠ .armed ∧ theft s ≠ .suspect then .ignoredState
    else if (cred s 7).state = .empty ∨ (cred s 7).state = .disabled then .ignoredSlot
    else if 0 < backoffOf s 7 then .ignoredBackoff
    else if s.supplyOk = false then .ignoredPower
    else .pending := by
  unfold strobeStatus
  rw [if_neg free]
  simp

/-- The status of a strobe that is ignored, the first reason of the table. -/
theorem strobeStatus_ignored {x : CheckinStatus} (free : s.twu.status ≠ .pending)
    (why : (x = .ignoredState ∧ theft s ≠ .armed ∧ theft s ≠ .suspect) ∨
      ((theft s = .armed ∨ theft s = .suspect) ∧
        ((x = .ignoredSlot ∧ ((cred s 7).state = .empty ∨ (cred s 7).state = .disabled)) ∨
          ((cred s 7).state ≠ .empty ∧ (cred s 7).state ≠ .disabled ∧
            ((x = .ignoredBackoff ∧ 0 < backoffOf s 7) ∨
              (x = .ignoredPower ∧ backoffOf s 7 = 0 ∧ s.supplyOk = false)))))) :
    strobeStatus s = x ∧ x ≠ .pending := by
  rw [strobeStatus_eq free]
  rcases why with ⟨rfl, armed, suspect⟩ | ⟨awake, why⟩
  · rw [if_pos ⟨armed, suspect⟩]
    exact ⟨rfl, by simp⟩
  · have awake' : ¬(theft s ≠ .armed ∧ theft s ≠ .suspect) := fun both => awake.elim both.1 both.2
    rw [if_neg awake']
    rcases why with ⟨rfl, slot⟩ | ⟨empty, disabled, why⟩
    · rw [if_pos slot]
      exact ⟨rfl, by simp⟩
    · have slot : ¬((cred s 7).state = .empty ∨ (cred s 7).state = .disabled) := fun either => either.elim empty disabled
      rw [if_neg slot]
      rcases why with ⟨rfl, backoff⟩ | ⟨rfl, rested, warn⟩
      · rw [if_pos backoff]
        exact ⟨rfl, by simp⟩
      · rw [if_neg (by omega), if_pos warn]
        exact ⟨rfl, by simp⟩

theorem strobeStatus_pending (free : s.twu.status ≠ .pending) (awake : theft s = .armed ∨ theft s = .suspect)
    (slot : (cred s 7).state = .set ∨ (cred s 7).state = .blank) (rested : backoffOf s 7 = 0) (supply : s.supplyOk = true) :
    strobeStatus s = .pending := by
  have usable : ¬((cred s 7).state = .empty ∨ (cred s 7).state = .disabled) := by
    rcases slot with slot | slot <;> simp [slot]
  rw [strobeStatus_eq free, if_neg fun both => awake.elim both.1 both.2, if_neg usable, if_neg (by omega),
    if_neg (by simp [supply])]

/-! ## The compare's match (R126, R131) -/

theorem exec_compare (running : s.engine.running = some (.compare, .compare token)) :
    exec .checkinCompareComplete s = .next (settle (compareDone token (endJob s))) := by
  show execCheckinCompareComplete s = _
  unfold execCheckinCompareComplete
  rw [running]

/-- The check-in taken as good, before the PLATFORM slot is cleared. -/
def checkedIn (s : State) : State := setStatus .good { s with twu := { s.twu with counter := 0 } }

theorem checkinMatch_eq (set : (cred s 7).state = .set) :
    checkinMatch s = suspectCheck (budgetAfter (budgetAsserted (checkedIn s)) (forgiven 7 (checkedIn s))) := by
  have same : undisable 7 (checkedIn s) = checkedIn s := by
    unfold undisable
    have set' : (cred (checkedIn s) 7).state = .set := set
    rw [set']
    rfl
  unfold forgiven
  rw [same]
  rfl

theorem suspectCheck_idem (orders : theft s = .suspect → noOrders s = true) :
    suspectCheck (suspectCheck s) = suspectCheck s := by
  by_cases suspect : theft s = .suspect
  · cases asserted : anyAsserted s with
    | true => rw [suspectCheck_asserted asserted, suspectCheck_asserted asserted]
    | false =>
      rw [suspectCheck_clear suspect asserted]
      exact suspectCheck_still (by rw [theft_changeTheft _ (orders suspect)]; simp)
  · rw [suspectCheck_still suspect, suspectCheck_still suspect]

/-- A good check-in forgives the PLATFORM slot and may end SUSPECT. -/
theorem checkinMatch_checks (set : (cred s 7).state = .set) (scrub : ScrubInWiping s) :
    checkinMatch s = suspectCheck (forgiven 7 (checkedIn s)) := by
  have same : theft (forgiven 7 (checkedIn s)) = theft s := theft_forgiven 7 (checkedIn s)
  have orders : noOrders (forgiven 7 (checkedIn s)) = noOrders s := (forgiven_work 7 (checkedIn s)).countsOnly.noOrders
  rw [checkinMatch_eq set]
  rcases budgetAfter_forgiven 7 (checkedIn s) with done | done
  · rw [done]
  · rw [done, suspectCheck_idem]
    intro suspect
    rw [orders]
    exact scrub.suspects (same.symm.trans suspect)

theorem watchPeriod_pos (i : Fin 4) : 0 < watchPeriod i := by
  revert i
  decide

theorem anyAsserted_checkedIn : anyAsserted (forgiven 7 (checkedIn s)) = true ↔
    StaysSuspect s (failureSum (forgiven 7 (checkedIn s))) := by
  have counts := (forgiven_work 7 (checkedIn s)).countsOnly
  have counter : (forgiven 7 (checkedIn s)).twu.counter = 0 := counts.counter
  have watch : (forgiven 7 (checkedIn s)).w.watch = s.w.watch := counts.watch
  have lost : (forgiven 7 (checkedIn s)).twu.tetherLost = s.twu.tetherLost := counts.tetherLost
  unfold StaysSuspect
  cases policy : s.w.watch.policy with
  | none => simp [anyAsserted, enabled, watch, policy]
  | some p =>
    have positive := watchPeriod_pos p.periodIndex
    rw [anyAsserted_eq ((congrArg Watch.policy watch).trans policy), counter, lost, watch]
    simp [Nat.not_le.mpr positive]

end

/-! # The check-in's compare -/

section

variable {s t u m k x : State} {p : Port} {h : Held} {i j : SlotId} {token : Secret}

/-! ## CHECKIN_COMPARE_COMPLETE on a match (R126, R131) -/

theorem forgiven_creds (enabled' : (cred s i).state ≠ .disabled) : (forgiven i s).w.creds = s.w.creds := by
  have same : undisable i s = s := by
    unfold undisable
    rw [if_neg (by simp [enabled'])]
  unfold forgiven clearCount
  rw [same, queuePage_w]
  rfl

theorem forgiven_twu (i : SlotId) (s : State) : (forgiven i s).twu = s.twu := by rw [(forgiven_work i s).frame]

theorem forgiven_keys (i : SlotId) (s : State) : (forgiven i s).keys = s.keys ∧ (forgiven i s).bands = s.bands :=
  ⟨(forgiven_work i s).countsOnly.keys, (forgiven_work i s).countsOnly.bands⟩

/-- What a good check-in leaves of the PLATFORM slot and the theft state. -/
structure ChecksIn (s x : State) : Prop where
  slots : SlotWatch (checkedIn s) x
  creds : x.w.creds = s.w.creds
  bands : x.bands = s.bands
  keys : x.keys = s.keys
  platform : ∀ j : SlotId, count x j = (if j = 7 then 0 else count s j) ∧ backoffOf x j = if j = 7 then 0 else backoffOf s j
  armed : theft s = .armed → theft x = .armed ∧ x.twu = { s.twu with counter := 0, status := .good }
  stays : theft s = .suspect → StaysSuspect s (failureSum x) →
    x.w.watch = s.w.watch ∧ x.twu = { s.twu with counter := 0, status := .good }
  returns : theft s = .suspect → ¬StaysSuspect s (failureSum x) →
    ReturnsToArmed s x ∧ x.twu = { s.twu with counter := 0, status := .good, grace := 0 }

theorem suspectCheck_bands (orders : theft s = .suspect → noOrders s = true) :
    (suspectCheck s).keys = s.keys ∧ (suspectCheck s).bands = s.bands := by
  by_cases suspect : theft s = .suspect
  · cases asserted : anyAsserted s with
    | true =>
      rw [suspectCheck_asserted asserted]
      exact ⟨rfl, rfl⟩
    | false =>
      rw [suspectCheck_clear suspect asserted]
      exact (changeTheft_armed suspect (orders suspect)).2
  · rw [suspectCheck_still suspect]
    exact ⟨rfl, rfl⟩

theorem checkinMatch_checksIn (set : (cred s 7).state = .set) (scrub : ScrubInWiping s) : ChecksIn s (checkinMatch s) := by
  have work := forgiven_work 7 (checkedIn s)
  have watch := work.countsOnly.watch
  have same : theft (forgiven 7 (checkedIn s)) = theft s := theft_forgiven 7 (checkedIn s)
  have calm : theft (forgiven 7 (checkedIn s)) ≠ .wiping → noOrders (forgiven 7 (checkedIn s)) = true := fun calm => by
    rw [same] at calm
    rw [work.countsOnly.noOrders]
    exact scrub.noOrders calm
  have orders (suspect : theft (forgiven 7 (checkedIn s)) = .suspect) : noOrders (forgiven 7 (checkedIn s)) = true :=
    calm (by simp [suspect])
  have last := suspectCheck_watchOnly calm
  have sum : failureSum (checkinMatch s) = failureSum (forgiven 7 (checkedIn s)) := by
    rw [checkinMatch_checks set scrub]
    exact failureSum_of_watch last
  have asserted := anyAsserted_checkedIn (s := s)
  have creds : (forgiven 7 (checkedIn s)).w.creds = s.w.creds := forgiven_creds (s := checkedIn s) (by
    show (cred s 7).state ≠ _
    simp [set])
  obtain ⟨keys, bands⟩ := suspectCheck_bands orders
  have twu := forgiven_twu 7 (checkedIn s)
  rw [← sum] at asserted
  have done := checkinMatch_checks set scrub
  generalize checkinMatch s = x at *
  rw [← done] at last keys bands
  refine ⟨work.slotWatch.trans last.slotWatch, last.creds.trans creds, bands.trans (forgiven_keys 7 (checkedIn s)).2,
    keys.trans (forgiven_keys 7 (checkedIn s)).1, fun j => ⟨?_, ?_⟩, fun armed => ?_, fun suspect stays => ?_,
    fun suspect lost => ?_⟩
  · rw [last.count, count_forgiven]
    simp only [eq_comm]
    rfl
  · rw [last.backoffOf, backoffOf_forgiven]
    simp only [eq_comm]
    rfl
  · rw [done, suspectCheck_still (by rw [same, armed]; simp), same, twu]
    exact ⟨armed, rfl⟩
  · rw [done, suspectCheck_asserted (asserted.mpr stays), twu]
    exact ⟨watch, rfl⟩
  · have clear : anyAsserted (forgiven 7 (checkedIn s)) = false := by
      rw [← Bool.not_eq_true, asserted]
      exact lost
    have suspect' := same.trans suspect
    obtain ⟨⟨watch', carried, told⟩, -, -⟩ := changeTheft_armed suspect' (orders suspect')
    rw [done, suspectCheck_clear suspect' clear]
    refine ⟨⟨?_, carried, fun up => told ((linkUp_congr work.countsOnly.mode).trans up)⟩, ?_⟩
    · rw [watch', watch]
      rfl
    · rw [changeTheft_twu _ (orders suspect'), twu]
      rfl

/-! ## CHECKIN_COMPARE_COMPLETE on a mismatch (R126, R99, R102, R114) -/

/-- The PLATFORM slot with one more failure oneMore. -/
def oneMore (s : State) : State := queuePage (attemptPage 7) [] (setCount 7 (raisedCount (cred s 7) (count s 7)) s)

/-- The PLATFORM slot after a bad check-in: DISABLED at its limit, else with its backoff. -/
def missed (s : State) : State := if mustDisable 7 (oneMore s) then disable 7 (oneMore s) else backoffAfter 7 (oneMore s)

theorem oneMore_work (s : State) : SlotWork s (oneMore s) := ((SlotWork.refl s).setCount 7 _).queue _ _

theorem missed_work (s : State) : SlotWork s (missed s) := by
  unfold missed
  split
  · exact (oneMore_work s).trans (disable_work 7)
  · exact (oneMore_work s).trans (backoffAfter_work 7)

theorem count_oneMore (below : count s 7 < (cred s 7).hard) (j : SlotId) :
    count (oneMore s) j = if j = 7 then count s 7 + 1 else count s j := by
  rw [oneMore, count_queuePage, count_setCount, raisedCount_of_lt below]
  simp only [eq_comm]

theorem cred_oneMore (j : SlotId) : cred (oneMore s) j = cred s j := by rw [oneMore, cred_queuePage, cred_setCount]

theorem backoffOf_oneMore (j : SlotId) : backoffOf (oneMore s) j = backoffOf s j := by
  rw [oneMore, backoffOf_queuePage, backoffOf_setCount]

theorem mustDisable_oneMore (below : count s 7 < (cred s 7).hard) :
    mustDisable 7 (oneMore s) = true ↔ count s 7 + 1 = (cred s 7).hard := by
  rw [mustDisable_iff, count_oneMore below, cred_oneMore, if_pos rfl]
  exact and_iff_right (by decide)

theorem missed_slot (below : count s 7 < (cred s 7).hard) (set : (cred s 7).state = .set) :
    (∀ j : SlotId, count (missed s) j = if j = 7 then count s 7 + 1 else count s j) ∧
    (cred (missed s) 7).state = (if count s 7 + 1 = (cred s 7).hard then .disabled else .set) ∧
    backoffOf (missed s) 7 =
      (if count s 7 + 1 = (cred s 7).hard then 0
       else if count s 7 + 1 ≤ (cred s 7).free then backoffOf s 7
       else backoffDelay 7 (cred s 7) (count s 7 + 1)) := by
  unfold missed
  simp only [mustDisable_oneMore below]
  split
  · refine ⟨fun j => ?_, ?_, ?_⟩
    · rw [count_disable, count_oneMore below]
    · rw [cred_disable, if_pos rfl]
    · rw [backoffOf_disable, if_pos rfl]
  · refine ⟨fun j => ?_, ?_, ?_⟩
    · rw [count_backoffAfter, count_oneMore below]
    · rw [cred_backoffAfter, cred_oneMore, set]
    · unfold backoffAfter
      rw [count_oneMore below, cred_oneMore, if_pos rfl]
      split
      · exact backoffOf_oneMore 7
      · rw [backoffOf_setBackoff, if_pos rfl]

/-- Settles O53. -/
theorem checkinComparesTheToken : Obligations.CheckinComparesTheToken := by
  unfold Obligations.CheckinComparesTheToken
  refine ⟨fun s up pending => ?_, fun s x up free why => ?_, fun s down on => ?_, fun s up free awake slot rested supply => ?_,
    fun token s running => ⟨fun armed suspect => ?_, fun awake slot => ?_⟩, fun token s running awake set scrub => ?_⟩
  · rw [exec_strobe_up up, strobe, if_pos (by exact pending), struck_eq]
  · obtain ⟨status, other⟩ := strobeStatus_ignored free why
    have status' : strobeStatus (struck s) = x := status
    rw [exec_strobe_up up, strobe_sets (s := struck s) free status' other]
    rfl
  · rw [exec_strobe_down down on]
    rfl
  · have status : strobeStatus (struck s) = .pending := strobeStatus_pending free awake slot rested supply
    rw [exec_strobe_up up, strobe_hands (s := struck s) free status]
    rfl
  · rw [exec_compare running, compareDone, if_pos]
    · rfl
    · simp [show theft (endJob s) = theft s from rfl, armed, suspect]
  · have awake' : ¬(decide (theft (endJob s) ≠ .armed) && decide (theft (endJob s) ≠ .suspect)) = true := by
      rcases awake with awake | awake <;> simp [show theft (endJob s) = theft s from rfl, awake]
    have slot' : (cred (endJob s) 7).state ≠ .set := slot
    rw [exec_compare running, compareDone, if_neg awake', if_pos slot']
    rfl
  · have awake' : ¬(decide (theft (endJob s) ≠ .armed) && decide (theft (endJob s) ≠ .suspect)) = true := by
      rcases awake with awake | awake <;> simp [show theft (endJob s) = theft s from rfl, awake]
    have set' : (cred (endJob s) 7).state = .set := set
    have scrub' := scrub.endJob
    have run := exec_compare running
    rw [compareDone, if_neg awake', if_neg (not_not.mpr set')] at run
    cases right : verifies (cred s 7) token with
    | true =>
      rw [if_pos (by exact right)] at run
      have checks := checkinMatch_checksIn set' scrub'
      generalize checkinMatch (endJob s) = x at *
      obtain ⟨slots, creds, bands, keys, platform, armed, stays, returns⟩ := checks
      refine ⟨x, run, slots.engine, slots.root, slots.secrets, slots.records, slots.box .link, slots.box .side,
        fun _ => ⟨creds, bands, keys, platform, armed, fun suspect => ⟨stays suspect, returns suspect⟩⟩,
        fun wrong => (by cases wrong), fun wrong => (by cases wrong)⟩
    | false =>
      rw [if_neg (by rw [show verifies (cred (endJob s) 7) token = false from right]; simp)] at run
      have work := missed_work (setStatus .bad (endJob s))
      have scrubBad : ScrubInWiping (setStatus .bad (endJob s)) := by
        obtain ⟨orders, running', active, fresh⟩ := scrub'
        exact ⟨orders, running', active, fresh⟩
      have last : WatchOnly (missed (setStatus .bad (endJob s))) (checkinMismatch (endJob s)) := work.budget scrubBad _
      have slots := work.slotWatch.trans last.slotWatch
      have follows : BudgetFollows (setStatus .bad (endJob s)) (checkinMismatch (endJob s)) :=
        budgetAfter_follows work.countsOnly (work.countsOnly.orders scrubBad)
      refine ⟨_, run, slots.engine, slots.root, slots.secrets, slots.records, slots.box .link, slots.box .side,
        fun wrong => (by cases wrong), fun _ => follows.congr rfl, fun _ below => ?_⟩
      obtain ⟨counts, state, backoff⟩ := missed_slot (s := setStatus .bad (endJob s)) below set'
      refine ⟨?_, fun j => ?_, ?_, ?_⟩
      · rw [last.slotWatch.frame]
        dsimp only
        rw [work.frame]
        rfl
      · rw [last.count, counts]
        rfl
      · rw [last.cred, state]
        rfl
      · rw [last.backoffOf, backoff]
        rfl

end

/-! # The root secret in a wipe -/

section

variable {s t u x : State} {k : MediaKey} {r : Secret} {d : Draw}

/-! ## How the Wipe Engine's next act follows -/

theorem follows_progress (moves : WipeMoves s) (next : progressWipe s = x) : Follows s x := by
  obtain ⟨store, link, side⟩ := moves
  unfold Follows settle
  rw [serviceStore_quiet s store, progressBox_quiet link, progressBox_quiet side, next]

theorem handWipe_free (j : Job) (free : wipeBusy s = false) :
    handWipe j s = { s with engine := { s.engine with wipe := some j } } := by
  unfold handWipe
  rw [if_neg (by simp [free])]

theorem noOrders_of_activity (scrub : ScrubInWiping s) (other : s.wipe.activity ≠ .scanning) : noOrders s = true := by
  obtain ⟨open', running, -, -⟩ := scrub
  rw [← Bool.not_eq_false]
  exact fun orders => other (running (open' orders))

/-! ## The root secret (R138, R140, R92) -/

theorem exec_rootJob (d : Draw) (running : s.engine.running = some (.wipe, .root)) :
    exec (.rootJobComplete d) s = .next (settle (rootDone d (endJob s))) := by
  show execRootJobComplete d s = _
  unfold execRootJobComplete
  rw [wipeRunning_of running]

theorem exec_rebuildRootJob (d : Draw) (running : s.engine.running = some (.wipe, .rebuildRoot)) :
    exec (.rebuildRootJobComplete d) s = .next (settle (rebuildRootDone d (endJob s))) := by
  show execRebuildRootJobComplete d s = _
  unfold execRebuildRootJobComplete
  rw [wipeRunning_of running]

theorem exec_coverZeroJob (running : s.engine.running = some (.wipe, .coverZero)) :
    exec .coverZeroJobComplete s = .next (settle (coverZeroDone (endJob s))) := by
  show execCoverZeroJobComplete s = _
  unfold execCoverZeroJobComplete
  rw [wipeRunning_of running]

/-- The root page as it is to be. -/
theorem pageOf_rootPage (s : State) : pageOf s rootPage = s.w.root.map Page.root := by
  cases h : s.w.root <;> simp [pageOf, content, rootPage, h]

/-- The root secret set or erased, its page queued for the Wipe Engine. -/
def rooted (v : Option Secret) (s : State) : State := queuePage rootPage [.wipe] { s with w := { s.w with root := v } }

theorem rooted_frame (v : Option Secret) (s : State) :
    rooted v s = { s with w := { s.w with root := v }, ks := (rooted v s).ks } := by
  unfold rooted
  rw [queuePage_frame]

theorem carried_rooted (v : Option Secret) (s : State) : Carried rootPage (rooted v s) := carried_queuePage_same _ _ _

theorem waits_rooted {v : Option Secret} (stale : reference s rootPage ≠ v.map Page.root) : waits .wipe (rooted v s) = true := by
  refine waits_queuePage_same _ _ (by simp) ?_
  rw [pageOf_rootPage]
  exact stale

theorem rootDone_drawn (activity : s.wipe.activity = .rootJob) (good : s.entropyFailed = false) :
    rootDone (some r) s =
      { rooted (some r) s with wipe := { s.wipe with activity := .rootWrite (.cover r), rootNeeds := false } } := by
  unfold rootDone
  rw [if_pos activity, drawn_good good]
  dsimp only
  have wipe : (replaceRoot r s).wipe = s.wipe := by
    rw [replaceRoot, queuePage_wipe]
  rw [wipe]
  rfl

theorem rootDone_none (activity : s.wipe.activity = .rootJob) (good : s.entropyFailed = false) :
    rootDone none s =
      { rooted none (failEntropy s) with wipe := { s.wipe with activity := .coverZeroWait, rootNeeds := true } } := by
  unfold rootDone
  rw [if_pos activity, drawn_good good]
  dsimp only
  rw [queuePage_wipe]
  rfl

theorem rebuildRootDone_drawn (activity : s.wipe.activity = .rebuildRootJob) (good : s.entropyFailed = false) :
    rebuildRootDone (some r) s =
      { rooted (some r) s with wipe := { s.wipe with activity := .rebuildRootWrite (.cover r) } } := by
  unfold rebuildRootDone
  rw [if_pos activity, drawn_good good]
  dsimp only
  have wipe : (replaceRoot r s).wipe = s.wipe := by
    rw [replaceRoot, queuePage_wipe]
  unfold setActivity
  rw [wipe]
  rfl

theorem rebuildRootDone_none (activity : s.wipe.activity = .rebuildRootJob) (good : s.entropyFailed = false) :
    rebuildRootDone none s = wipeNoEntropy s := by
  unfold rebuildRootDone
  rw [if_pos activity, drawn_good good]

/-! ## The phases behind the root page (R13, R138 to R140) -/

theorem coverReload_frame (k : MediaKey) (orders : noOrders s = true) :
    coverReload k s = { s with
      keys := { s.keys with cover := loaded k s.keys.cover }, dq := (coverReload k s).dq, laneA := (coverReload k s).laneA,
      laneB := (coverReload k s).laneB, link := { s.link with outbound := (coverReload k s).link.outbound } } :=
  lanesReact_traffic (s := loadCover k s) orders

theorem rootWritten_frame (k : MediaKey) (orders : noOrders s = true) :
    rootWritten k s = { s with
      w := { s.w with plan := { s.w.plan with phase := .rebuild } }, wipe := { s.wipe with activity := .rebuildWait },
      keys := { s.keys with cover := loaded k s.keys.cover }, ks := (rootWritten k s).ks, dq := (rootWritten k s).dq,
      laneA := (rootWritten k s).laneA, laneB := (rootWritten k s).laneB, link := (rootWritten k s).link } := by
  unfold rootWritten journalWait setActivity
  rw [queuePage_frame, coverReload_frame k orders]
  rfl

theorem carried_rootWritten (k : MediaKey) (s : State) : Carried journalPage (rootWritten k s) := by
  have queued : Carried journalPage (journalWait (setPlan { s.w.plan with phase := .rebuild } (coverReload k s))) :=
    carried_queuePage_same _ _ _
  exact queued.keep rfl rfl

theorem rebuildRootWritten_frame (k : MediaKey) (orders : noOrders s = true) (free : wipeBusy s = false) :
    rebuildRootWritten k s = { s with
      wipe := { s.wipe with activity := .rebuildAdminJob, rootNeeds := false },
      keys := { s.keys with cover := loaded k s.keys.cover }, engine := { s.engine with wipe := some .rebuildAdmin },
      dq := (rebuildRootWritten k s).dq, laneA := (rebuildRootWritten k s).laneA,
      laneB := (rebuildRootWritten k s).laneB, link := (rebuildRootWritten k s).link } := by
  have frame := coverReload_frame k orders
  unfold rebuildRootWritten
  generalize coverReload k s = t at *
  have free' : wipeBusy { t with wipe := { t.wipe with activity := .rebuildAdminJob, rootNeeds := false } } = false := by
    rw [frame]
    exact free
  dsimp only
  rw [handWipe_free .rebuildAdmin free', frame]

/-- A drawn value becomes the root secret, and its page is to be written. -/
theorem root_drawn (w : WipeEngine) (taken : x = { rooted (some r) s with wipe := w }) :
    x.w = { s.w with root := some r } ∧ x.wipe = w ∧ Carried rootPage x ∧
    (reference s rootPage ≠ some (.root r) → waits .wipe x = true) ∧ x.keys = s.keys ∧ x.bands = s.bands ∧
    x.entropyFailed = s.entropyFailed := by
  have carried := carried_rooted (some r) s
  have waiting (stale : reference s rootPage ≠ some (.root r)) : waits .wipe (rooted (some r) s) = true := waits_rooted stale
  have frame := rooted_frame (some r) s
  generalize rooted (some r) s = t at *
  rw [taken]
  refine ⟨?_, rfl, carried.keep rfl rfl, fun stale => waiting stale, ?_, ?_, ?_⟩
  all_goals
    dsimp only
    rw [frame]

/-- ROOT without a value: the root secret is erased, and the zero bytes' job follows once the erasure has a place. -/
theorem root_erased (w : WipeEngine) (taken : x = { rooted none (failEntropy s) with wipe := w }) :
    x.entropyFailed = true ∧ x.keys = s.keys ∧ x.bands = s.bands ∧ x.w = { s.w with root := none } ∧ x.wipe = w ∧
    Carried rootPage x ∧ (reference s rootPage ≠ none → waits .wipe x = true) := by
  have carried := carried_rooted none (failEntropy s)
  have waiting (stale : reference s rootPage ≠ none) : waits .wipe (rooted none (failEntropy s)) = true := waits_rooted stale
  have frame := rooted_frame none (failEntropy s)
  generalize rooted none (failEntropy s) = t at *
  rw [taken]
  refine ⟨?_, ?_, ?_, ?_, rfl, carried.keep rfl rfl, fun stale => waiting stale⟩
  all_goals
    dsimp only
    rw [frame]
    rfl

/-- Settles O54. -/
theorem rootSecretIsReplaced : Obligations.RootSecretIsReplaced := by
  unfold Obligations.RootSecretIsReplaced
  refine ⟨fun c s r act good which => ?_, fun s running activity => ?_, fun s moves activity => ?_, fun s moves scrub written => ?_⟩
  · have good' : (endJob s).entropyFailed = false := good
    rcases which with ⟨rfl, running, activity, rfl⟩ | ⟨rfl, running, activity, rfl⟩
    · have drawn' := rootDone_drawn (s := endJob s) (r := r) activity good'
      have none' := rootDone_none (s := endJob s) activity good'
      have drew := exec_rootJob (some r) running
      have missed := exec_rootJob none running
      rw [drawn'] at drew
      rw [none'] at missed
      obtain ⟨w, act, carried, waiting, keys, bands, entropy⟩ := root_drawn (s := endJob s) (r := r)
        { s.wipe with activity := .rootWrite (.cover r), rootNeeds := false } rfl
      obtain ⟨failed, keys', bands', w', wipe', carried', waiting'⟩ := root_erased (s := endJob s)
        { s.wipe with activity := .coverZeroWait, rootNeeds := true } rfl
      refine ⟨⟨_, drew, w, congrArg WipeEngine.activity act, carried, waiting, keys, bands, entropy.trans good⟩,
        ⟨_, missed, failed, keys', bands',
        fun _ => ⟨w', congrArg WipeEngine.activity wipe', congrArg WipeEngine.rootNeeds wipe', carried', waiting'⟩,
        fun other => ?_⟩⟩
      rw [activity] at other
      cases other
    · have drawn' := rebuildRootDone_drawn (s := endJob s) (r := r) activity good'
      have none' := rebuildRootDone_none (s := endJob s) activity good'
      have drew := exec_rebuildRootJob (some r) running
      have missed := exec_rebuildRootJob none running
      rw [drawn'] at drew
      rw [none'] at missed
      obtain ⟨w, act, carried, waiting, keys, bands, entropy⟩ := root_drawn (s := endJob s) (r := r)
        { s.wipe with activity := .rebuildRootWrite (.cover r) } rfl
      refine ⟨⟨_, drew, w, congrArg WipeEngine.activity act, carried, waiting, keys, bands, entropy.trans good⟩,
        ⟨_, missed, rfl, rfl, rfl, fun other => ?_,
        fun _ => ⟨rfl, rfl, rfl⟩⟩⟩
      rw [activity] at other
      cases other
  · rw [exec_coverZeroJob running, coverZeroDone, if_pos (by exact activity)]
    rfl
  · refine ⟨fun waiting => follows_progress moves ?_, fun room free => follows_progress moves ?_⟩
    · unfold progressWipe
      rw [activity]
      dsimp only
      rw [if_pos waiting]
    · have free' : wipeBusy (setActivity .coverZeroJob s) = false := free
      unfold progressWipe
      rw [activity]
      dsimp only
      rw [if_neg (by simp [room]), handWipe_free _ free']
      rfl
  · refine ⟨fun activity free => ?_, fun k activity => ?_, fun activity free => ⟨fun stuck => ?_, fun good link side => ?_⟩,
      fun k activity free => ?_⟩
    · have free' : wipeBusy (setActivity .rootJob s) = false := free
      refine follows_progress moves ?_
      unfold progressWipe
      rw [activity]
      dsimp only
      rw [if_neg (by simp [written]), handWipe_free _ free']
      rfl
    · have orders := noOrders_of_activity scrub (by simp [activity])
      refine ⟨rootWritten k s, follows_progress moves ?_, ?_, ?_, ?_, carried_rootWritten k s, ?_, ?_, ?_⟩
      · unfold progressWipe
        rw [activity]
        dsimp only
        rw [if_neg (by simp [written])]
      all_goals rw [rootWritten_frame k orders]
    · refine follows_progress moves ?_
      unfold progressWipe
      rw [activity]
      dsimp only
      refine if_neg ?_
      unfold rebuildMayBegin entropyGood
      rcases stuck with stuck | stuck | stuck <;> simp [stuck]
    · have begins : rebuildMayBegin s = true := by
        unfold rebuildMayBegin entropyGood
        simp [written, good, link, side]
      refine ⟨fun needs => follows_progress moves ?_, fun needs => follows_progress moves ?_⟩
      · have free' : wipeBusy (setActivity .rebuildRootJob s) = false := free
        unfold progressWipe
        rw [activity]
        dsimp only
        rw [if_pos begins, rebuildBegin, if_pos needs, handWipe_free _ free']
        rfl
      · have free' : wipeBusy (setActivity .rebuildAdminJob s) = false := free
        unfold progressWipe
        rw [activity]
        dsimp only
        rw [if_pos begins, rebuildBegin, if_neg (by simp [needs]), handWipe_free _ free']
        rfl
    · have orders := noOrders_of_activity scrub (by simp [activity])
      refine ⟨rebuildRootWritten k s, follows_progress moves ?_, ?_, ?_, ?_, ?_, ?_, ?_, ?_⟩
      · unfold progressWipe
        rw [activity]
        dsimp only
        rw [if_neg (by simp [written])]
      all_goals rw [rebuildRootWritten_frame k orders free]

end

/-! # REBUILD's jobs -/

section

variable {s t u x : State} {b c : BandId} {i j k : SlotId} {z kb salt : Secret} {d e : Draw}

/-! ## REBUILD's admin job (R140) -/

theorem exec_rebuildAdminJob (d : Draw) (running : s.engine.running = some (.wipe, .rebuildAdmin)) :
    exec (.rebuildAdminJobComplete d) s = .next (settle (rebuildAdminDone d (endJob s))) := by
  show execRebuildAdminJobComplete d s = _
  unfold execRebuildAdminJobComplete
  rw [wipeRunning_of running]

theorem exec_rebuildBandJob (d e : Draw) (running : s.engine.running = some (.wipe, .rebuildBand b)) :
    exec (.rebuildBandJobComplete d e) s = .next (settle (rebuildBandDone b d e (endJob s))) := by
  show execRebuildBandJobComplete d e s = _
  unfold execRebuildBandJobComplete
  rw [wipeRunning_of running]

/-- The slots rebuilt, with their pages queued for the Wipe Engine. -/
def slotsRebuilt (salt : Secret) (s : State) : State :=
  queuePages (attemptPages ++ credPages) [.wipe]
    { s with w := { s.w with creds := tab8 (rebuiltSlot salt s), counts := Vector.replicate 8 0 },
             backoff := Vector.replicate 8 0 }

theorem slotsRebuilt_frame (salt : Secret) (s : State) : slotsRebuilt salt s =
    { s with w := { s.w with creds := tab8 (rebuiltSlot salt s), counts := Vector.replicate 8 0 },
             backoff := Vector.replicate 8 0, ks := (slotsRebuilt salt s).ks } := by
  unfold slotsRebuilt
  rw [queuePages_frame]

theorem rebuildSlots_eq (salt : Secret) (wiping : theft s = .wiping) : rebuildSlots salt s = slotsRebuilt salt s := by
  have same : theft (slotsRebuilt salt s) = .wiping := by
    unfold theft at *
    rw [slotsRebuilt_frame]
    exact wiping
  exact budgetAfter_still (s := slotsRebuilt salt s) _ (by rw [same]; simp) (by rw [same]; simp)

theorem rebuildAdminDone_drawn (activity : s.wipe.activity = .rebuildAdminJob) (good : s.entropyFailed = false)
    (wiping : theft s = .wiping) :
    rebuildAdminDone (some salt) s = setActivity (.rebuildNext 0) (slotsRebuilt salt s) := by
  unfold rebuildAdminDone
  rw [if_pos activity, drawn_good good]
  dsimp only
  rw [rebuildSlots_eq salt wiping]

theorem rebuildAdminDone_none (activity : s.wipe.activity = .rebuildAdminJob) (failed : d = none ∨ s.entropyFailed = true) :
    rebuildAdminDone d s = wipeNoEntropy s := by
  unfold rebuildAdminDone
  rw [if_pos activity, drawn_none failed]

theorem mem_attemptPages (k : SlotId) : attemptPage k ∈ attemptPages ++ credPages := by
  revert k
  decide

theorem mem_credPages (k : SlotId) : credPage k ∈ attemptPages ++ credPages := by
  revert k
  decide

theorem cred_slotsRebuilt (salt : Secret) (k : SlotId) : cred (slotsRebuilt salt s) k = rebuiltSlot salt s k := by
  unfold cred
  rw [slotsRebuilt_frame]
  exact get_tab8 _ k

theorem count_slotsRebuilt (salt : Secret) (k : SlotId) :
    count (slotsRebuilt salt s) k = 0 ∧ backoffOf (slotsRebuilt salt s) k = 0 := by
  unfold count backoffOf
  rw [slotsRebuilt_frame]
  exact ⟨Vector.getElem_replicate _, Vector.getElem_replicate _⟩

/-- REBUILD's admin job with a value. -/
theorem admin_rebuilt (running : s.engine.running = some (.wipe, .rebuildAdmin)) (activity : s.wipe.activity = .rebuildAdminJob)
    (good : s.entropyFailed = false) (wiping : theft s = .wiping) :
    ∃ x, exec (.rebuildAdminJobComplete (some salt)) s = .next (settle x) ∧ x.wipe.activity = .rebuildNext 0 ∧
      (cred x 0).state = .blank ∧ verifies (cred x 0) 0 = true ∧ (cred x 0).row = (cred s 0).row ∧ (cred x 0).hard = 32 ∧
      (∀ k : SlotId, count x k = 0 ∧ backoffOf x k = 0 ∧ (cred x k).free = 4 ∧ (cred x k).base = 1 ∧ (cred x k).cap = 3600 ∧
        Carried (attemptPage k) x ∧ Carried (credPage k) x ∧
        (k ≠ 0 → (cred x k).state = .empty ∧ (cred x k).verifier = none ∧ (cred x k).hard = 16 ∧
          ∀ b : BandId, (cred x k).row.get b = none)) ∧
      x.w.bands = s.w.bands ∧ x.w.secrets = s.w.secrets ∧ x.w.root = s.w.root ∧ x.keys = s.keys ∧ theft x = .wiping := by
  have run := exec_rebuildAdminJob (some salt) running
  rw [rebuildAdminDone_drawn (s := endJob s) activity good wiping] at run
  have attempts (k : SlotId) : Carried (attemptPage k) (slotsRebuilt salt (endJob s)) :=
    carried_queuePages_mem _ _ (mem_attemptPages k)
  have creds (k : SlotId) : Carried (credPage k) (slotsRebuilt salt (endJob s)) := carried_queuePages_mem _ _ (mem_credPages k)
  have slot' (k : SlotId) := cred_slotsRebuilt (s := endJob s) salt k
  have counts (k : SlotId) := count_slotsRebuilt (s := endJob s) salt k
  have frame := slotsRebuilt_frame salt (endJob s)
  generalize slotsRebuilt salt (endJob s) = t at *
  have slot (k : SlotId) : cred (setActivity (.rebuildNext 0) t) k = rebuiltSlot salt (endJob s) k := slot' k
  refine ⟨_, run, rfl, ?_, ?_, ?_, ?_, fun k => ⟨(counts k).1, (counts k).2, ?_, ?_, ?_,
    (attempts k).keep rfl rfl, (creds k).keep rfl rfl, fun nonzero => ?_⟩, ?_, ?_, ?_, ?_, ?_⟩
  · rw [slot]
    rfl
  · rw [slot]
    simp [rebuiltSlot, verifies, saltOf]
  · rw [slot]
    rfl
  · rw [slot]
    rfl
  · rw [slot, rebuiltSlot]
    split <;> rfl
  · rw [slot, rebuiltSlot]
    split <;> rfl
  · rw [slot, rebuiltSlot]
    split <;> rfl
  · have other : rebuiltSlot salt (endJob s) k = Credential.blank k := if_neg nonzero
    rw [slot, other]
    unfold Credential.blank
    rw [if_neg nonzero]
    refine ⟨rfl, rfl, ?_, fun b => ?_⟩
    · simp [Credential.fresh, nonzero]
    · exact Vector.getElem_replicate _
  · show t.w.bands = _
    rw [frame]
    rfl
  · show t.w.secrets = _
    rw [frame]
    rfl
  · show t.w.root = _
    rw [frame]
    rfl
  · show t.keys = _
    rw [frame]
    rfl
  · show t.w.watch.theft = _
    rw [frame]
    exact wiping

/-! ## REBUILD's band jobs (R140) -/

theorem rebuildBandDone_drawn (activity : s.wipe.activity = .rebuildBandJob b) (good : s.entropyFailed = false) :
    rebuildBandDone b (some z) (some kb) s =
      setActivity (if b = 15 then .rebuildConfigWait else .rebuildNext (b + 1)) (rebuildBand b z kb s) := by
  unfold rebuildBandDone
  rw [if_pos activity, drawn_good good, drawn_good good]

theorem rebuildBandDone_none (activity : s.wipe.activity = .rebuildBandJob b)
    (failed : d = none ∨ e = none ∨ s.entropyFailed = true) : rebuildBandDone b d e s = wipeNoEntropy s := by
  unfold rebuildBandDone
  rw [if_pos activity]
  rcases failed with failed | failed | failed
  · rw [drawn_none (.inl failed)]
  · rw [drawn_none (.inl failed)]
    split
    · rename_i found none'
      cases none'
    · rfl
  · rw [drawn_none (.inr failed)]

/-- A band's record as REBUILD leaves it. -/
def rebuiltRecord (kb : Secret) (s : State) : BandRecord :=
  { BandRecord.blank with openWrap := some { key := kb, under := .root (rootOf s) } }

/-- The ADMIN slot with a wrap of a rebuilt band. -/
def rebuiltAdmin (b : BandId) (kb : Secret) (s : State) : Credential :=
  { cred s 0 with row := put (cred s 0).row b (some { key := kb, under := .credential 0 (saltOf (cred s 0)) }) }

theorem rebuildBand_frame (b : BandId) (z kb : Secret) (s : State) : rebuildBand b z kb s =
    { s with
      w := { s.w with secrets := put s.w.secrets b (some z), bands := put s.w.bands b (rebuiltRecord kb s),
                      creds := put s.w.creds 0 (rebuiltAdmin b kb s) },
      ks := (rebuildBand b z kb s).ks } := by
  unfold rebuildBand
  rw [queuePages_frame]
  rfl

theorem carried_rebuildBand {q : PageId} (mem : q = secretPage b ∨ q = bandPage b ∨ q = credPage 0) :
    Carried q (rebuildBand b z kb s) := by
  refine carried_queuePages_mem _ _ ?_
  rcases mem with rfl | rfl | rfl <;> simp

/-- REBUILD's band job with its values. -/
theorem band_rebuilt (running : s.engine.running = some (.wipe, .rebuildBand b)) (activity : s.wipe.activity = .rebuildBandJob b)
    (good : s.entropyFailed = false) :
    ∃ x, exec (.rebuildBandJobComplete (some z) (some kb)) s = .next (settle x) ∧
      x.w.secrets = put s.w.secrets b (some z) ∧
      record x b = { start := 0, length := 0, rle := false, wle := false, relock := 0,
                     openWrap := some { key := kb, under := .root (rootOf s) } } ∧
      (cred x 0).row.get b = some { key := kb, under := .credential 0 (saltOf (cred s 0)) } ∧
      Carried (secretPage b) x ∧ Carried (bandPage b) x ∧ Carried (credPage 0) x ∧
      (∀ c : BandId, c ≠ b → record x c = record s c ∧ (cred x 0).row.get c = (cred s 0).row.get c) ∧
      x.wipe.activity = (if b = 15 then .rebuildConfigWait else .rebuildNext (b + 1)) ∧ x.w.config = s.w.config ∧
      x.keys = s.keys ∧ x.bands = s.bands := by
  have run := exec_rebuildBandJob (some z) (some kb) running
  rw [rebuildBandDone_drawn (s := endJob s) activity good] at run
  have frame := rebuildBand_frame b z kb (endJob s)
  have secretC : Carried (secretPage b) (rebuildBand b z kb (endJob s)) := carried_rebuildBand (.inl rfl)
  have recordC : Carried (bandPage b) (rebuildBand b z kb (endJob s)) := carried_rebuildBand (.inr (.inl rfl))
  have adminC : Carried (credPage 0) (rebuildBand b z kb (endJob s)) := carried_rebuildBand (.inr (.inr rfl))
  generalize rebuildBand b z kb (endJob s) = t at *
  have records (c : BandId) : record t c = if b = c then rebuiltRecord kb s else record s c := by
    rw [record, frame]
    exact get_put _ _ _ _
  have admin : cred t 0 = rebuiltAdmin b kb s := by
    rw [cred, frame]
    exact (get_put _ _ _ _).trans (if_pos rfl)
  have row (c : BandId) : (rebuiltAdmin b kb s).row.get c =
      if b = c then some { key := kb, under := .credential 0 (saltOf (cred s 0)) } else (cred s 0).row.get c := get_put _ _ _ _
  refine ⟨_, run, ?_, ?_, ?_, secretC.keep rfl rfl, recordC.keep rfl rfl, adminC.keep rfl rfl, fun c other => ⟨?_, ?_⟩, rfl, ?_,
    ?_, ?_⟩
  · show t.w.secrets = _
    rw [frame]
    rfl
  · show record t b = _
    rw [records, if_pos rfl]
    rfl
  · show (cred t 0).row.get b = _
    rw [admin, row, if_pos rfl]
  · show record t c = _
    rw [records, if_neg (Ne.symm other)]
  · show (cred t 0).row.get c = _
    rw [admin, row, if_neg (Ne.symm other)]
  · show t.w.config = _
    rw [frame]
    rfl
  · show t.keys = _
    rw [frame]
    rfl
  · show t.bands = _
    rw [frame]
    rfl

end

/-! # The end of REBUILD -/

section

variable {s t u x : State} {b c : BandId} {i j k : SlotId} {z kb salt : Secret} {d e : Draw} {q : PageId}

/-! ## The end of REBUILD (R140, R141, R153) -/

theorem configPage_ne : configPage ≠ watchPage ∧ configPage ≠ journalPage := by decide

/-- What the end of REBUILD leaves beyond the watch and the wipe. -/
theorem carriedConfig_goDone (carried : Carried configPage s) : Carried configPage (goDone s) := by
  have core : Carried configPage (theftCore .wiped s) :=
    (theftCore_watch (s := s) .wiped).carried configPage_ne.1 configPage_ne.2 carried
  refine (core.announce).congr ?_ ?_
  · unfold goDone
    rw [handOpenLoad_frame]
    rfl
  · unfold goDone
    rw [handOpenLoad_frame]
    rfl

theorem namePass_carried (n : Nat) (s : State) : Carried journalPage (namePass n s) := carried_queuePage_same _ _ _

theorem carriedConfig_namePass (n : Nat) (carried : Carried configPage s) : Carried configPage (namePass n s) :=
  carried_queuePage _ _ (carried.congr rfl rfl)

theorem storeResult_carried {n : Ended} {a b c : Nat} (carried : Carried q s) : Carried q (storeResult n a b c s) :=
  carried.keep rfl rfl

/-- The part as the end of REBUILD leaves its settings. -/
structure KeepsSettings (s t : State) : Prop where
  config : t.w.config = s.w.config
  permit : t.coverPermit = s.coverPermit
  meterOn : t.twu.meterOn = s.twu.meterOn
  tetherLost : t.twu.tetherLost = s.twu.tetherLost
  root : t.w.root = s.w.root
  secrets : t.w.secrets = s.w.secrets
  records : t.w.bands = s.w.bands
  creds : t.w.creds = s.w.creds
  page : Carried configPage s → Carried configPage t

theorem KeepsSettings.trans (h : KeepsSettings s t) (k : KeepsSettings t u) : KeepsSettings s u where
  config := k.config.trans h.config
  permit := k.permit.trans h.permit
  meterOn := k.meterOn.trans h.meterOn
  tetherLost := k.tetherLost.trans h.tetherLost
  root := k.root.trans h.root
  secrets := k.secrets.trans h.secrets
  records := k.records.trans h.records
  creds := k.creds.trans h.creds
  page := k.page ∘ h.page

theorem goDone_keepsSettings : KeepsSettings s (goDone s) := by
  have page := carriedConfig_goDone (s := s)
  have frame := goDone_frame (s := s)
  have meter : (goDone s).twu.meterOn = s.twu.meterOn ∧ (goDone s).twu.tetherLost = s.twu.tetherLost := by
    rw [frame]
    exact ⟨rfl, rfl⟩
  generalize goDone s = t at *
  refine ⟨?_, ?_, meter.1, meter.2, ?_, ?_, ?_, ?_, page⟩
  all_goals rw [frame]

theorem storeResult_keepsSettings (n : Ended) (a b c : Nat) : KeepsSettings s (storeResult n a b c s) :=
  ⟨rfl, rfl, rfl, rfl, rfl, rfl, rfl, rfl, storeResult_carried⟩

theorem namePass_keepsSettings (n : Nat) : KeepsSettings s (namePass n s) := by
  have page := carriedConfig_namePass (s := s) n
  have frame := namePass_frame (s := s) n
  generalize namePass n s = t at *
  refine ⟨?_, ?_, ?_, ?_, ?_, ?_, ?_, ?_, page⟩
  all_goals rw [frame]

theorem endRebuild_keepsSettings : KeepsSettings s (endRebuild s) := by
  unfold endRebuild rebuildEnds abandonScrub
  split
  · exact ⟨rfl, rfl, rfl, rfl, rfl, rfl, rfl, rfl, id⟩
  · split
    · exact goDone_keepsSettings
    · split
      · exact (storeResult_keepsSettings _ _ _ _).trans goDone_keepsSettings
      · exact namePass_keepsSettings 1

theorem rebuildConfig_frame (s : State) : rebuildConfig s =
    { s with w := { s.w with config := DriveConfig.default }, coverPermit := false, twu := meterOff s.twu,
             ks := (rebuildConfig s).ks } := by
  unfold rebuildConfig
  rw [queuePage_frame]

theorem carried_rebuildConfig (s : State) : Carried configPage (rebuildConfig s) := carried_queuePage_same _ _ _

/-- The drive configuration is reset behind the last band. -/
theorem config_resets (moves : WipeMoves s) (room : listsWaiter s.ks.room .wipe = false)
    (activity : s.wipe.activity = .rebuildConfigWait) :
    ∃ x, Follows s x ∧ x.w.config = DriveConfig.default ∧ x.coverPermit = false ∧
      x.twu.meterOn = false ∧ x.twu.tetherLost = false ∧ Carried configPage x ∧ x.w.root = s.w.root ∧
      x.w.secrets = s.w.secrets ∧ x.w.bands = s.w.bands ∧ x.w.creds = s.w.creds ∧
      (waits .wipe s = true → x.wipe.activity = .rebuildEnd ∧ x.w.plan = s.w.plan ∧ x.keys = s.keys ∧ x.bands = s.bands) := by
  have next : progressWipe s = rebuildConfigured s := by
    unfold progressWipe
    rw [activity]
    exact if_neg (by simp [room])
  have kept : KeepsSettings (setActivity .rebuildEnd (rebuildConfig s)) (rebuildConfigured s) := endRebuild_keepsSettings
  have waiting (waits' : waits .wipe s = true) : rebuildConfigured s = setActivity .rebuildEnd (rebuildConfig s) := by
    have still : waits .wipe (setActivity .rebuildEnd (rebuildConfig s)) = true := waits_queuePage _ _ waits'
    exact if_pos still
  have carried : Carried configPage (setActivity .rebuildEnd (rebuildConfig s)) := (carried_rebuildConfig s).keep rfl rfl
  have frame := rebuildConfig_frame s
  generalize rebuildConfig s = t at *
  have settings : (setActivity .rebuildEnd t).w = { s.w with config := DriveConfig.default } ∧
      (setActivity .rebuildEnd t).coverPermit = false ∧ (setActivity .rebuildEnd t).twu = meterOff s.twu ∧
      (setActivity .rebuildEnd t).keys = s.keys ∧ (setActivity .rebuildEnd t).bands = s.bands := by
    show t.w = _ ∧ t.coverPermit = _ ∧ t.twu = _ ∧ t.keys = _ ∧ t.bands = _
    rw [frame]
    exact ⟨rfl, rfl, rfl, rfl, rfl⟩
  obtain ⟨w, permit, twu, keys, bands⟩ := settings
  refine ⟨_, follows_progress moves next, ?_, ?_, ?_, ?_, kept.page carried, ?_, ?_, ?_, ?_, fun waits' => ?_⟩
  · rw [kept.config, w]
  · rw [kept.permit, permit]
  · rw [kept.meterOn, twu]
    rfl
  · rw [kept.tetherLost, twu]
    rfl
  · rw [kept.root, w]
  · rw [kept.secrets, w]
  · rw [kept.records, w]
  · rw [kept.creds, w]
  · rw [waiting waits', w]
    exact ⟨rfl, rfl, keys, bands⟩

/-- REBUILD ends once its pages are written. -/
theorem rebuild_ends (moves : WipeMoves s) (activity : s.wipe.activity = .rebuildEnd) (written : waits .wipe s = false) :
    ∃ x, Follows s x ∧ x.keys.cover = s.keys.cover ∧ x.keys.fill = s.keys.fill ∧
      (s.w.plan.passes = .times 0 → ReachesDone s x ∧ x.w.plan = s.w.plan ∧ x.wipe.ring = s.wipe.ring) ∧
      (s.w.plan.passes ≠ .times 0 → s.wipe.abandon = true → ReachesDone s x ∧
        StoresResult .abandoned (if s.w.plan.pass = 0 then 1 else s.w.plan.pass) s.w.plan.written s.w.plan.refused s x) ∧
      (s.w.plan.passes ≠ .times 0 → s.wipe.abandon = false → theft x = theft s ∧ x.wipe.activity = .passWait ∧
        x.w.plan = { s.w.plan with phase := .scrub, pass := 1, watermark := 0, written := 0, refused := 0 } ∧
        Carried journalPage x ∧ x.bands = s.bands) := by
  have next : progressWipe s = rebuildEnds s := by
    unfold progressWipe
    rw [activity]
    exact if_neg (by simp [written])
  by_cases none' : s.w.plan.passes = .times 0
  · have ends' : rebuildEnds s = goDone s := if_pos none'
    have frame := goDone_frame (s := s)
    refine ⟨goDone s, follows_progress moves (next.trans ends'), ?_, ?_, fun _ => ⟨goDone_reaches, ?_, ?_⟩,
      fun other => absurd none' other, fun other => absurd none' other⟩
    · rw [frame]
    · rw [frame]
    · rw [frame]
    · rw [frame]
  · cases abandon : s.wipe.abandon with
    | true =>
      have ends' : rebuildEnds s = abandonScrub s := (if_neg none').trans (if_pos abandon)
      have stored := storeResult_stores (s := s) .abandoned (if s.w.plan.pass = 0 then 1 else s.w.plan.pass) s.w.plan.written
        s.w.plan.refused
      have result := storeResult_frame (s := s) .abandoned (if s.w.plan.pass = 0 then 1 else s.w.plan.pass) s.w.plan.written
        s.w.plan.refused
      have done : abandonScrub s = goDone (storeResult .abandoned (if s.w.plan.pass = 0 then 1 else s.w.plan.pass)
        s.w.plan.written s.w.plan.refused s) := rfl
      generalize storeResult .abandoned (if s.w.plan.pass = 0 then 1 else s.w.plan.pass) s.w.plan.written s.w.plan.refused s =
        n at *
      have frame := goDone_frame (s := n)
      refine ⟨goDone n, follows_progress moves (next.trans (ends'.trans done)), ?_, ?_, fun now => absurd now none', fun _ _ => ⟨?_, ?_⟩,
        fun _ off => (by cases off)⟩
      · rw [frame, result]
      · rw [frame, result]
      · exact goDone_reaches.of_same (by rw [result]) (by rw [result]) (by rw [result]) (by rw [result]; rfl) (by rw [result])
      · exact stored.keep (by rw [frame]) (by rw [frame]) (goDone_notice 1)
    | false =>
      have ends' : rebuildEnds s = namePass 1 s := (if_neg none').trans (if_neg (by simp [abandon]))
      have frame := namePass_frame (s := s) 1
      refine ⟨namePass 1 s, follows_progress moves (next.trans ends'), ?_, ?_, fun now => absurd now none', fun _ on => (by cases on),
        fun _ _ => ⟨?_, ?_, ?_, namePass_carried 1 s, ?_⟩⟩
      · rw [frame]
      · rw [frame]
      · rw [theft, frame]
        rfl
      · rw [frame]
      · rw [frame]
      · rw [frame]

/-- Settles O55. -/
theorem rebuildBlanksSlotsAndBands : Obligations.RebuildBlanksSlotsAndBands := by
  unfold Obligations.RebuildBlanksSlotsAndBands
  refine ⟨fun s salt running activity good wiping => admin_rebuilt running activity good wiping, fun s b c d e which => ?_,
    fun s b z kb running activity good => band_rebuilt running activity good, fun s moves scrub =>
    ⟨fun waiting which => follows_progress moves ?_, fun room => ⟨fun b activity free => follows_progress moves ?_,
      fun activity => config_resets moves room activity⟩, fun activity written => rebuild_ends moves activity written⟩⟩
  · rcases which with ⟨running, activity, rfl, failed⟩ | ⟨running, activity, rfl, failed⟩
    · rw [exec_rebuildAdminJob d running, rebuildAdminDone_none (s := endJob s) activity failed]
      rfl
    · rw [exec_rebuildBandJob d e running, rebuildBandDone_none (s := endJob s) activity failed]
      rfl
  · unfold progressWipe
    rcases which with ⟨b, activity⟩ | activity
    · rw [activity]
      exact if_pos waiting
    · rw [activity]
      exact if_pos waiting
  · have free' : wipeBusy (setActivity (.rebuildBandJob b) s) = false := free
    unfold progressWipe
    rw [activity]
    dsimp only
    rw [if_neg (by simp [room]), handWipe_free _ free']
    rfl

end

/-! # The fill key begins the pass -/

section

variable {s t u x : State} {i : OrderSlot} {k : Secret} {d : Draw}

/-! ## The pass begins (R142, R143, R148) -/

/-- Issuing orders changes the order slots, the issue point and the outbound queue alone. -/
structure OrdersOnly (s t : State) : Prop where
  frame : t = { s with wipe := { s.wipe with orders := t.wipe.orders, issuePoint := t.wipe.issuePoint },
                       link := { s.link with outbound := t.link.outbound } }

theorem OrdersOnly.refl (s : State) : OrdersOnly s s := ⟨rfl⟩

theorem OrdersOnly.trans (h : OrdersOnly s t) (k : OrdersOnly t u) : OrdersOnly s u := ⟨by rw [k.frame, h.frame]⟩

theorem issueOne_ordersOnly (i : OrderSlot) (s : State) : OrdersOnly s (issueOne i s) := by
  unfold issueOne
  split
  · exact .refl s
  · split
    · exact ⟨rfl⟩
    · exact .refl s

theorem issueOrders_ordersOnly (s : State) : OrdersOnly s (issueOrders s) := by
  unfold issueOrders
  split
  · exact (((issueOne_ordersOnly 0 s).trans (issueOne_ordersOnly 1 _)).trans (issueOne_ordersOnly 2 _)).trans
      (issueOne_ordersOnly 3 _)
  · exact .refl s

theorem exec_fillKeyJob (d : Draw) (running : s.engine.running = some (.wipe, .fillKey)) :
    exec (.fillKeyJobComplete d) s = .next (settle (fillKeyDone d (endJob s))) := by
  show execFillKeyJobComplete d s = _
  unfold execFillKeyJobComplete
  rw [wipeRunning_of running]

/-- The part as a pass begins, before its orders. -/
def begun (k : Secret) (s : State) : State :=
  { s with
    keys := { s.keys with fill := loaded (.fill k) s.keys.fill },
    wipe := { s.wipe with activity := .scanning, running := true, issuePoint := s.w.plan.watermark,
                          written := s.w.plan.written, refused := s.w.plan.refused } }

theorem fillKeyDone_begins (activity : s.wipe.activity = .fillJob) (good : s.entropyFailed = false) :
    fillKeyDone (some k) s = endOrIssue (begun k s) := by
  unfold fillKeyDone
  rw [drawn_good good]
  dsimp only
  rw [if_pos activity]
  rfl

theorem fillKeyDone_none (activity : s.wipe.activity = .fillJob) (good : s.entropyFailed = false) :
    fillKeyDone none s = wipeNoEntropy s := by
  unfold fillKeyDone
  rw [drawn_good good]
  dsimp only
  rw [if_pos activity]

theorem endOrIssue_begun_over (orders : noOrders s = true) (spent : scrubEnd s ≤ s.w.plan.watermark) :
    endOrIssue (begun k s) = passEnd (begun k s) := by
  have orders' : noOrders (begun k s) = true := orders
  have over' : passOver (begun k s) = true := by
    unfold passOver
    rw [orders']
    exact decide_eq_true spent
  exact if_pos over'

theorem endOrIssue_begun_more (more : s.w.plan.watermark < scrubEnd s) :
    endOrIssue (begun k s) = issueOrders (begun k s) := by
  have left : decide (scrubEnd s ≤ s.w.plan.watermark) = false := decide_eq_false (Nat.not_le.mpr more)
  have going : passOver (begun k s) = false := by
    show (true && noOrders (begun k s) && decide (scrubEnd s ≤ s.w.plan.watermark)) = false
    rw [left, Bool.and_false]
  exact if_neg (by simp [going])

theorem absent_removed (key : MediaKey) (e : LiveKey) : (removed (loaded key e)).key = none := by
  unfold removed loaded
  split <;> split <;> simp_all

theorem lastPlan_reaches {ended : Ended} {a b : Nat} (closes : ClosesThePass ended a b s t)
    (last : s.w.plan.stop = true ∨ ∃ n : Fin 4, s.w.plan.passes = .times n ∧ s.w.plan.pass = n.val) :
    theft t = .wiped ∧ t.wipe.activity = .doneWait ∧ Carried watchPage t := by
  obtain ⟨wiped, activity, carried, -⟩ := closes.last last
  exact ⟨wiped, activity, carried⟩

/-- A pass resumed at the scrub end ends at once. -/
theorem fill_over (running : s.engine.running = some (.wipe, .fillKey)) (activity : s.wipe.activity = .fillJob)
    (good : s.entropyFailed = false) (scrub : ScrubInWiping s) (spent : scrubEnd s ≤ s.w.plan.watermark) :
    ∃ x, exec (.fillKeyJobComplete (some k)) s = .next (settle x) ∧ x.wipe.running = false ∧ present x .fill = false ∧
      StoresResult (if s.w.plan.stop then .stopped else .complete) s.w.plan.pass s.w.plan.written s.w.plan.refused s x ∧
      (s.w.plan.stop = true ∨ (∃ n : Fin 4, s.w.plan.passes = .times n ∧ s.w.plan.pass = n.val) →
        theft x = .wiped ∧ x.wipe.activity = .doneWait ∧ Carried watchPage x) := by
  have orders : noOrders (endJob s) = true := noOrders_of_activity scrub.endJob (by
    show s.wipe.activity ≠ _
    simp [activity])
  have run := exec_fillKeyJob (some k) running
  rw [fillKeyDone_begins (s := endJob s) activity good, endOrIssue_begun_over (s := endJob s) orders spent] at run
  have closes := passEnd_closes (s := begun k (endJob s)) (noOrders_iff.mp orders)
  generalize passEnd (begun k (endJob s)) = x at *
  refine ⟨x, run, closes.stopped, ?_, closes.stores.congr rfl rfl rfl rfl, fun last => lastPlan_reaches closes last⟩
  have gone : x.keys.fill.key = none := by
    rw [closes.fill]
    exact absent_removed _ _
  show (x.keys.fill.key).isSome = false
  rw [gone]
  rfl

/-- A pass with sectors left is given its orders. -/
theorem fill_begins (running : s.engine.running = some (.wipe, .fillKey)) (activity : s.wipe.activity = .fillJob)
    (good : s.entropyFailed = false) (more : s.w.plan.watermark < scrubEnd s) :
    ∃ x, exec (.fillKeyJobComplete (some k)) s = .next (settle x) ∧
      x.keys.fill = loaded (.fill k) s.keys.fill ∧
      x.wipe.activity = .scanning ∧ x.wipe.running = true ∧ x.wipe.written = s.w.plan.written ∧
      x.wipe.refused = s.w.plan.refused ∧ x.w = s.w ∧ x.keys.bands = s.keys.bands ∧ x.keys.cover = s.keys.cover ∧
      (linkUp s = false → x.wipe.orders = s.wipe.orders ∧ x.link = s.link ∧ x.wipe.issuePoint = s.w.plan.watermark) ∧
      (linkUp s = true → noOrders s = true → ∀ i : OrderSlot, x.wipe.orders.get i =
        if s.w.plan.watermark + 256 * i.val < scrubEnd s then
          some { pass := s.w.plan.pass, first := s.w.plan.watermark + 256 * i.val,
                 count := min 256 (scrubEnd s - (s.w.plan.watermark + 256 * i.val)), answered := false }
        else none) := by
  have run := exec_fillKeyJob (some k) running
  rw [fillKeyDone_begins (s := endJob s) activity good, endOrIssue_begun_more (s := endJob s) more] at run
  have only := issueOrders_ordersOnly (begun k (endJob s))
  refine ⟨_, run, ?_, ?_, ?_, ?_, ?_, ?_, ?_, ?_, fun down => ?_, fun up orders i => ?_⟩
  · rw [only.frame]
    rfl
  · rw [only.frame]
    rfl
  · rw [only.frame]
    rfl
  · rw [only.frame]
    rfl
  · rw [only.frame]
    rfl
  · rw [only.frame]
    rfl
  · rw [only.frame]
    rfl
  · rw [only.frame]
    rfl
  · have down' : linkUp (begun k (endJob s)) = false := down
    have still : issueOrders (begun k (endJob s)) = begun k (endJob s) := if_neg (by simp [down'])
    rw [still]
    exact ⟨rfl, rfl, rfl⟩
  · have issued := issueOrders_fresh (s := begun k (endJob s)) rfl up (noOrders_iff.mp orders)
    rw [issued.orders, if_pos (by omega)]
    rfl

theorem wipedWritten_frame (s : State) : wipedWritten s =
    { s with w := { s.w with plan := { s.w.plan with phase := .done } }, wipe := { s.wipe with activity := .idle },
             ks := (wipedWritten s).ks } := by
  unfold wipedWritten journalQueue setActivity
  rw [queuePage_frame]
  rfl

theorem carried_wipedWritten (s : State) : Carried journalPage (wipedWritten s) := by
  have queued : Carried journalPage (journalQueue (setPlan { s.w.plan with phase := .done } s)) := carried_queuePage_same _ _ _
  exact queued.keep rfl rfl

/-- Settles O56. -/
theorem fillKeyBeginsThePass : Obligations.FillKeyBeginsThePass := by
  unfold Obligations.FillKeyBeginsThePass
  refine ⟨fun s moves => ⟨fun activity written free => follows_progress moves ?_, fun activity written => ?_⟩,
    fun s k running activity good scrub spent => fill_over running activity good scrub spent,
    fun s k running activity good => ⟨fun more => fill_begins running activity good more, ?_⟩⟩
  · have free' : wipeBusy (setActivity .fillJob s) = false := free
    unfold progressWipe
    rw [activity]
    dsimp only
    rw [if_neg (by simp [written]), handWipe_free _ free']
    rfl
  · have next : progressWipe s = wipedWritten s := by
      unfold progressWipe
      rw [activity]
      exact if_neg (by simp [written])
    have frame := wipedWritten_frame s
    refine ⟨wipedWritten s, follows_progress moves next, ?_, ?_, carried_wipedWritten s, ?_, ?_, ?_⟩
    all_goals rw [frame]
  · rw [exec_fillKeyJob none running, fillKeyDone_none (s := endJob s) activity good]
    rfl

end

/-! # What start-up and what follows from an act leave as it is -/

/-! ## What start-up and what follows from an act leave as it is -/

/-- The store's pages, the slots and their backoffs, and the notices that stand. -/
structure Lasts (s t : State) : Prop where
  pages : t.ks.pages = s.ks.pages
  counts : t.w.counts = s.w.counts
  creds : t.w.creds = s.w.creds
  backoff : t.backoff = s.backoff
  notice : ∀ i, s.psp.notice.getLsbD i = true → t.psp.notice.getLsbD i = true

/-- What `Lasts` speaks of. -/
def lastView (s : State) := (s.ks.pages, s.w.counts, s.w.creds, s.backoff, s.psp.notice)

section

variable {s t u : State}

theorem Lasts.refl (s : State) : Lasts s s := ⟨rfl, rfl, rfl, rfl, fun _ => id⟩

theorem Lasts.trans (h : Lasts s t) (k : Lasts t u) : Lasts s u where
  pages := k.pages.trans h.pages
  counts := k.counts.trans h.counts
  creds := k.creds.trans h.creds
  backoff := k.backoff.trans h.backoff
  notice := fun i set' => k.notice i (h.notice i set')

theorem Lasts.same (h : lastView t = lastView s) : Lasts s t := by
  simp only [lastView, Prod.mk.injEq] at h
  obtain ⟨pages, counts, creds, backoff, notice⟩ := h
  exact ⟨pages, counts, creds, backoff, fun i set' => by rw [notice]; exact set'⟩

/-- What follows a change that `Lasts` does not speak of. -/
theorem Lasts.after (k : Lasts t u) (h : lastView t = lastView s) : Lasts s u := (Lasts.same h).trans k

theorem Lasts.ite {c : Prop} [Decidable c] (h : c → Lasts s t) (k : ¬c → Lasts s u) : Lasts s (if c then t else u) := by
  split
  · exact h ‹_›
  · exact k ‹_›

theorem Lasts.ofTraffic (h : TrafficOnly s t) : Lasts s t := by
  rw [h]
  exact .same rfl

theorem raise_lasts (bit : BitVec 4) : Lasts s (raise bit s) := by
  refine ⟨rfl, rfl, rfl, rfl, fun i set' => ?_⟩
  show (s.psp.notice ||| bit).getLsbD i = true
  rw [BitVec.getLsbD_or, set', Bool.true_or]

theorem queuePage_lasts (p : PageId) (ws : List Waiter) : Lasts s (queuePage p ws s) := by
  have pages := queuePage_pages p ws s
  rw [queuePage_frame] at pages ⊢
  exact ⟨pages, rfl, rfl, rfl, fun _ => id⟩

theorem queuePages_lasts (ps : List PageId) (ws : List Waiter) : Lasts s (queuePages ps ws s) := by
  induction ps generalizing s with
  | nil => exact .refl s
  | cons p ps ih => exact (queuePage_lasts p ws).trans ih

theorem serviceStore_lasts : Lasts s (serviceStore s) := by
  unfold serviceStore
  dsimp only
  split
  · exact .same rfl
  · split
    · split <;> exact .same rfl
    · exact .same rfl

theorem announce_lasts : Lasts s (announce s) := by
  unfold announce
  exact .ite (fun _ => (raise_lasts (s := handState s) _).after rfl) fun _ => .refl s

theorem theftCore_lasts (t : Theft) : Lasts s (theftCore t s) := by
  unfold theftCore
  rw [bandsAs_frame]
  exact (queuePage_lasts _ _).after rfl

theorem handWipe_lasts (j : Job) : Lasts s (handWipe j s) := by
  unfold handWipe
  exact .ite (fun _ => .same rfl) fun _ => .same rfl

theorem storeResult_lasts (e : Ended) (a b c : Nat) : Lasts s (storeResult e a b c s) :=
  (raise_lasts (s := ringResult e a b c s) _).after rfl

theorem goDone_lasts : Lasts s (goDone s) := by
  have wiped : Lasts s (announce (theftCore .wiped s)) := (theftCore_lasts .wiped).trans announce_lasts
  have handed : Lasts s (handOpenLoad (announce (theftCore .wiped s))) := by
    unfold handOpenLoad
    exact .ite (fun _ => .ite (fun _ => wiped.trans (.same rfl)) fun _ => wiped.trans (handWipe_lasts _)) fun _ => wiped
  exact handed.trans (t := handOpenLoad (announce (theftCore .wiped s))) (.same rfl)

theorem journalWait_lasts : Lasts s (journalWait s) := queuePage_lasts _ _

theorem journalQueue_lasts : Lasts s (journalQueue s) := queuePage_lasts _ _

theorem setPlan_lasts (p : Plan) : Lasts s (setPlan p s) := .same rfl

theorem wipeSet_lasts (x : WipeEngine) : Lasts s { s with wipe := x } := .same rfl

theorem setActivity_lasts (a : WipeActivity) : Lasts s (setActivity a s) := .same rfl

theorem namePass_lasts (n : Nat) : Lasts s (namePass n s) := ((setPlan_lasts _).trans (wipeSet_lasts _)).trans journalWait_lasts

/-! ### The Wipe Engine's orders and the transfers -/

theorem issueOrders_lasts : Lasts s (issueOrders s) := by
  rw [(issueOrders_ordersOnly s).frame]
  exact .same rfl

theorem passEnd_lasts : Lasts s (passEnd s) := by
  have stored : Lasts s (storeResult (if s.w.plan.stop then Ended.stopped else .complete) s.w.plan.pass s.wipe.written
      s.wipe.refused (removeFill (planTakes s))) := (storeResult_lasts _ _ _ _).after rfl
  unfold passEnd
  dsimp only
  generalize storeResult (if s.w.plan.stop then Ended.stopped else .complete) s.w.plan.pass s.wipe.written s.wipe.refused
    (removeFill (planTakes s)) = r at *
  exact .ite (fun _ => stored.trans (goDone_lasts.after rfl)) fun _ => stored.trans ((namePass_lasts _).after rfl)

theorem afterClosing_lasts (n : Nat) : Lasts s (afterClosing n s) := by
  have taken : Lasts s (checkpoint n s) := by
    unfold checkpoint
    exact .ite (fun _ => (journalQueue_lasts (s := planTakes s)).after rfl) fun _ => .refl s
  exact taken.trans (.ite (fun _ => passEnd_lasts) fun _ => issueOrders_lasts)

theorem orderClose_lasts (i : OrderSlot) (m n : Nat) : Lasts s (orderClose i m n s) := by
  unfold orderClose
  split
  · exact .refl s
  · exact (afterClosing_lasts _).after rfl

theorem account_lasts (tag : Byte) : Lasts s (account tag s) := by
  unfold account
  split
  · exact .refl s
  · split
    · dsimp only
      split
      · exact (orderClose_lasts _ _ _).after rfl
      · exact .same rfl
    · exact .refl s

theorem report_lasts (tag : Byte) (n a : Nat) (x : Option TStatus) : Lasts s (report tag n a x s) :=
  (account_lasts tag).after rfl

theorem takeFrom_lasts (l : LaneId) (q : List Segment) : Lasts s (takeFrom l q s) := by
  induction q generalizing s with
  | nil => exact .ofTraffic (setLane_traffic l _)
  | cons g q ih =>
    unfold takeFrom
    split
    · exact (report_lasts _ _ _ _).trans ih
    · exact .ofTraffic (startSegment_traffic l g q)

theorem laneReact_lasts (l : LaneId) : Lasts s (laneReact l s) := by
  unfold laneReact
  split
  · split
    · exact ((Lasts.ofTraffic (setLane_traffic l _)).trans (report_lasts _ _ _ _)).trans (takeFrom_lasts l _)
    · exact .refl s
  · exact .ite (fun _ => .refl s) fun _ => takeFrom_lasts l _

theorem lanesReact_lasts : Lasts s (lanesReact s) := (laneReact_lasts .a).trans (laneReact_lasts .b)

/-! ### The mailboxes -/

theorem setBox_lasts (p : Port) (h : Option Held) : Lasts s (setBox p h s) := by cases p <;> exact .same rfl

theorem handMailbox_lasts (p : Port) (j : Job) : Lasts s (handMailbox p j s) := by cases p <;> exact .same rfl

theorem nextAct_lasts (p : Port) (b : State) (x : ReqStage) : Lasts s (nextAct p b x s) := by
  unfold nextAct setNext
  split
  · exact setBox_lasts p _
  · exact .refl s

theorem bumpRange_lasts (b : BandId) : Lasts s (bumpRange b s) := by
  unfold bumpRange
  exact .ite (fun _ => .same rfl) fun _ => .same rfl

theorem setRecord_lasts (b : BandId) (r : BandRecord) : Lasts s (setRecord b r s) := .same rfl

theorem unhold_lasts (b : BandId) : Lasts s (unhold b s) := .same rfl

theorem settleBand_lasts (b : BandId) (k : Option MediaKey) : Lasts s (settleBand b k s) := .same rfl

theorem secretWritten_lasts (body : Body) (key : MediaKey) (wrap : Option Wrap) :
    Lasts s (secretWritten body key wrap s) := by
  unfold secretWritten
  split
  · exact (((((setRecord_lasts _ _).trans (bumpRange_lasts _)).trans (queuePage_lasts _ _)).trans (unhold_lasts _)).trans
      (settleBand_lasts _ _)).trans lanesReact_lasts
  · exact ((unhold_lasts _).trans (settleBand_lasts _ _)).trans lanesReact_lasts
  · exact .refl s

theorem advanceBox_lasts (p : Port) : Lasts s (advanceBox p s) := by
  unfold advanceBox
  split
  · exact .refl s
  · split
    · refine .ite (fun _ => .refl s) fun _ => ?_
      unfold handVerify
      split
      · exact (handMailbox_lasts p _).trans (setBox_lasts p _)
      · exact .refl s
    · exact .ite (fun _ => (handMailbox_lasts p _).trans (setBox_lasts p _)) fun _ => .refl s
    · exact .ite (fun _ => .refl s) fun _ => (secretWritten_lasts _ _ _).trans (nextAct_lasts _ _ _)
    · exact .refl s

theorem deliver_lasts (p : Port) (r : Response) : Lasts s (deliver p r s) := by
  unfold deliver
  dsimp only
  split
  · split <;> exact .same rfl
  · exact (raise_lasts _).after rfl

theorem progressBox_lasts (p : Port) : Lasts s (progressBox p s) := by
  have moved : Lasts s (roomMoved p s) := by
    unfold roomMoved
    split
    · exact .refl s
    · exact setBox_lasts p _
  have answered (u : State) : Lasts u (answerBox p u) := by
    unfold answerBox
    split
    · exact .refl u
    · split
      · exact .ite (fun _ => deliver_lasts p _) fun _ => .refl u
      · exact .refl u
  exact (moved.trans (advanceBox_lasts p)).trans (answered _)

/-! ### The Wipe Engine's phases and the arbiter -/

theorem coverReload_lasts (k : MediaKey) : Lasts s (coverReload k s) :=
  (lanesReact_lasts (s := loadCover k s)).after rfl

theorem abandonScrub_lasts : Lasts s (abandonScrub s) := (storeResult_lasts _ _ _ _).trans goDone_lasts

theorem endRebuild_lasts : Lasts s (endRebuild s) :=
  .ite (fun _ => .refl s) fun _ => .ite (fun _ => goDone_lasts) fun _ => .ite (fun _ => abandonScrub_lasts) fun _ =>
    namePass_lasts _

theorem rebuildConfigured_lasts : Lasts s (rebuildConfigured s) := by
  have reset : Lasts s (rebuildConfig s) := (queuePage_lasts _ _).after rfl
  exact (reset.trans (setActivity_lasts .rebuildEnd)).trans endRebuild_lasts

theorem activityHands_lasts (a : WipeActivity) (j : Job) : Lasts s (handWipe j (setActivity a s)) :=
  (setActivity_lasts a).trans (handWipe_lasts j)

theorem progressWipe_lasts : Lasts s (progressWipe s) := by
  unfold progressWipe
  cases s.wipe.activity with
  | rootWait => exact .ite (fun _ => .refl s) fun _ => activityHands_lasts _ _
  | coverZeroWait => exact .ite (fun _ => .refl s) fun _ => activityHands_lasts _ _
  | rootWrite k =>
    refine .ite (fun _ => .refl s) fun _ => ?_
    exact (((coverReload_lasts k).trans (setPlan_lasts _)).trans journalWait_lasts).trans (setActivity_lasts _)
  | rebuildWait => exact .ite (fun _ => .ite (fun _ => activityHands_lasts _ _) fun _ => activityHands_lasts _ _) fun _ => .refl s
  | rebuildRootWrite k =>
    exact .ite (fun _ => .refl s) fun _ => ((coverReload_lasts k).trans (wipeSet_lasts _)).trans (handWipe_lasts _)
  | rebuildNext b => exact .ite (fun _ => .refl s) fun _ => activityHands_lasts _ _
  | rebuildConfigWait => exact .ite (fun _ => .refl s) fun _ => rebuildConfigured_lasts
  | rebuildEnd => exact endRebuild_lasts
  | passWait => exact .ite (fun _ => .refl s) fun _ => activityHands_lasts _ _
  | doneWait =>
    exact .ite (fun _ => .refl s) fun _ => ((setPlan_lasts _).trans journalQueue_lasts).trans (setActivity_lasts _)
  | _ => exact .refl s

theorem handHeldWipe_lasts : Lasts s (handHeldWipe s) := by
  unfold handHeldWipe
  split
  · exact .ite (fun _ => .refl s) fun _ => .same rfl
  · exact .refl s

theorem grant_lasts : Lasts s (grant s) := by
  have mailbox (p : Port) (j : Job) : Lasts s (grantMailbox p j s) := by
    have taken : Lasts s { withdraw p s with
        engine := { (withdraw p s).engine with running := some (.mailbox p, j), lastServed := p } } := by
      cases p <;> exact .same rfl
    unfold grantMailbox markStarted
    dsimp only
    split
    · exact taken.trans (setBox_lasts p _)
    · exact taken
  unfold grant
  split
  · exact .refl s
  · split
    · exact .same rfl
    · split
      · exact .same rfl
      · split
        · exact .same rfl
        · split
          · exact mailbox _ _
          · split
            · exact mailbox _ _
            · exact .refl s

/-- What follows from an act changes no page of the store, no slot and no backoff, and clears no notice. -/
theorem settle_lasts : Lasts s (settle s) :=
  (((((serviceStore_lasts.trans (progressBox_lasts .link)).trans (progressBox_lasts .side)).trans progressWipe_lasts).trans
    serviceStore_lasts).trans handHeldWipe_lasts).trans grant_lasts

end

/-! # The writer's service and a completed write -/

/-! ## The writer takes its next page (R158, R159) -/

/-- The store with its waiting entries dealt out, the first of them to the queue, and with its writer. -/
def dealt (q : List QEntry) (w : Option Writing) (s : State) : State :=
  { s with ks := { pages := s.ks.pages, queue := q.take 16, room := q.drop 16, writer := w } }

/-- What the writer's service leaves to wait and to write. -/
structure Served (s : State) (q : List QEntry) (w : Option Writing) : Prop where
  stays : s.ks.writer ≠ none ∨ s.supplyOk = false → w = s.ks.writer ∧ q = s.ks.queue ++ s.ks.room
  cancels : s.ks.writer = none → s.supplyOk = true →
    (∀ d ∈ s.ks.queue ++ s.ks.room, pageOf s d.page = committed s d.page) → w = none ∧ q = []
  takes : s.ks.writer = none → s.supplyOk = true → ∀ (pre : List QEntry) (e : QEntry) (es : List QEntry),
    s.ks.queue ++ s.ks.room = pre ++ e :: es → (∀ d ∈ pre, pageOf s d.page = committed s d.page) →
    pageOf s e.page ≠ committed s e.page →
    w = some { page := e.page, content := pageOf s e.page, waiters := e.waiters } ∧ q = es

section

variable {s : State}

theorem skipCancelled_append {pre : List QEntry} (es : List QEntry)
    (gone : ∀ d ∈ pre, pageOf s d.page = committed s d.page) : skipCancelled s (pre ++ es) = skipCancelled s es := by
  induction pre with
  | nil => rfl
  | cons d pre ih =>
    obtain ⟨first, rest⟩ := List.forall_mem_cons.mp gone
    have cancel : cancelled s d = true := by simp [cancelled, first]
    exact (if_pos cancel).trans (ih rest)

theorem skipCancelled_all {es : List QEntry} (gone : ∀ d ∈ es, pageOf s d.page = committed s d.page) :
    skipCancelled s es = [] := by
  have all := skipCancelled_append [] gone
  rwa [List.append_nil] at all

theorem skipCancelled_takes {pre es : List QEntry} {e : QEntry} (gone : ∀ d ∈ pre, pageOf s d.page = committed s d.page)
    (kept : pageOf s e.page ≠ committed s e.page) : skipCancelled s (pre ++ e :: es) = e :: es := by
  rw [skipCancelled_append _ gone]
  exact if_neg (by simp [cancelled, kept])

theorem serviceStore_stays (stay : s.ks.writer ≠ none ∨ s.supplyOk = false) :
    serviceStore s = dealt (s.ks.queue ++ s.ks.room) s.ks.writer s := by
  unfold serviceStore dealt
  dsimp only
  split
  · rename_i busy
    rw [busy]
    rfl
  · rename_i free
    rw [if_neg (by simpa [free] using stay), free]
    rfl

theorem serviceStore_free (free : s.ks.writer = none) (supply : s.supplyOk = true) :
    serviceStore s = (match skipCancelled s (s.ks.queue ++ s.ks.room) with
      | [] => dealt [] none s
      | e :: es => dealt es (some { page := e.page, content := pageOf s e.page, waiters := e.waiters }) s) := by
  unfold serviceStore dealt
  dsimp only
  split
  · rename_i busy
    exact absurd (free.symm.trans busy) (by simp)
  · rw [if_pos supply]
    cases skipCancelled s (s.ks.queue ++ s.ks.room) with
    | nil => dsimp only; rw [free]; rfl
    | cons e es => rfl

/-- The writer's service deals out what waits, and leaves the writer at work or nothing to take. -/
theorem serviceStore_serves : ∃ q w, serviceStore s = dealt q w s ∧ Served s q w ∧
    (w ≠ none ∨ s.supplyOk = false ∨ q = []) := by
  by_cases stay : s.ks.writer ≠ none ∨ s.supplyOk = false
  · refine ⟨_, _, serviceStore_stays stay, ⟨fun _ => ⟨rfl, rfl⟩, ?_, ?_⟩, stay.imp_right .inl⟩
    · exact fun free on => absurd stay (by simp [free, on])
    · exact fun free on => absurd stay (by simp [free, on])
  · have free : s.ks.writer = none := not_not.mp fun busy => stay (.inl busy)
    have supply : s.supplyOk = true := (Bool.not_eq_false _).mp fun off => stay (.inr off)
    have service := serviceStore_free free supply
    cases left : skipCancelled s (s.ks.queue ++ s.ks.room) with
    | nil =>
      rw [left] at service
      refine ⟨[], none, service, ⟨fun h => absurd h stay, fun _ _ _ => ⟨rfl, rfl⟩, fun _ _ pre e es split gone kept => ?_⟩,
        .inr (.inr rfl)⟩
      rw [split, skipCancelled_takes gone kept] at left
      exact absurd left (List.cons_ne_nil _ _)
    | cons e es =>
      rw [left] at service
      refine ⟨es, _, service, ⟨fun h => absurd h stay, fun _ _ gone => ?_, fun _ _ pre e' es' split gone kept => ?_⟩,
        .inl (by simp)⟩
      · rw [skipCancelled_all gone] at left
        exact absurd left.symm (List.cons_ne_nil _ _)
      · rw [split, skipCancelled_takes gone kept] at left
        obtain ⟨rfl, rfl⟩ := List.cons.inj left
        exact ⟨rfl, rfl⟩

theorem storeQuiet_dealt {q : List QEntry} {w : Option Writing} (rest : w ≠ none ∨ s.supplyOk = false ∨ q = []) :
    storeQuiet (dealt q w s) = true := by
  have room : (q.drop 16).isEmpty = true ∨ (q.take 16).length = Config.storeRoom := by
    by_cases short : q.length ≤ 16
    · exact .inl (by simp [List.drop_of_length_le short])
    · exact .inr (by rw [List.length_take]; exact Nat.min_eq_left (by omega))
  have idle : w.isSome = true ∨ s.supplyOk = false ∨ (q.take 16).isEmpty = true := by
    rcases rest with busy | off | nothing
    · exact .inl (Option.isSome_iff_ne_none.mpr busy)
    · exact .inr (.inl off)
    · exact .inr (.inr (by rw [nothing]; rfl))
  unfold storeQuiet dealt
  dsimp only
  simp only [Bool.and_eq_true, Bool.or_eq_true, decide_eq_true_eq, Bool.not_eq_true', or_assoc]
  exact ⟨⟨by rw [List.length_take]; exact Nat.min_le_left _ _, room⟩, idle⟩

/-- With no request held and no job to hand, the writer's service is all that follows from an act. -/
theorem settle_dealt {q : List QEntry} {w : Option Writing} (link : s.linkBox = none) (side : s.sideBox = none)
    (idle : s.wipe.activity = .idle) (engine : engineQuiet s = true) (kept : s.wipe.toHand = none ∨ wipeBusy s = true)
    (service : serviceStore s = dealt q w s) (rest : w ≠ none ∨ s.supplyOk = false ∨ q = []) : settle s = dealt q w s := by
  have held : handHeldWipe (dealt q w s) = dealt q w s := by
    cases waiting : s.wipe.toHand with
    | none => exact handHeldWipe_none waiting
    | some j =>
      have busy : wipeBusy s = true := kept.resolve_left (by simp [waiting])
      exact handHeldWipe_back (j := j) waiting (by unfold heldBack; exact Bool.or_eq_true_iff.mpr (.inl busy))
  have boxes (p : Port) : progressBox p (dealt q w s) = dealt q w s :=
    progressBox_quiet (by cases p <;> simp [boxQuiet, box, dealt, link, side])
  unfold settle
  rw [service, boxes, boxes, progressWipe_idle (s := dealt q w s) idle, serviceStore_quiet _ (storeQuiet_dealt rest), held]
  exact grant_congr_quiet engine rfl

/-! ## A start-up that waited for the writer -/

theorem completeWrite_eq {x : Writing} (writing : s.ks.writer = some x) : completeWrite s =
    { s with ks := { s.ks with pages := put s.ks.pages x.page (writtenAs x.content), writer := none } } := by
  unfold completeWrite
  rw [writing]

theorem get_completeWrite {x : Writing} (writing : s.ks.writer = some x) (q : PageId) :
    (completeWrite s).ks.pages.get q = if q = x.page then writtenAs x.content else s.ks.pages.get q := by
  rw [completeWrite_eq writing]
  exact (get_put _ _ _ _).trans (if_congr eq_comm rfl rfl)

/-! ## What start-up's steps keep -/

theorem storeLossPlan_keeps : Keeps s (storeLossPlan s) := by
  refine Keeps.trans ?_ journalWait_keeps
  exact .ofPending (by simp [setPlan])

theorem lossStep_keeps : Keeps s (lossStep s) := by
  unfold lossStep
  refine Keeps.ite (.refl s) (Keeps.ite ?_ (queuePages_keeps _ _))
  have wiping : Keeps s (setWatch (watchAs .wiping s.w.watch) s) := .ofPending (by simp [setWatch])
  exact ((wiping.trans (queuePages_keeps _ _)).trans (queuePage_keeps _ _)).trans storeLossPlan_keeps

theorem resumeRoot_keeps : Keeps s (resumeRoot s) :=
  ((wipeSet_keeps _).trans (queuePage_keeps _ _)).trans journalWait_keeps

theorem resumeScrub_keeps : Keeps s (resumeScrub s) := by
  unfold resumeScrub
  refine Keeps.ite ((storeResult_keeps _ _ _ _).trans goDone_keeps) (Keeps.ite (namePass_keeps _) (wipeSet_keeps _))

theorem resumeRootLost_keeps : Keeps s (resumeRootLost s) := by
  unfold resumeRootLost
  refine Keeps.ite ((wipeSet_keeps _).trans (wipeSet_keeps _)) ?_
  exact (((wipeSet_keeps _).trans (setPlan_keeps _)).trans journalWait_keeps).trans (wipeSet_keeps _)

theorem resumeFresh_keeps : Keeps s (resumeFresh s) :=
  ((setPlan_keeps _).trans (wipeSet_keeps _)).trans resumeRoot_keeps

theorem resumeStep_keeps : Keeps s (resumeStep s) := by
  unfold resumeStep
  refine Keeps.ite ?_ (Keeps.ite (.refl s) (Keeps.ite resumeFresh_keeps (Keeps.ite resumeRootLost_keeps ?_)))
  · exact Keeps.ite (.refl s) ((setPlan_keeps _).trans journalQueue_keeps)
  · split
    · exact resumeRoot_keeps
    · exact wipeSet_keeps _
    · exact resumeScrub_keeps

theorem evaluate_keeps (i : Indicator) : Keeps s (evaluate i s) := Keeps.ite (assertIndicator_keeps i) (.refl s)

theorem meterStep_keeps : Keeps s (meterStep s) := by
  have meters : Keeps s (startMeters s) := .ofPending (by simp [startMeters])
  exact (((meters.trans (evaluate_keeps _)).trans (evaluate_keeps _)).trans (evaluate_keeps _)).trans (evaluate_keeps _)

theorem entropyStep_keeps : Keeps s (entropyStep s) := by
  have test : Keeps s { s with entropyFailed := !s.entropyTest } := .ofPending (by simp)
  exact Keeps.ite (test.trans ((theftCore_keeps .wiping).trans storeLossPlan_keeps)) test

theorem watchStep_mode : (watchStep s).mode = s.mode := by
  unfold watchStep
  dsimp only
  split
  · rfl
  · exact (queuePage_keeps _ _).mode

/-! ## What start-up's steps leave as it is -/

theorem changeTheft_lasts (t : Theft) : Lasts s (changeTheft t s) := ((theftCore_lasts t).trans lanesReact_lasts).trans announce_lasts

theorem enterWiping_lasts (c : Cause) (p : Passes) : Lasts s (enterWiping c p s) := by
  have begins (u : State) : Lasts u (wipeBegin c p u) := journalWait_lasts.after rfl
  exact (((theftCore_lasts .wiping).trans (begins _)).trans lanesReact_lasts).trans announce_lasts

theorem enterAlarm_lasts : Lasts s (enterAlarm s) := by
  unfold enterAlarm
  split
  · exact .ite (fun _ => enterWiping_lasts _ _) fun _ => changeTheft_lasts _
  · exact changeTheft_lasts _

theorem enterSuspect_lasts (i : Indicator) : Lasts s (enterSuspect i s) := by
  have suspects (n : Nat) : Lasts s (suspectCore i n s) := (queuePage_lasts _ _).after rfl
  unfold enterSuspect
  split
  · exact .ite (fun _ => enterAlarm_lasts) fun _ => (suspects _).trans announce_lasts
  · exact .refl s

theorem evaluate_lasts (i : Indicator) : Lasts s (evaluate i s) := by
  refine .ite (fun _ => ?_) fun _ => .refl s
  unfold assertIndicator
  refine .ite (fun _ => ?_) fun _ => .refl s
  split
  · exact enterSuspect_lasts i
  · exact .ite (fun _ => .refl s) fun _ => enterAlarm_lasts
  · exact .refl s

theorem storeLossPlan_lasts : Lasts s (storeLossPlan s) := journalWait_lasts.after rfl

theorem lossStep_lasts : Lasts s (lossStep s) := by
  unfold lossStep
  refine .ite (fun _ => .refl s) fun _ => .ite (fun _ => ?_) fun _ => queuePages_lasts _ _
  have wiping : Lasts s (setWatch (watchAs .wiping s.w.watch) s) := .same rfl
  exact ((wiping.trans (queuePages_lasts _ _)).trans (queuePage_lasts _ _)).trans storeLossPlan_lasts

theorem watchStep_lasts : Lasts s (watchStep s) := by
  unfold watchStep
  exact .ite (fun _ => .same rfl) fun _ => (queuePage_lasts _ _).after rfl

theorem resumeRoot_lasts : Lasts s (resumeRoot s) :=
  ((wipeSet_lasts _).trans (queuePage_lasts _ _)).trans journalWait_lasts

theorem resumeScrub_lasts : Lasts s (resumeScrub s) :=
  .ite (fun _ => abandonScrub_lasts) fun _ => .ite (fun _ => namePass_lasts _) fun _ => wipeSet_lasts _

theorem resumeStep_lasts : Lasts s (resumeStep s) := by
  unfold resumeStep
  refine .ite (fun _ => ?_) fun _ => .ite (fun _ => .refl s) fun _ => .ite (fun _ => ?_) fun _ => .ite (fun _ => ?_) fun _ => ?_
  · exact .ite (fun _ => .refl s) fun _ => journalQueue_lasts.after rfl
  · exact resumeRoot_lasts.after rfl
  · exact .ite (fun _ => .same rfl) fun _ =>
      (((wipeSet_lasts _).trans (setPlan_lasts _)).trans journalWait_lasts).trans (wipeSet_lasts _)
  · split
    · exact resumeRoot_lasts
    · exact wipeSet_lasts _
    · exact resumeScrub_lasts

theorem meterStep_lasts : Lasts s (meterStep s) := by
  have meters : Lasts s (startMeters s) := .same rfl
  exact (((meters.trans (evaluate_lasts _)).trans (evaluate_lasts _)).trans (evaluate_lasts _)).trans (evaluate_lasts _)

theorem entropyStep_lasts : Lasts s (entropyStep s) := by
  have test : Lasts s { s with entropyFailed := !s.entropyTest } := .same rfl
  exact .ite (fun _ => test.trans ((theftCore_lasts .wiping).trans storeLossPlan_lasts)) fun _ => test

/-- Steps 8 to 10 leave the pages, the slots and the backoffs. -/
theorem startEnd_lasts : Lasts s (startEnd s) :=
  ((resumeStep_lasts.trans meterStep_lasts).trans entropyStep_lasts).trans (.same rfl)

/-- Steps 3 to 5 leave the pages and the slots. -/
theorem startLocked_lasts : Lasts s (watchStep (lossStep s)) := lossStep_lasts.trans watchStep_lasts

theorem laterSteps_pages : (laterSteps s).ks.pages = s.ks.pages := by
  rw [laterSteps_eq]
  exact (startEnd_lasts.pages).trans (startLocked_lasts (s := s)).pages

theorem laterSteps_mode : (laterSteps s).mode = s.mode := by
  rw [laterSteps_eq]
  calc (entropyStep (meterStep (resumeStep (startBase s)))).mode
      = (startBase s).mode := ((resumeStep_keeps.trans meterStep_keeps).trans entropyStep_keeps).mode
    _ = (watchStep (lossStep s)).mode := rfl
    _ = s.mode := watchStep_mode.trans lossStep_keeps.mode

end

section

variable {s : State}

theorem startUp_runs {i : Identity} (identity : s.ks.pages.get 0 = .intact (.identity i)) :
    startUp s = laterSteps (loadStep i { s with mode := .keyJobs }) := by
  unfold startUp
  rw [identity]
  rfl

theorem loadStep_stored (i : Identity) : (loadStep i s).mode = s.mode ∧ (loadStep i s).ks = s.ks := by
  unfold loadStep
  split <;> exact ⟨rfl, rfl⟩

/-- A start-up that waited for the writer begins when the page is written; page 0 stands as it was. -/
theorem write_begins_startup {x : Writing} (writing : s.ks.writer = some x) (waiting : s.mode = .writerWait) {i : Identity}
    (other : x.page ≠ 0) (identity : s.ks.pages.get 0 = .intact (.identity i)) :
    ∃ t, exec .pageWriteComplete s = .next t ∧ t.mode = .keyJobs ∧
      ∀ q : PageId, t.ks.pages.get q = if q = x.page then writtenAs x.content else s.ks.pages.get q := by
  have run : exec .pageWriteComplete s = .next (settle (startUp (completeWrite s))) := by
    show execPageWriteComplete s = _
    unfold execPageWriteComplete
    rw [writing]
    exact if_pos waiting
  have begins := startUp_runs (((get_completeWrite writing 0).trans (if_neg (Ne.symm other))).trans identity)
  refine ⟨_, run, ?_, fun q => ?_⟩
  · rw [settle_keeps.mode, begins, laterSteps_mode, (loadStep_stored i).1]
  · rw [settle_lasts.pages, begins, laterSteps_pages, (loadStep_stored i).2]
    exact get_completeWrite writing q

/-- Settles O57. -/
theorem writeCompletes : Obligations.WriteCompletes := by
  refine ⟨fun s link side idle engine kept => ?_, fun s x writing => ⟨fun mode => ?_, fun waiting i other identity => ?_⟩⟩
  · obtain ⟨q, w, service, serves, rest⟩ := serviceStore_serves (s := s)
    refine ⟨q, w, settle_dealt link side idle engine kept service rest, serves.stays, fun free supply => ?_⟩
    exact ⟨serves.cancels free supply, serves.takes free supply⟩
  · rw [exec_pageWrite writing mode, completeWrite_eq writing]
    unfold writtenAs
    cases x.content <;> rfl
  · obtain ⟨t, run, ready, pages⟩ := write_begins_startup writing waiting other identity
    refine ⟨t, run, ready, fun q => (pages q).trans ?_⟩
    unfold writtenAs
    cases x.content <;> rfl

end

/-! # The completion of start-up -/

/-! ## Start-up is complete (R63, R168, R181) -/

/-- What the completion of start-up makes of the part: READY, with the link's first messages and the notices. -/
structure Completes (s t : State) : Prop where
  frame : t = { s with mode := .ready,
                       wipe := { s.wipe with orders := t.wipe.orders, issuePoint := t.wipe.issuePoint },
                       link := { s.link with outbound := t.link.outbound },
                       psp := { s.psp with notice := t.psp.notice } }
  announces : s.link.outbound = [] → t.link.outbound.head? = some (.state (theft s) (shownCause s))
  changed : theft s ≠ s.startup.restored → t.psp.notice.getLsbD 0 = true
  result : (s.wipe.ring.get 0).isSome = true → t.psp.notice.getLsbD 1 = true
  loss : s.startup.lost ≠ [] → t.psp.notice.getLsbD 3 = true

section

variable {s t : State}

theorem issueOne_appends (i : OrderSlot) (s : State) : ∃ l, (issueOne i s).link.outbound = s.link.outbound ++ l := by
  unfold issueOne
  split
  · exact ⟨[], (List.append_nil _).symm⟩
  · split
    · exact ⟨_, rfl⟩
    · exact ⟨[], (List.append_nil _).symm⟩

theorem issueOrders_appends (s : State) : ∃ l, (issueOrders s).link.outbound = s.link.outbound ++ l := by
  unfold issueOrders
  split
  · obtain ⟨a, first⟩ := issueOne_appends 0 s
    obtain ⟨b, second⟩ := issueOne_appends 1 (issueOne 0 s)
    obtain ⟨c, third⟩ := issueOne_appends 2 (issueOne 1 (issueOne 0 s))
    obtain ⟨d, fourth⟩ := issueOne_appends 3 (issueOne 2 (issueOne 1 (issueOne 0 s)))
    exact ⟨a ++ b ++ c ++ d, by rw [fourth, third, second, first]; simp only [List.append_assoc]⟩
  · exact ⟨[], (List.append_nil _).symm⟩

/-- The bits that the completion of start-up sets in the notice byte. -/
def startupNotice (s : State) : BitVec 4 :=
  (if theft s = s.startup.restored then 0 else noticeTheft) |||
    ((if resultStored s then noticeResult else 0) ||| if s.startup.lost.isEmpty then 0 else noticeLoss)

theorem raise_zero (s : State) : raise 0 s = s := by
  have same : s.psp.notice ||| 0 = s.psp.notice := BitVec.or_zero
  unfold raise
  rw [same]

theorem raise_raise (a b : BitVec 4) (s : State) : raise b (raise a s) = raise (a ||| b) s := by
  unfold raise
  rw [← BitVec.or_assoc]

/-- A notice bit that is raised on a condition. -/
theorem raise_unless (c : Prop) [Decidable c] (bit : BitVec 4) (s : State) :
    (if c then s else raise bit s) = raise (if c then 0 else bit) s := by
  split
  · rw [raise_zero]
  · rfl

theorem raise_when (c : Prop) [Decidable c] (bit : BitVec 4) (s : State) :
    (if c then raise bit s else s) = raise (if c then bit else 0) s := by
  split
  · rfl
  · rw [raise_zero]

theorem startupComplete_eq (s : State) : startupComplete s =
    raise (startupNotice s) (issueOrders (handState { s with mode := .ready })) := by
  have only := (issueOrders_ordersOnly (handState { s with mode := .ready })).frame
  unfold startupComplete
  generalize issueOrders (handState { s with mode := .ready }) = t at *
  have same : theft t = theft s ∧ t.startup = s.startup ∧ resultStored t = resultStored s := by
    rw [only]
    exact ⟨rfl, rfl, rfl⟩
  obtain ⟨theft', startup, result⟩ := same
  have result' (n : BitVec 4) : resultStored (raise n t) = resultStored t := rfl
  unfold startupNotice
  rw [← theft', ← startup, ← result, ← raise_raise, ← raise_raise]
  dsimp only
  rw [raise_unless (theft t = t.startup.restored), raise_when, result', raise_unless, raise_startup, raise_startup]

theorem startupComplete_completes (s : State) : Completes s (startupComplete s) := by
  have only := (issueOrders_ordersOnly (handState { s with mode := .ready })).frame
  obtain ⟨l, appended⟩ := issueOrders_appends (handState { s with mode := .ready })
  rw [startupComplete_eq]
  generalize issueOrders (handState { s with mode := .ready }) = t at *
  have kept : t.psp = s.psp := by rw [only]; rfl
  have bit (i : Nat) (b : BitVec 4) (set' : b.getLsbD i = true) : (t.psp.notice ||| b).getLsbD i = true := by
    rw [BitVec.getLsbD_or, set', Bool.or_true]
  refine ⟨by unfold raise; rw [only]; rfl, fun empty => ?_, fun moved => ?_, fun stored => ?_, fun lost => ?_⟩
  · show t.link.outbound.head? = _
    rw [appended]
    show (placeState (stateMsg { s with mode := .ready }) s.link.outbound ++ l).head? = _
    rw [empty]
    rfl
  · refine bit 0 _ ?_
    unfold startupNotice
    rw [if_neg moved, BitVec.getLsbD_or]
    rfl
  · refine bit 1 _ ?_
    unfold startupNotice resultStored
    rw [if_pos stored, BitVec.getLsbD_or, BitVec.getLsbD_or]
    exact Bool.or_true _
  · refine bit 3 _ ?_
    unfold startupNotice
    rw [if_neg (c := s.startup.lost.isEmpty = true) (by rw [List.isEmpty_iff]; exact lost), BitVec.getLsbD_or, BitVec.getLsbD_or]
    exact (congrArg (or _) (Bool.or_true _)).trans (Bool.or_true _)

theorem exec_startupKeyJob {bs : List BandId} (running : s.engine.running = some (.startup, .startupKey bs)) :
    exec .startupKeyJobComplete s = .next (settle (startupKeyDone bs (endJob s))) := by
  show execStartupKeyJobComplete s = _
  unfold execStartupKeyJobComplete
  rw [running]

theorem exec_startupDrawJob (ds : List Draw) (running : s.engine.running = some (.startup, .startupDraw)) :
    exec (.startupDrawJobComplete ds) s = .next (settle (startupDrawDone ds (endJob s))) := by
  show execStartupDrawJobComplete ds s = _
  unfold execStartupDrawJobComplete
  rw [running]

theorem needsDraw_iff : needsDraw s = true ↔ s.entropyFailed = false ∧
    ((s.startup.firstStart = true ∧ s.w.root = none) ∨ ∃ b : BandId, hasSecret s b = false) := by
  unfold needsDraw entropyGood
  rw [Bool.and_eq_true, Bool.or_eq_true, Bool.and_eq_true, Bool.not_eq_true', Option.isNone_iff_eq_none, List.any_eq_true]
  refine and_congr_right fun _ => or_congr_right ⟨?_, ?_⟩
  · rintro ⟨b, -, bare⟩
    exact ⟨b, (Bool.not_eq_true' _).mp bare⟩
  · rintro ⟨b, bare⟩
    exact ⟨b, mem_allBands b, (Bool.not_eq_true' _).mpr bare⟩

/-- The part with the keys of start-up's key job. -/
def keysLoaded (bs : List BandId) (s : State) : State :=
  tabBands (startupPair bs s) (loadCover (.cover (rootOrZero s)) s)

theorem flags_keysLoaded (bs : List BandId) (b : BandId) : flags (keysLoaded bs s) b = flags s b := by
  refine (flags_tabBands _ _ b).trans ?_
  unfold startupPair
  split
  · split <;> rfl
  · rfl

theorem entry_keysLoaded (bs : List BandId) (b : BandId) : entry (keysLoaded bs s) (.band b) =
    match openKey s b with
    | some k =>
      if b ∈ bs ∧ barred s = false ∧ closed (flags s b) = false then loaded k (entry s (.band b)) else entry s (.band b)
    | none => entry s (.band b) := by
  refine (entry_tabBands _ _ b).trans ?_
  unfold startupPair
  cases openKey s b with
  | none => rfl
  | some k =>
    dsimp only
    rw [apply_ite Prod.snd]
    refine if_congr ?_ rfl rfl
    rw [Bool.and_eq_true, Bool.and_eq_true, Bool.not_eq_true', Bool.not_eq_true', List.contains_iff_mem, and_assoc]

theorem startupKeyDone_draws (bs : List BandId) (draws : needsDraw s = true) :
    startupKeyDone bs s = handStartup .startupDraw (keysLoaded bs s) := if_pos draws

theorem startupKeyDone_completes (bs : List BandId) (none' : needsDraw s = false) :
    startupKeyDone bs s = startupComplete (keysLoaded bs s) := if_neg (by
  show ¬needsDraw s = true
  rw [none']
  exact Bool.false_ne_true)

/-- Settles O13. -/
theorem startupLoadsOpenBands : Obligations.StartupLoadsOpenBands := by
  refine ⟨fun s => needsDraw_iff, fun s bs running ready => ?_⟩
  have run := exec_startupKeyJob running
  have flags' : ∀ b : BandId, flags (keysLoaded bs (endJob s)) b = flags s b := flags_keysLoaded bs
  have entry' (b : BandId) : entry (keysLoaded bs (endJob s)) (.band b) = (match openKey s b with
      | some k =>
        if b ∈ bs ∧ barred s = false ∧ closed (flags s b) = false then loaded k (entry s (.band b)) else entry s (.band b)
      | none => entry s (.band b)) := entry_keysLoaded (s := endJob s) bs b
  have cover : (keysLoaded bs (endJob s)).keys.cover = loaded (.cover (rootOrZero s)) s.keys.cover := rfl
  cases draws : needsDraw s with
  | true =>
    rw [startupKeyDone_draws (s := endJob s) bs draws] at run
    exact ⟨_, run, cover, flags', fun b => (entry' b).trans (by cases openKey s b <;> rfl),
      fun none' => absurd none' (by simp), fun _ => ⟨rfl, rfl, rfl, rfl, rfl, rfl, rfl, rfl, rfl⟩⟩
  | false =>
    rw [startupKeyDone_completes (s := endJob s) bs draws] at run
    have done := startupComplete_completes (keysLoaded bs (endJob s))
    have empty : s.link.outbound = [] := ready.resolve_left (by simp [draws])
    obtain ⟨frame, announces, changed, result, loss⟩ := done
    generalize startupComplete (keysLoaded bs (endJob s)) = x at *
    refine ⟨x, run, ?_, fun b => ?_, fun b => ?_, fun _ => ⟨?_, announces empty, changed, result, loss⟩,
      fun some' => absurd some' (by simp)⟩
    · rw [frame]
      exact cover
    · rw [frame]
      exact flags' b
    · rw [frame]
      exact (entry' b).trans (by cases openKey s b <;> rfl)
    · rw [frame]

end

/-! # A first start without entropy -/

/-! ## A first start without entropy (R91, R165) -/

section

variable {s t : State}

theorem firstStartFails_w (s : State) : (firstStartFails s).w =
    { s.w with watch := watchAs .wiping s.w.watch, plan := freshPlan .storeLoss (.times 0) .rebuild } := by
  show (journalWait _).w = _
  unfold journalWait
  rw [queuePage_w]
  show { (theftCore .wiping s).w with plan := freshPlan .storeLoss (.times 0) .rebuild } = _
  rw [theftCore_w]

theorem firstStartFails_rest (s : State) : (firstStartFails s).mode = s.mode ∧ (firstStartFails s).link = s.link ∧
    (firstStartFails s).entropyFailed = s.entropyFailed := by
  unfold firstStartFails storeLossPlan journalWait
  refine ⟨?_, ?_, ?_⟩
  · rw [queuePage_mode]
    exact theftCore_mode _
  · rw [queuePage_link]
    show (theftCore .wiping s).link = _
    rw [theftCore_eq, queuePage_link, theftMoved, bandsAs_frame]
  · rw [queuePage_entropyFailed]
    show (theftCore .wiping s).entropyFailed = _
    rw [theftCore_eq, queuePage_entropyFailed, theftMoved, bandsAs_frame]

theorem firstStartFails_starts (failed : s.entropyFailed = true) : StartsWithoutEntropy (firstStartFails s) := by
  obtain ⟨-, -, same⟩ := firstStartFails_rest s
  have shut : AllShut (firstStartFails s) := (theftCore_shut (s := s) (x := .wiping) (.inr rfl)).congr
    (by unfold firstStartFails storeLossPlan journalWait; rw [queuePage_bands]; rfl)
    (by unfold firstStartFails storeLossPlan journalWait; rw [queuePage_keys]; rfl)
  have wipe : (firstStartFails s).wipe.activity = .rebuildWait ∧ (firstStartFails s).wipe.rootNeeds = true := by
    unfold firstStartFails storeLossPlan journalWait
    rw [queuePage_wipe]
    exact ⟨rfl, rfl⟩
  refine ⟨same.trans failed, ?_, wipe.1, wipe.2, ?_, ?_, carried_queuePage_same _ _ _, fun b => ?_⟩
  · rw [theft, firstStartFails_w]
    rfl
  · rw [firstStartFails_w]
    rfl
  · exact carried_queuePage _ _ ((carried_theftCore .wiping).congr rfl rfl)
  · obtain ⟨closed', -, absent⟩ := shut b
    exact ⟨closed', absent⟩

theorem StartsWithoutEntropy.congr (h : StartsWithoutEntropy s) (entropy : t.entropyFailed = s.entropyFailed) (w : t.w = s.w)
    (ks : t.ks = s.ks) (bands : t.bands = s.bands) (keys : t.keys = s.keys) (activity : t.wipe.activity = s.wipe.activity)
    (root : t.wipe.rootNeeds = s.wipe.rootNeeds) : StartsWithoutEntropy t := by
  obtain ⟨failed, wiping, waits', needs, plan, watch, journal, shut⟩ := h
  refine ⟨entropy.trans failed, ?_, activity.trans waits', root.trans needs, by rw [w]; exact plan, watch.keep w ks,
    journal.keep w ks, fun b => ?_⟩
  · rw [theft, w]
    exact wiping
  · obtain ⟨closed', absent⟩ := shut b
    refine ⟨?_, ?_⟩
    · rw [flags, bands]
      exact closed'
    · rw [present, entry, keys]
      exact absent

/-! ## Values that the Entropy Source does not deliver -/

theorem allDrawn_none {ds : List Draw} (missing : none ∈ ds) : allDrawn ds.length ds = none := by
  induction ds with
  | nil => exact absurd missing List.not_mem_nil
  | cons d ds ih =>
    cases d with
    | none => rfl
    | some x =>
      have rest : none ∈ ds := (List.mem_cons.mp missing).resolve_left (by simp)
      show (allDrawn ds.length ds).map _ = none
      rw [ih rest]
      rfl

theorem allDrawn_some (xs : List Secret) : allDrawn xs.length (xs.map some) = some xs := by
  induction xs with
  | nil => rfl
  | cons x xs ih =>
    show (allDrawn xs.length (xs.map some)).map _ = _
    rw [ih]
    rfl

theorem drawnAll_none {n : Nat} {ds : List Draw} (bad : s.entropyFailed = true ∨ (none ∈ ds ∧ ds.length = n)) :
    drawnAll s n ds = none := by
  unfold drawnAll
  rcases bad with failed | ⟨missing, length⟩
  · exact if_pos failed
  · rw [← length, allDrawn_none missing]
    split <;> rfl

theorem drawnAll_some {n : Nat} {xs : List Secret} (good : s.entropyFailed = false) (length : xs.length = n) :
    drawnAll s n (xs.map some) = some xs := by
  unfold drawnAll
  rw [← length, allDrawn_some, if_neg (by simp [good])]

/-- A completed start-up keeps what the store, the keys and the bands are. -/
theorem Completes.keeps (h : Completes s t) : t.mode = .ready ∧ t.w = s.w ∧ t.ks = s.ks ∧ t.keys = s.keys ∧ t.bands = s.bands ∧
    t.entropyFailed = s.entropyFailed ∧ t.wipe.activity = s.wipe.activity ∧ t.wipe.rootNeeds = s.wipe.rootNeeds := by
  rw [h.frame]
  exact ⟨rfl, rfl, rfl, rfl, rfl, rfl, rfl, rfl⟩

theorem failEntropy_failed (s : State) : (failEntropy s).entropyFailed = true := rfl

/-- A draw that fails outside a first start changes nothing of the store or the keys. -/
theorem draw_fails {ds : List Draw} (running : s.engine.running = some (.startup, .startupDraw)) (empty : s.link.outbound = [])
    (later : s.startup.firstStart = false)
    (bad : s.entropyFailed = true ∨ (none ∈ ds ∧ ds.length = (bareBands s).length)) :
    ∃ x, exec (.startupDrawJobComplete ds) s = .next (settle x) ∧ x.mode = .ready ∧ x.entropyFailed = true ∧
      x.link.outbound.head? = some (.state (theft s) (shownCause s)) ∧ x.w = s.w ∧ x.ks = s.ks ∧ x.keys = s.keys ∧
      x.bands = s.bands := by
  have run := exec_startupDrawJob ds running
  have done : startupDrawDone ds (endJob s) = startupComplete (failEntropy (endJob s)) := by
    unfold startupDrawDone
    rw [if_neg (c := (endJob s).startup.firstStart = true) (by rw [endJob_startup, later]; exact Bool.false_ne_true),
      drawnAll_none (s := endJob s) (n := (bareBands (endJob s)).length) bad]
  rw [done] at run
  have completes := startupComplete_completes (failEntropy (endJob s))
  obtain ⟨ready, w, ks, keys, bands, entropy, -, -⟩ := completes.keeps
  exact ⟨_, run, ready, entropy, completes.announces empty, w, ks, keys, bands⟩

/-- A first start whose values are not delivered goes on as a wipe. -/
theorem first_draw_fails {ds : List Draw} (running : s.engine.running = some (.startup, .startupDraw))
    (empty : s.link.outbound = []) (first : s.startup.firstStart = true)
    (bad : s.entropyFailed = true ∨ (none ∈ ds ∧ ds.length = 34)) :
    ∃ x, exec (.startupDrawJobComplete ds) s = .next (settle x) ∧ x.mode = .ready ∧ StartsWithoutEntropy x ∧
      x.link.outbound.head? = some (.state .wiping (some .storeLoss)) ∧ x.w.root = s.w.root ∧ x.w.secrets = s.w.secrets ∧
      x.w.creds = s.w.creds ∧ x.w.bands = s.w.bands := by
  have run := exec_startupDrawJob ds running
  have done : startupDrawDone ds (endJob s) = startupComplete (firstStartFails (failEntropy (endJob s))) := by
    unfold startupDrawDone
    rw [if_pos (c := (endJob s).startup.firstStart = true) first, drawnAll_none (s := endJob s) bad]
  rw [done] at run
  have completes := startupComplete_completes (firstStartFails (failEntropy (endJob s)))
  obtain ⟨ready, w, ks, keys, bands, entropy, activity, needs⟩ := completes.keeps
  have starts := firstStartFails_starts (failEntropy_failed (endJob s))
  obtain ⟨-, link, -⟩ := firstStartFails_rest (failEntropy (endJob s))
  have plan := firstStartFails_w (failEntropy (endJob s))
  have announces := completes.announces (by rw [link]; exact empty)
  have shown : shownCause (firstStartFails (failEntropy (endJob s))) = some .storeLoss ∧
      theft (firstStartFails (failEntropy (endJob s))) = .wiping := by
    unfold shownCause theft
    rw [plan]
    exact ⟨rfl, rfl⟩
  rw [shown.1, shown.2] at announces
  refine ⟨_, run, ready, starts.congr entropy w ks bands keys activity needs, announces, ?_, ?_, ?_, ?_⟩
  all_goals rw [w, plan]; rfl

end

/-! # The line is released -/

/-! ## The line is released and start-up loads the pages (R164, R165, R179) -/

section

variable {s t : State} {i : Identity}

/-- The part as the line is released, with the writer at rest and the supply seen OK. -/
def released (a g : Bool) (s : State) : State := { s with addrSel := a, entropyTest := g, mode := .keyJobs }

theorem exec_release (a g : Bool) (held : s.mode = .resetHeld) (supply : s.supplySeenOk = true) (writer : s.ks.writer = none)
    (identity : s.ks.pages.get 0 = .intact (.identity i)) :
    exec (.resetnRelease a g) s = .next (settle (laterSteps (loadStep i (released a g s)))) := by
  show execResetnRelease a g s = _
  unfold execResetnRelease beginStartUp
  rw [if_pos held]
  dsimp only
  rw [if_pos supply, writer]
  dsimp only
  rw [startUp_runs (s := { s with addrSel := a, entropyTest := g }) identity]
  rfl

theorem mem_laterPages {p : PageId} (other : p ≠ 0) : p ∈ laterPages := by
  unfold laterPages
  have bound := p.isLt
  have positive : 0 < p.val := Nat.pos_of_ne_zero fun zero => other (Fin.ext zero)
  refine List.mem_map.mpr ⟨p.val - 1, List.mem_range.mpr (by omega), ?_⟩
  rw [Nat.sub_add_cancel positive]
  exact Fin.ext (Nat.mod_eq_of_lt bound)

theorem laterPages_ne {p : PageId} (mem : p ∈ laterPages) : p ≠ 0 := by
  unfold laterPages at mem
  obtain ⟨n, bound, rfl⟩ := List.mem_map.mp mem
  have small : n + 1 < 53 := by
    have := List.mem_range.mp bound
    omega
  refine fun zero => absurd (congrArg Fin.val zero) ?_
  show (n + 1) % 53 ≠ 0
  rw [Nat.mod_eq_of_lt small]
  omega

theorem allBlank_iff (ps : Vector Stored 53) : allBlank ps = true ↔ ∀ p : PageId, p ≠ 0 → ps.get p = .blank := by
  unfold allBlank isBlank
  rw [List.all_eq_true]
  exact ⟨fun all p other => of_decide_eq_true (all p (mem_laterPages other)),
    fun all p mem => decide_eq_true (all p (laterPages_ne mem))⟩

/-- What a first start records. -/
def firstRecord : Startup := { restored := .dormant, lost := [], torn := [], firstStart := true }

theorem loadStep_first (blank : ∀ p : PageId, p ≠ 0 → s.ks.pages.get p = .blank) :
    loadStep i s = { s with w := firstWorking i, startup := firstRecord } := if_pos ((allBlank_iff _).mpr blank)

/-! ### An indicator that no policy enables -/

theorem evaluate_unguarded (x : Indicator) (policy : s.w.watch.policy = none) : evaluate x s = s := by
  have off : enabled s x = false := by
    unfold enabled
    rw [policy]
    rfl
  unfold evaluate assertIndicator
  rw [if_neg (c := enabled s x = true) (by simp [off])]
  split <;> rfl

theorem meterStep_unguarded (policy : s.w.watch.policy = none) : meterStep s = startMeters s := by
  have policy' : (startMeters s).w.watch.policy = none := policy
  unfold meterStep
  rw [evaluate_unguarded _ policy', evaluate_unguarded _ policy', evaluate_unguarded _ policy', evaluate_unguarded _ policy']

theorem resumeStep_rests (rest : theft s ≠ .wiping) (done : s.w.plan.phase = .done) : resumeStep s = s := by
  unfold resumeStep ignoreJournal
  rw [if_pos rest, if_pos done]

theorem entropyStep_fails (test : s.entropyTest = false) (first : s.startup.firstStart = true) :
    entropyStep s = firstStartFails { s with entropyFailed := true } := by
  unfold entropyStep
  dsimp only
  rw [test, first]
  rfl

/-- The working copy and the record that a first start goes on with. -/
theorem startBase_first (work : s.w = firstWorking i) (record : s.startup = firstRecord) :
    (startBase s).mode = s.mode ∧ (startBase s).entropyTest = s.entropyTest ∧ theft (startBase s) = .dormant ∧
      (startBase s).startup.firstStart = true ∧ (startBase s).w.plan.phase = .done ∧ (startBase s).w.watch.policy = none := by
  have first : s.startup.firstStart = true := by rw [record]; rfl
  have loss : lossStep s = s := if_pos first
  have watch : watchStep s = { s with
      w := { s.w with watch := { s.w.watch with latch := restoredLatch s } },
      twu := { WatchUnit.powerOn with grace := restoredGrace s, counter := restoredCounter s, status := s.twu.status },
      startup := { s.startup with restored := theft s } } := by
    unfold watchStep
    dsimp only
    rw [if_pos first]
  have same : (startBase s).mode = (watchStep s).mode ∧ (startBase s).entropyTest = (watchStep s).entropyTest ∧
      (startBase s).w = (watchStep s).w ∧ (startBase s).startup = (watchStep s).startup := by
    unfold startBase
    rw [loss]
    exact ⟨rfl, rfl, rfl, rfl⟩
  obtain ⟨mode, test, w, startup⟩ := same
  rw [mode, test, theft, w, startup, watch]
  refine ⟨rfl, rfl, ?_, first, ?_, ?_⟩ <;> (dsimp only; rw [work]; rfl)

/-- A first start whose health test fails goes on as a wipe, before its key job. -/
theorem first_start_untested (a : Bool) (held : s.mode = .resetHeld) (supply : s.supplySeenOk = true)
    (writer : s.ks.writer = none) (identity : s.ks.pages.get 0 = .intact (.identity i))
    (blank : ∀ p : PageId, p ≠ 0 → s.ks.pages.get p = .blank) :
    ∃ x, exec (.resetnRelease a false) s = .next (settle x) ∧ x.mode = .keyJobs ∧ StartsWithoutEntropy x := by
  have run := exec_release a false held supply writer identity
  rw [loadStep_first (s := released a false s) blank, laterSteps_eq] at run
  have base := startBase_first (s := { released a false s with w := firstWorking i, startup := firstRecord }) rfl rfl
  generalize startBase { released a false s with w := firstWorking i, startup := firstRecord } = u at run base
  obtain ⟨mode, test, rest, first, done, policy⟩ := base
  have ends : startEnd u = { firstStartFails { startMeters u with entropyFailed := true } with held := none } := by
    unfold startEnd
    rw [resumeStep_rests (by rw [rest]; decide) done, meterStep_unguarded policy, entropyStep_fails (s := startMeters u) test first]
  rw [ends] at run
  have starts := firstStartFails_starts (s := { startMeters u with entropyFailed := true }) rfl
  obtain ⟨ready, -, -⟩ := firstStartFails_rest { startMeters u with entropyFailed := true }
  exact ⟨_, run, ready.trans mode, starts.congr rfl rfl rfl rfl rfl rfl rfl⟩

end

/-! # Lost band secrets are replaced -/

/-! ## Lost band secrets are replaced (R167, R180) -/

section

variable {s t u : State} {b c : BandId} {z : Secret}

theorem secretPage_val (b : BandId) : (secretPage b).val = 21 + b.val := Nat.mod_eq_of_lt (by omega)

theorem pageOf_secretPage (b : BandId) (s : State) : pageOf s (secretPage b) = (s.w.secrets.get b).map Page.secret := by
  have n := secretPage_val b
  have same : bandNo b.val = b := Fin.ext (Nat.mod_eq_of_lt b.isLt)
  unfold pageOf content
  dsimp only
  rw [n, if_neg (by omega), if_neg (by omega), if_neg (by omega), if_neg (by omega), if_neg (by omega), if_neg (by omega),
    if_pos (by omega), Nat.add_sub_cancel_left, same]

theorem openKey_congr (bands : t.w.bands = s.w.bands) (root : t.w.root = s.w.root)
    (secret : t.w.secrets.get b = s.w.secrets.get b) : openKey t b = openKey s b := by
  unfold openKey mediaKey rootOf record
  rw [bands, root, secret]

/-- A band with a fresh secret has been brought to its enables. -/
structure BroughtAfresh (b : BandId) (s t : State) : Prop where
  shut : barred s = true ∨ (record s b).rle = true →
    closed (flags t b) = true ∧ entry t (.band b) = removed (entry s (.band b))
  opens : barred s = false → (record s b).rle = false → present s (.band b) = false → ∀ k : MediaKey, openKey t b = some k →
    flags t b = { readLocked := false, writeLocked := (record s b).wle, pendingLoad := false, held := false } ∧
    entry t (.band b) = loaded k (entry s (.band b))

theorem BroughtAfresh.congr (h : BroughtAfresh b s t) (key : openKey u b = openKey t b) (band : SameBand b t u) :
    BroughtAfresh b s u := by
  obtain ⟨flags', entry'⟩ := band
  refine ⟨fun bars => ?_, fun free rle absent k key' => ?_⟩
  · rw [flags', entry']
    exact h.shut bars
  · rw [flags', entry']
    exact h.opens free rle absent k (key.symm.trans key')

/-- A fresh secret for one band, its page queued. -/
def renewed (b : BandId) (z : Secret) (s : State) : State := queuePage (secretPage b) [] (setSecret b (some z) s)

theorem lostInstall_eq : lostInstall b z s =
    setPair b (settlePair (renewed b z s) b (openKey (renewed b z s) b)) (renewed b z s) := rfl

theorem lostInstall_frame : lostInstall b z s =
    { s with w := { s.w with secrets := put s.w.secrets b (some z) }, ks := (lostInstall b z s).ks,
             bands := (lostInstall b z s).bands,
             keys := { s.keys with bands := (lostInstall b z s).keys.bands } } := by
  rw [lostInstall_eq, renewed, queuePage_frame]
  rfl

theorem renewed_same (b : BandId) (z : Secret) (s : State) : barred (renewed b z s) = barred s ∧
    record (renewed b z s) = record s ∧ hasSecret (renewed b z s) b = true ∧ entry (renewed b z s) = entry s ∧
    flags (renewed b z s) = flags s := by
  unfold renewed
  rw [queuePage_frame]
  refine ⟨rfl, rfl, ?_, rfl, rfl⟩
  show ((put s.w.secrets b (some z)).get b).isSome = true
  rw [get_put_same]
  rfl

theorem openKey_lostInstall : openKey (lostInstall b z s) b = openKey (renewed b z s) b := rfl

theorem lostInstall_brings : BroughtAfresh b s (lostInstall b z s) := by
  obtain ⟨bars, rec', secret, entry', -⟩ := renewed_same b z s
  have flagsAt : flags (lostInstall b z s) b = (settlePair (renewed b z s) b (openKey (renewed b z s) b)).1 :=
    (flags_setPair _ _ _ _).trans (if_pos rfl)
  have entryAt : entry (lostInstall b z s) (.band b) = (settlePair (renewed b z s) b (openKey (renewed b z s) b)).2 :=
    (entry_setPair _ _ _ _).trans (if_pos rfl)
  refine ⟨fun shut => ?_, fun free rle absent k key => ?_⟩
  · have closes := settlePair_closed (s := renewed b z s) (b := b) (k := openKey (renewed b z s) b)
      (by rw [rec', bars]; exact shut.elim (fun h => .inr (.inl h)) .inl)
    rw [flagsAt, entryAt, closes, entry']
    exact ⟨rfl, rfl⟩
  · rw [openKey_lostInstall] at key
    have opens := settlePair_open (s := renewed b z s) (b := b) (k := k) (bars.trans free) secret (by rw [rec']; exact rle)
    have absent' : present (renewed b z s) (.band b) = false := by
      unfold present
      rw [entry']
      exact absent
    rw [flagsAt, entryAt, key, opens, if_neg (by simp [absent']), rec', entry']
    exact ⟨rfl, rfl⟩

/-- A fresh secret for one band leaves another as it is. -/
theorem lostInstall_other (other : c ≠ b) :
    (lostInstall b z s).w.secrets.get c = s.w.secrets.get c ∧ SameBand c s (lostInstall b z s) := by
  obtain ⟨-, -, -, entry', flags'⟩ := renewed_same b z s
  refine ⟨?_, ?_, ?_⟩
  · rw [lostInstall_frame]
    exact get_put_other _ other.symm _
  · exact (flags_setPair _ _ _ _).trans ((if_neg other.symm).trans (congrFun flags' c))
  · exact (entry_setPair _ _ _ _).trans ((if_neg other.symm).trans (congrFun entry' _))

theorem lostInstall_carried (other : c ≠ b) (h : Carried (secretPage c) s) : Carried (secretPage c) (lostInstall b z s) := by
  have queued : Carried (secretPage c) (renewed b z s) := by
    refine carried_queuePage _ _ (h.congr rfl ?_)
    rw [pageOf_secretPage, pageOf_secretPage]
    exact congrArg (Option.map Page.secret) (get_put_other _ other.symm _)
  exact queued.keep rfl rfl

/-- Fresh secrets for a list of bands have been installed. -/
structure Installs (ps : List (BandId × Secret)) (s t : State) : Prop where
  frame : t = { s with w := { s.w with secrets := t.w.secrets }, ks := t.ks, bands := t.bands,
                       keys := { s.keys with bands := t.keys.bands } }
  others : ∀ b, b ∉ ps.map Prod.fst → t.w.secrets.get b = s.w.secrets.get b ∧ SameBand b s t ∧
    (Carried (secretPage b) s → Carried (secretPage b) t)
  installed : (ps.map Prod.fst).Nodup → ∀ p ∈ ps, t.w.secrets.get p.1 = some p.2 ∧ Carried (secretPage p.1) t ∧
    BroughtAfresh p.1 s t

theorem BroughtAfresh.after {s' : State} (h : BroughtAfresh b s' t) (bars : barred s' = barred s)
    (bands : s'.w.bands = s.w.bands) (same : entry s' (.band b) = entry s (.band b)) : BroughtAfresh b s t := by
  have rec' : record s' b = record s b := by rw [record, bands]; rfl
  obtain ⟨shut, opens⟩ := h
  rw [bars, rec', same] at shut opens
  refine ⟨shut, fun free rle absent => opens free rle ?_⟩
  unfold present
  rw [same]
  exact absent

theorem lostInstalls_installs (ps : List (BandId × Secret)) (s : State) : Installs ps s (lostInstalls ps s) := by
  induction ps generalizing s with
  | nil => exact ⟨rfl, fun b _ => ⟨rfl, ⟨rfl, rfl⟩, id⟩, fun _ p mem => absurd mem List.not_mem_nil⟩
  | cons p ps ih =>
    obtain ⟨b, z⟩ := p
    obtain ⟨frame, others, installed⟩ := ih (lostInstall b z s)
    have step := lostInstall_frame (s := s) (b := b) (z := z)
    have brings := lostInstall_brings (s := s) (b := b) (z := z)
    have secret : (lostInstall b z s).w.secrets.get b = some z := by
      rw [step]
      exact get_put_same _ _ _
    have carried : Carried (secretPage b) (lostInstall b z s) :=
      (carried_queuePage_same (secretPage b) [] (setSecret b (some z) s)).keep rfl rfl
    have apart (c : BandId) (other : c ≠ b) := lostInstall_other (s := s) (z := z) other
    have keeps (c : BandId) (other : c ≠ b) := lostInstall_carried (s := s) (z := z) other
    show Installs _ s (lostInstalls ps (lostInstall b z s))
    have bars : barred (lostInstall b z s) = barred s := by rw [step]; rfl
    have bands : (lostInstall b z s).w.bands = s.w.bands := by rw [step]
    generalize lostInstalls ps (lostInstall b z s) = t at *
    have sameRoot : t.w.root = (lostInstall b z s).w.root := by rw [frame]
    have sameBands : t.w.bands = (lostInstall b z s).w.bands := by rw [frame]
    refine ⟨by rw [frame, step], fun c outside => ?_, fun nodup q mem => ?_⟩
    · have other : c ≠ b := fun same => outside (same ▸ List.mem_cons_self)
      have rest : c ∉ ps.map Prod.fst := fun mem => outside (List.mem_cons_of_mem _ mem)
      obtain ⟨first, ⟨firstFlags, firstEntry⟩⟩ := apart c other
      obtain ⟨second, ⟨secondFlags, secondEntry⟩, moves⟩ := others c rest
      exact ⟨second.trans first, ⟨secondFlags.trans firstFlags, secondEntry.trans firstEntry⟩, moves ∘ keeps c other⟩
    · obtain ⟨fresh, nodup'⟩ := List.nodup_cons.mp nodup
      rcases List.mem_cons.mp mem with rfl | mem
      · obtain ⟨same, band, moves⟩ := others b fresh
        exact ⟨same.trans secret, moves carried, brings.congr (openKey_congr sameBands sameRoot same) band⟩
      · obtain ⟨value, queued, brought⟩ := installed nodup' q mem
        have other : q.1 ≠ b := fun same => fresh (List.mem_map.mpr ⟨q, mem, same⟩)
        obtain ⟨-, -, entry'⟩ := apart q.1 other
        exact ⟨value, queued, brought.after bars bands entry'⟩

theorem mem_bareBands : b ∈ bareBands s ↔ hasSecret s b = false := by
  unfold bareBands
  rw [List.mem_filter, Bool.not_eq_true']
  exact and_iff_right (mem_allBands b)

theorem bareBands_nodup (s : State) : (bareBands s).Nodup := List.Nodup.filter _ (by decide)

/-- The bands that start-up found without a secret take the values drawn. -/
theorem lost_bands_renewed {xs : List Secret} (running : s.engine.running = some (.startup, .startupDraw))
    (later : s.startup.firstStart = false) (good : s.entropyFailed = false) (length : xs.length = (bareBands s).length)
    (empty : s.link.outbound = []) :
    ∃ x, exec (.startupDrawJobComplete (xs.map some)) s = .next (settle x) ∧ x.mode = .ready ∧
      x.link.outbound.head? = some (.state (theft s) (shownCause s)) ∧ x.w.root = s.w.root ∧ x.w.creds = s.w.creds ∧
      x.w.bands = s.w.bands ∧
      (∀ b : BandId, hasSecret s b = true → x.w.secrets.get b = s.w.secrets.get b ∧ SameBand b s x) ∧
      ∀ (n : Nat) (b : BandId) (z : Secret), (bareBands s)[n]? = some b → xs[n]? = some z →
        x.w.secrets.get b = some z ∧ Carried (secretPage b) x ∧ BroughtAfresh b s x := by
  have run := exec_startupDrawJob (xs.map some) running
  have done : startupDrawDone (xs.map some) (endJob s) =
      startupComplete (lostInstalls ((bareBands s).zip xs) (endJob s)) := by
    unfold startupDrawDone
    rw [if_neg (c := (endJob s).startup.firstStart = true) (by rw [endJob_startup, later]; exact Bool.false_ne_true),
      drawnAll_some (s := endJob s) (n := (bareBands (endJob s)).length) good length]
    rfl
  rw [done] at run
  have installs := lostInstalls_installs ((bareBands s).zip xs) (endJob s)
  have names : ((bareBands s).zip xs).map Prod.fst = bareBands s := List.map_fst_zip (le_of_eq length.symm)
  generalize lostInstalls ((bareBands s).zip xs) (endJob s) = u at *
  obtain ⟨frame, others, installed⟩ := installs
  rw [names] at others installed
  have completes := startupComplete_completes u
  obtain ⟨ready, w, ks, keys, bands, -, -, -⟩ := completes.keeps
  have announces := completes.announces (by rw [frame]; exact empty)
  have shown : theft u = theft s ∧ shownCause u = shownCause s ∧ u.w.root = s.w.root ∧ u.w.creds = s.w.creds ∧
      u.w.bands = s.w.bands := by
    rw [frame]
    exact ⟨rfl, rfl, rfl, rfl, rfl⟩
  obtain ⟨theft', cause, root, creds, records⟩ := shown
  rw [theft', cause] at announces
  have still (b : BandId) : SameBand b u (startupComplete u) :=
    ⟨by rw [flags, bands]; rfl, by rw [entry, keys]; rfl⟩
  refine ⟨_, run, ready, announces, by rw [w, root], by rw [w, creds], by rw [w, records], fun b has => ?_,
    fun n b z at' value => ?_⟩
  · obtain ⟨secret, ⟨flags', entry'⟩, -⟩ := others b fun bare => by simp [mem_bareBands.mp bare] at has
    obtain ⟨flags'', entry''⟩ := still b
    exact ⟨by rw [w]; exact secret, flags''.trans flags', entry''.trans entry'⟩
  · have mem : (b, z) ∈ (bareBands s).zip xs :=
      List.mem_of_getElem? (List.getElem?_zip_eq_some.mpr ⟨at', value⟩)
    obtain ⟨secret, carried, brought⟩ := installed (bareBands_nodup s) (b, z) mem
    have brought' : BroughtAfresh b s u := brought.after rfl rfl rfl
    have key : openKey (startupComplete u) b = openKey u b := openKey_congr (by rw [w]) (by rw [w]) (by rw [w])
    exact ⟨by rw [w]; exact secret, carried.keep w ks, brought'.congr key (still b)⟩

end

/-! # A first start installs its values -/

/-! ## A first start installs its values (R165, R180) -/

section

variable {s t : State} {i : Identity} {b : BandId} {p : PageId} {xs : List Secret}

/-- The lists in order: the room wait list holds something only behind a full queue. -/
def RoomBehind (s : State) : Prop := s.ks.room = [] ∨ Config.storeRoom ≤ s.ks.queue.length

theorem queuePage_appends (ws : List Waiter) (off : onList (s.ks.queue ++ s.ks.room) p = false)
    (differs : pageOf s p ≠ reference s p) (order : RoomBehind s) :
    (queuePage p ws s).ks.queue ++ (queuePage p ws s).ks.room = s.ks.queue ++ s.ks.room ++ [{ page := p, waiters := ws }] ∧
      RoomBehind (queuePage p ws s) := by
  rw [onList_append, Bool.or_eq_false_iff] at off
  obtain ⟨queue, room⟩ := off
  unfold queuePage
  rw [if_neg (by simp [queue]), if_neg (by simp [room]), if_pos differs]
  by_cases short : s.ks.queue.length < Config.storeRoom
  · have none' : s.ks.room = [] := order.resolve_right (Nat.not_le.mpr short)
    rw [if_pos short]
    refine ⟨?_, .inl none'⟩
    dsimp only
    rw [none', List.append_nil, List.append_nil]
  · rw [if_neg short]
    exact ⟨(List.append_assoc _ _ _).symm, .inr (Nat.le_of_not_lt short)⟩

/-- Pages that stand on no list and differ from what the store holds are queued in their order. -/
theorem queuePages_appends (ps : List PageId) (nodup : ps.Nodup) (off : ∀ p ∈ ps, onList (s.ks.queue ++ s.ks.room) p = false)
    (differs : ∀ p ∈ ps, pageOf s p ≠ reference s p) (order : RoomBehind s) :
    ((queuePages ps [] s).ks.queue ++ (queuePages ps [] s).ks.room).map QEntry.page =
      (s.ks.queue ++ s.ks.room).map QEntry.page ++ ps := by
  induction ps generalizing s with
  | nil => exact (List.append_nil _).symm
  | cons p ps ih =>
    obtain ⟨fresh, nodup'⟩ := List.nodup_cons.mp nodup
    obtain ⟨queued, order'⟩ := queuePage_appends [] (off p List.mem_cons_self) (differs p List.mem_cons_self) order
    have off' : ∀ q ∈ ps, onList ((queuePage p [] s).ks.queue ++ (queuePage p [] s).ks.room) q = false := fun q mem => by
      have other : p ≠ q := fun same => fresh (same ▸ mem)
      rw [queued, onList_append, off q (List.mem_cons_of_mem _ mem)]
      simp [onList, other]
    have differs' : ∀ q ∈ ps, pageOf (queuePage p [] s) q ≠ reference (queuePage p [] s) q := fun q mem => by
      rw [pageOf_queuePage, reference_queuePage]
      exact differs q (List.mem_cons_of_mem _ mem)
    refine (ih nodup' off' differs' order').trans ?_
    rw [queued, List.map_append, List.append_assoc]
    rfl

/-- With a root secret and every band secret the working copy gives every page a content. -/
theorem pageOf_some (root : s.w.root ≠ none) (secrets : ∀ b : BandId, hasSecret s b = true) (p : PageId) : pageOf s p ≠ none := by
  have secret (b : BandId) : (s.w.secrets.get b).map Page.secret ≠ none := by
    rw [Ne, Option.map_eq_none_iff]
    exact Option.isSome_iff_ne_none.mp (secrets b)
  have root' : s.w.root.map Page.root ≠ none := by
    rw [Ne, Option.map_eq_none_iff]
    exact root
  unfold pageOf content
  dsimp only
  split_ifs
  · exact Option.some_ne_none _
  · exact root'
  · exact Option.some_ne_none _
  · exact Option.some_ne_none _
  · exact Option.some_ne_none _
  · exact Option.some_ne_none _
  · exact secret _
  · exact Option.some_ne_none _
  · exact Option.some_ne_none _

theorem reference_blank (writer : s.ks.writer = none) (blank : s.ks.pages.get p = .blank) : reference s p = none := by
  unfold reference committed
  rw [writer]
  dsimp only
  rw [blank]
  rfl

theorem firstPages_nodup : firstPages.Nodup := by decide

theorem firstPages_ne (mem : p ∈ firstPages) : p ≠ 0 := by
  revert p
  decide

/-- A first start's band: open, its key loaded. -/
def firstPair (xs : List Secret) (s : State) (b : BandId) : BandFlags × LiveKey :=
  settlePair (loadCover (.cover (xs.getD 0 0)) { s with w := firstDrawn xs s.w }) b
    (openKey { s with w := firstDrawn xs s.w } b)

/-- The part with a first start's values and keys, before its pages are queued. -/
def firstKeyed (xs : List Secret) (s : State) : State :=
  tabBands (firstPair xs s) (loadCover (.cover (xs.getD 0 0)) { s with w := firstDrawn xs s.w })

theorem firstInstall_eq : firstInstall xs s = queuePages firstPages [] (firstKeyed xs s) := rfl

theorem firstKeyed_w : (firstKeyed xs s).w = firstDrawn xs s.w := rfl

/-- The ADMIN slot of a first start verifies the secret of 32 zero bytes and holds every band. -/
theorem firstDrawn_admin (xs : List Secret) (i : Identity) :
    ((firstDrawn xs (firstWorking i)).creds.get 0).state = .blank ∧
      verifies ((firstDrawn xs (firstWorking i)).creds.get 0) 0 = true ∧
      ∀ b : BandId, (((firstDrawn xs (firstWorking i)).creds.get 0).row.get b).isSome = true := by
  have admin := get_put_same (firstWorking i).creds 0
    { (firstWorking i).creds.get 0 with
      state := .blank, salt := some (xs.getD 1 0), verifier := some { secret := 0, salt := xs.getD 1 0 },
      row := tab16 fun b => some { key := xs.getD (18 + b.val) 0, under := .credential 0 (xs.getD 1 0) } }
  have drawn' : (firstDrawn xs (firstWorking i)).creds.get 0 = _ := admin
  rw [drawn']
  refine ⟨rfl, ?_, fun b => ?_⟩
  · unfold verifies saltOf
    dsimp only
    exact Bool.and_eq_true_iff.mpr ⟨rfl, decide_eq_true rfl⟩
  · dsimp only
    rw [get_tab16]
    rfl

theorem firstDrawn_empty {k : SlotId} (other : k ≠ 0) : ((firstDrawn xs (firstWorking i)).creds.get k).state = .empty := by
  have kept : (firstDrawn xs (firstWorking i)).creds.get k = (firstWorking i).creds.get k := get_put_other _ other.symm _
  have blank : (firstWorking i).creds.get k = Credential.blank k := get_tab8 _ k
  rw [kept, blank]
  unfold Credential.blank
  rw [if_neg other]
  rfl

theorem firstDrawn_band (b : BandId) : (firstDrawn xs (firstWorking i)).bands.get b =
    { BandRecord.blank with
      openWrap := some { key := xs.getD (18 + b.val) 0, under := .root (xs.getD 0 0) } } := by
  have blank : (firstWorking i).bands.get b = BandRecord.blank := Vector.getElem_replicate _
  refine (get_tab16 _ b).trans ?_
  rw [blank]

theorem firstDrawn_secret (b : BandId) : (firstDrawn xs (firstWorking i)).secrets.get b = some (xs.getD (2 + b.val) 0) :=
  get_tab16 _ b

theorem present_settled {s : State} {k : MediaKey} (e : LiveKey) (b : BandId) :
    (if present s (.band b) then entry s (.band b) else loaded k e).key.isSome = true := by
  split
  · assumption
  · rw [loaded_present]
    rfl

theorem firstPair_eq (work : s.w = firstWorking i) (b : BandId) : ∃ k : MediaKey, firstPair xs s b =
    ({ readLocked := false, writeLocked := false, pendingLoad := false, held := false },
      if present s (.band b) then entry s (.band b) else loaded k (entry s (.band b))) := by
  have band := firstDrawn_band (xs := xs) (i := i) b
  have secret := firstDrawn_secret (xs := xs) (i := i) b
  obtain ⟨k, key⟩ : ∃ k, openKey { s with w := firstDrawn xs (firstWorking i) } b = some k := by
    unfold openKey record
    dsimp only
    rw [band, secret]
    exact ⟨_, rfl⟩
  have opens := settlePair_open (k := k) (b := b)
    (s := loadCover (.cover (xs.getD 0 0)) { s with w := firstDrawn xs (firstWorking i) }) rfl
    (by unfold hasSecret; rw [loadCover_w, secret]; rfl) (by unfold record; rw [loadCover_w, band]; rfl)
  refine ⟨k, ?_⟩
  unfold firstPair
  rw [work, key, opens]
  unfold record
  rw [loadCover_w, band]
  rfl

/-- Every band of a first start is open, with its key loaded. -/
theorem firstKeyed_open (work : s.w = firstWorking i) (b : BandId) :
    flags (firstKeyed xs s) b = { readLocked := false, writeLocked := false, pendingLoad := false, held := false } ∧
      present (firstKeyed xs s) (.band b) = true := by
  obtain ⟨k, pair⟩ := firstPair_eq (xs := xs) work b
  have loaded' : entry (firstKeyed xs s) (.band b) = (firstPair xs s b).2 := entry_tabBands _ _ b
  refine ⟨(flags_tabBands _ _ b).trans (congrArg Prod.fst pair), ?_⟩
  unfold present
  rw [loaded', pair]
  exact present_settled _ b

/-- A first start's pages are queued in page order, the root page last. -/
theorem firstInstall_pages (queue : s.ks.queue = []) (room : s.ks.room = []) (writer : s.ks.writer = none)
    (blank : ∀ p : PageId, p ≠ 0 → s.ks.pages.get p = .blank) (work : s.w = firstWorking i) :
    ((firstInstall xs s).ks.queue ++ (firstInstall xs s).ks.room).map QEntry.page = dataPages ++ [rootPage] := by
  have lists : (firstKeyed xs s).ks.queue ++ (firstKeyed xs s).ks.room = [] := by
    show s.ks.queue ++ s.ks.room = []
    rw [queue, room]
    rfl
  have full (p : PageId) : pageOf (firstKeyed xs s) p ≠ none := by
    refine pageOf_some ?_ (fun b => ?_) p
    · rw [firstKeyed_w]
      exact Option.some_ne_none _
    · unfold hasSecret
      rw [firstKeyed_w, work, firstDrawn_secret]
      rfl
  rw [firstInstall_eq, queuePages_appends (s := firstKeyed xs s) firstPages firstPages_nodup
    (fun p _ => by rw [lists]; rfl) (fun p mem => ?_) (.inl room),
    lists]
  · rfl
  · rw [reference_blank (s := firstKeyed xs s) writer (blank p (firstPages_ne mem))]
    exact full p

/-- The second job of a first start that is delivered every value. -/
theorem first_start_opens (running : s.engine.running = some (.startup, .startupDraw)) (first : s.startup.firstStart = true)
    (good : s.entropyFailed = false) (work : s.w = firstWorking i) (length : xs.length = 34) (queue : s.ks.queue = [])
    (room : s.ks.room = []) (writer : s.ks.writer = none) (blank : ∀ p : PageId, p ≠ 0 → s.ks.pages.get p = .blank) :
    ∃ x, exec (.startupDrawJobComplete (xs.map some)) s = .next (settle x) ∧ x.mode = .ready ∧ theft x = .dormant ∧
      (cred x 0).state = .blank ∧ verifies (cred x 0) 0 = true ∧ x.w.root = xs[0]? ∧
      (∀ b : BandId, (flags x b).readLocked = false ∧ (flags x b).writeLocked = false ∧ present x (.band b) = true ∧
        (record x b).openWrap.isSome = true ∧ ((cred x 0).row.get b).isSome = true) ∧
      (∀ k : SlotId, k ≠ 0 → (cred x k).state = .empty) ∧
      (x.ks.queue ++ x.ks.room).map QEntry.page = dataPages ++ [rootPage] := by
  have run := exec_startupDrawJob (xs.map some) running
  have done : startupDrawDone (xs.map some) (endJob s) = startupComplete (firstInstall xs (endJob s)) := by
    unfold startupDrawDone
    rw [if_pos (c := (endJob s).startup.firstStart = true) first, drawnAll_some (s := endJob s) good length]
  rw [done] at run
  have completes := startupComplete_completes (firstInstall xs (endJob s))
  obtain ⟨ready, w, ks, keys, bands, -, -, -⟩ := completes.keeps
  have pages := firstInstall_pages (s := endJob s) (xs := xs) queue room writer blank work
  have opens := firstKeyed_open (s := endJob s) (xs := xs) work
  have parts : (firstInstall xs (endJob s)).w = firstDrawn xs (firstWorking i) ∧
      (firstInstall xs (endJob s)).bands = (firstKeyed xs (endJob s)).bands ∧
      (firstInstall xs (endJob s)).keys = (firstKeyed xs (endJob s)).keys := by
    rw [firstInstall_eq, queuePages_frame, ← work]
    exact ⟨rfl, rfl, rfl⟩
  obtain ⟨w', bands', keys'⟩ := parts
  rw [w'] at w
  obtain ⟨state, verify, row⟩ := firstDrawn_admin xs i
  generalize startupComplete (firstInstall xs (endJob s)) = x at *
  refine ⟨x, run, ready, by rw [theft, w]; rfl, by rw [cred, w]; exact state, by rw [cred, w]; exact verify, ?_, fun b => ?_,
    fun k other => by rw [cred, w]; exact firstDrawn_empty other, by rw [ks]; exact pages⟩
  · rw [w]
    show some (xs.getD 0 0) = xs[0]?
    rw [List.getD_eq_getElem?_getD, List.getElem?_eq_getElem (by omega)]
    rfl
  · obtain ⟨flags', present'⟩ := opens b
    have flags'' : flags x b = flags (firstKeyed xs (endJob s)) b := by rw [flags, bands, bands']; rfl
    have present'' : present x (.band b) = present (firstKeyed xs (endJob s)) (.band b) := by
      rw [present, entry, keys, keys']
      rfl
    rw [flags'', present'', flags', record, cred, w, firstDrawn_band]
    exact ⟨rfl, rfl, present', rfl, row b⟩

/-- Settles O14. -/
theorem firstStartOpensEveryBand : Obligations.FirstStartOpensEveryBand := by
  refine ⟨fun s xs running later good length empty => ?_,
    fun s ds running empty => ⟨draw_fails running empty, first_draw_fails running empty⟩,
    fun a s i held supply writer identity blank _ => first_start_untested a held supply writer identity blank,
    fun s i xs running first good work length queue room writer blank =>
      first_start_opens running first good work length queue room writer blank⟩
  obtain ⟨x, run, ready, announces, root, creds, records, others, installed⟩ :=
    lost_bands_renewed running later good length empty
  refine ⟨x, run, ready, announces, root, creds, records, others, fun n b z at' value => ?_⟩
  obtain ⟨secret, carried, shut, opens⟩ := installed n b z at' value
  exact ⟨secret, carried, shut, opens⟩

end

/-! # The backoffs that a line reset held -/

/-! ## The backoffs that a line reset held, and a part without its identity (R96, R164, R182) -/

section

variable {s t : State} {i : Identity}

theorem watchStep_held : (watchStep s).held = s.held := by
  unfold watchStep
  dsimp only
  split
  · rfl
  · exact (queuePage_keeps _ _).held

theorem laterSteps_addrSel : (laterSteps s).addrSel = s.addrSel := by
  have watch : (watchStep (lossStep s)).addrSel = (lossStep s).addrSel := by
    generalize lossStep s = u
    unfold watchStep
    dsimp only
    split
    · rfl
    · exact (queuePage_keeps _ _).addrSel
  rw [laterSteps_eq]
  calc (entropyStep (meterStep (resumeStep (startBase s)))).addrSel
      = (startBase s).addrSel := ((resumeStep_keeps.trans meterStep_keeps).trans entropyStep_keeps).addrSel
    _ = (watchStep (lossStep s)).addrSel := rfl
    _ = s.addrSel := watch.trans lossStep_keeps.addrSel

theorem restoredBackoff_held {h : HeldItems} (held : s.held = some h) (k : SlotId) : restoredBackoff s k =
    if count s k ≤ (cred s k).free ∨ (k ≠ 0 ∧ (cred s k).state = .disabled) then 0 else h.backoff.get k := by
  unfold restoredBackoff
  rw [held]
  exact if_congr (by simp) rfl rfl

/-- Start-up restores the backoffs by the counts and the credentials that it loads. -/
theorem startUp_backoffs {h : HeldItems} (held : s.held = some h) (k : SlotId) :
    backoffOf (settle (laterSteps s)) k =
      if count (settle (laterSteps s)) k ≤ (cred (settle (laterSteps s)) k).free ∨
          (k ≠ 0 ∧ (cred (settle (laterSteps s)) k).state = .disabled) then 0 else h.backoff.get k := by
  have later : Lasts (startBase s) (settle (laterSteps s)) := startEnd_lasts.trans settle_lasts
  generalize settle (laterSteps s) = t at *
  have base : backoffOf (startBase s) k = restoredBackoff (watchStep (lossStep s)) k := get_tab8 _ k
  have held' : (watchStep (lossStep s)).held = some h := watchStep_held.trans (lossStep_keeps.held.trans held)
  have count' : count t k = count (watchStep (lossStep s)) k := congrArg (fun v => v.get k) later.counts
  have cred' : cred t k = cred (watchStep (lossStep s)) k := congrArg (fun v => v.get k) later.creds
  have backoff' : backoffOf t k = backoffOf (startBase s) k := congrArg (fun v => v.get k) later.backoff
  rw [backoff', base, restoredBackoff_held held', count', cred']

theorem release_keeps_backoffs {h : HeldItems} (a g : Bool) (reset : s.mode = .resetHeld) (supply : s.supplySeenOk = true)
    (writer : s.ks.writer = none) (held : s.held = some h) (identity : s.ks.pages.get 0 = .intact (.identity i)) :
    ∃ t, exec (.resetnRelease a g) s = .next t ∧ t.mode = .keyJobs ∧ t.addrSel = a ∧
      ∀ k : SlotId, backoffOf t k =
        if count t k ≤ (cred t k).free ∨ (k ≠ 0 ∧ (cred t k).state = .disabled) then 0 else h.backoff.get k := by
  have run := exec_release a g reset supply writer identity
  have parts := loadStep_parts i (released a g s)
  have held' : (loadStep i (released a g s)).held = some h := by rw [parts]; exact held
  have place : (loadStep i (released a g s)).mode = .keyJobs ∧ (loadStep i (released a g s)).addrSel = a := by
    rw [parts]
    exact ⟨rfl, rfl⟩
  refine ⟨_, run, ?_, ?_, startUp_backoffs held'⟩
  · rw [settle_keeps.mode, laterSteps_mode]
    exact place.1
  · rw [settle_keeps.addrSel, laterSteps_addrSel]
    exact place.2

theorem startUp_stops (lost : ∀ i : Identity, s.ks.pages.get 0 ≠ .intact (.identity i)) :
    startUp s = raise noticeLoss { s with mode := .identityLost } := by
  have none' : identityOf (s.ks.pages.get 0) = none := by
    cases page : s.ks.pages.get 0 with
    | intact c =>
      cases c with
      | identity i => exact absurd page (lost i)
      | _ => rfl
    | _ => rfl
  unfold startUp
  rw [none']

theorem release_without_identity (a g : Bool) (reset : s.mode = .resetHeld) (supply : s.supplySeenOk = true)
    (writer : s.ks.writer = none) (lost : ∀ i : Identity, s.ks.pages.get 0 ≠ .intact (.identity i)) :
    ∃ t, exec (.resetnRelease a g) s = .next t ∧ t.mode = .identityLost ∧ linkReady t = false ∧
      t.psp.notice.getLsbD 3 = true ∧ t.ks.pages = s.ks.pages := by
  have run : exec (.resetnRelease a g) s =
      .next (settle (raise noticeLoss { s with addrSel := a, entropyTest := g, mode := .identityLost })) := by
    show execResetnRelease a g s = _
    unfold execResetnRelease beginStartUp
    rw [if_pos reset]
    dsimp only
    rw [if_pos supply, writer]
    dsimp only
    rw [startUp_stops (s := { s with addrSel := a, entropyTest := g }) lost]
  have mode : (settle (raise noticeLoss { s with addrSel := a, entropyTest := g, mode := .identityLost })).mode =
      .identityLost := settle_keeps.mode
  have lasts := settle_lasts (s := raise noticeLoss { s with addrSel := a, entropyTest := g, mode := .identityLost })
  refine ⟨_, run, mode, ?_, lasts.notice 3 ?_, lasts.pages⟩
  · unfold linkReady linkUp
    rw [mode]
    rfl
  · show (s.psp.notice ||| noticeLoss).getLsbD 3 = true
    rw [BitVec.getLsbD_or]
    exact Bool.or_true _

end

/-! # The loss results of start-up -/

/-! ## What start-up makes of the loaded pages (R117, R166, R179) -/

/-- The store's pages and the write in progress stay, and what is queued stays queued. -/
structure Queues (s t : State) : Prop where
  pages : t.ks.pages = s.ks.pages
  writing : t.ks.writer.map (fun x => (x.page, x.content)) = s.ks.writer.map (fun x => (x.page, x.content))
  listed : ∀ p, onList (s.ks.queue ++ s.ks.room) p = true → onList (t.ks.queue ++ t.ks.room) p = true

section

variable {s t u : State} {p : PageId}

theorem Queues.refl (s : State) : Queues s s := ⟨rfl, rfl, fun _ => id⟩

theorem Queues.trans (h : Queues s t) (k : Queues t u) : Queues s u :=
  ⟨k.pages.trans h.pages, k.writing.trans h.writing, fun p on => k.listed p (h.listed p on)⟩

theorem Queues.same (h : t.ks = s.ks) : Queues s t := by
  refine ⟨?_, ?_, fun p on => ?_⟩ <;> rw [h]
  exact on

theorem Queues.after (k : Queues t u) (h : t.ks = s.ks) : Queues s u := (Queues.same h).trans k

theorem Queues.ofWatch (h : WatchOnly s t) : Queues s t := ⟨h.pages, h.writing, h.listed⟩

theorem queuePage_queues (p : PageId) (ws : List Waiter) (s : State) : Queues s (queuePage p ws s) := .ofWatch (.queue p ws s)

theorem queuePages_queues (ps : List PageId) (ws : List Waiter) (s : State) : Queues s (queuePages ps ws s) := by
  induction ps generalizing s with
  | nil => exact .refl s
  | cons p ps ih => exact (queuePage_queues p ws s).trans (ih _)

theorem Queues.reference (h : Queues s t) (p : PageId) : reference t p = Machine.reference s p :=
  reference_congr h.pages h.writing p

theorem reference_idle (writer : s.ks.writer = none) : reference s p = intact (s.ks.pages.get p) := by
  unfold reference
  rw [writer]
  rfl

/-- A lost page that has a content and is carried stands on a list. -/
theorem Carried.listed (h : Carried p s) (lost : reference s p = none) (full : pageOf s p ≠ none) :
    onList (s.ks.queue ++ s.ks.room) p = true :=
  h.resolve_right (by rw [lost]; exact full)

/-- Outside the root page and the band secret pages every page has a content. -/
theorem pageOf_full (root : p ≠ rootPage) (secret : p.val < 21 ∨ 37 ≤ p.val) : pageOf s p ≠ none := by
  have root' : p.val ≠ 1 := fun one => root (Fin.ext one)
  unfold pageOf content
  dsimp only
  split_ifs
  · exact Option.some_ne_none _
  · exact Option.some_ne_none _
  · exact Option.some_ne_none _
  · exact Option.some_ne_none _
  · exact Option.some_ne_none _
  · omega
  · exact Option.some_ne_none _
  · exact Option.some_ne_none _

/-! ### The loss results -/

/-- The watch page behind the loss results. -/
def lossWatch (s : State) : Watch := if rootLoss s then watchAs .wiping s.w.watch else s.w.watch

/-- The plan behind the loss results. -/
def lossPlan (s : State) : Plan := if rootLoss s then freshPlan .storeLoss (.times 0) .rebuild else s.w.plan

/-- The Wipe Engine of a wipe that a lost root secret begins. -/
def rootlessWipe (s : State) : WipeEngine :=
  { WipeEngine.powerOn with activity := .rebuildWait, rootNeeds := true, ring := s.wipe.ring, ringNext := s.wipe.ringNext }

/-- The Wipe Engine behind the loss results. -/
def lossWipe (s : State) : WipeEngine := if rootLoss s then rootlessWipe s else s.wipe

/-- The part with the watch page of the loss results. -/
def lossWatched (s : State) : State := { s with w := { s.w with watch := lossWatch s } }

theorem lossStep_lost (later : s.startup.firstStart = false) (lost : rootLoss s = true) : lossStep s =
    storeLossPlan (queuePage watchPage [.wipe] (queuePages (rewrites (lossWatched s)) [] (lossWatched s))) := by
  have watched' : lossWatched s = setWatch (watchAs .wiping s.w.watch) s := by
    unfold lossWatched lossWatch
    rw [if_pos lost]
    rfl
  unfold lossStep
  rw [if_neg (by simp [later]), if_pos lost, watched']

theorem lossStep_kept (later : s.startup.firstStart = false) (kept : rootLoss s = false) :
    lossStep s = queuePages (rewrites (lossWatched s)) [] (lossWatched s) := by
  have watched' : lossWatched s = s := by
    unfold lossWatched lossWatch
    rw [if_neg (by simp [kept])]
  unfold lossStep
  rw [if_neg (by simp [later]), if_neg (by simp [kept]), watched']

theorem lossStep_frame (later : s.startup.firstStart = false) : lossStep s =
    { s with w := { s.w with watch := lossWatch s, plan := lossPlan s }, wipe := lossWipe s, ks := (lossStep s).ks } := by
  cases lost : rootLoss s with
  | true =>
    have plan : lossPlan s = freshPlan .storeLoss (.times 0) .rebuild := if_pos lost
    have wipe : lossWipe s = rootlessWipe s := if_pos lost
    rw [lossStep_lost later lost, plan, wipe]
    unfold storeLossPlan journalWait
    rw [queuePage_frame, queuePage_frame watchPage, queuePages_frame]
    rfl
  | false =>
    have plan : lossPlan s = s.w.plan := if_neg (by simp [lost])
    have wipe : lossWipe s = s.wipe := if_neg (by simp [lost])
    rw [lossStep_kept later lost, plan, wipe, queuePages_frame]
    rfl

/-- The pages that start-up writes again are queued, and nothing is taken off a list. -/
theorem lossStep_queues (later : s.startup.firstStart = false) : Queues s (lossStep s) ∧
    ∀ p ∈ rewrites (lossWatched s), reference s p = none → pageOf (lossWatched s) p ≠ none →
      onList ((lossStep s).ks.queue ++ (lossStep s).ks.room) p = true := by
  have begin' : Queues s (queuePages (rewrites (lossWatched s)) [] (lossWatched s)) :=
    (queuePages_queues _ _ (lossWatched s)).after rfl
  have queued : ∀ p ∈ rewrites (lossWatched s), reference s p = none → pageOf (lossWatched s) p ≠ none →
      onList ((queuePages (rewrites (lossWatched s)) [] (lossWatched s)).ks.queue ++
        (queuePages (rewrites (lossWatched s)) [] (lossWatched s)).ks.room) p = true := fun p mem lost full =>
    (carried_queuePages_mem [] (lossWatched s) mem).listed ((begin'.reference p).trans lost)
      (by rw [pageOf, queuePages_w]; exact full)
  cases lost : rootLoss s with
  | true =>
    rw [lossStep_lost later lost]
    generalize queuePages (rewrites (lossWatched s)) [] (lossWatched s) = v at *
    have plan : Queues (queuePage watchPage [.wipe] v) (storeLossPlan (queuePage watchPage [.wipe] v)) :=
      (queuePage_queues journalPage [.wipe] _).after rfl
    have rest : Queues v (storeLossPlan (queuePage watchPage [.wipe] v)) := (queuePage_queues _ _ v).trans plan
    exact ⟨begin'.trans rest, fun p mem stale full => rest.listed p (queued p mem stale full)⟩
  | false =>
    rw [lossStep_kept later lost]
    exact ⟨begin', queued⟩

/-- A lost root secret's wipe queues its watch page and its journal. -/
theorem lossStep_carried (later : s.startup.firstStart = false) (lost : rootLoss s = true) : Carried journalPage (lossStep s) := by
  rw [lossStep_lost later lost]
  exact carried_queuePage_same _ _ _

/-! ### Steps 4 to 7 -/

/-- The watch page that start-up goes on with. -/
def restoredWatch (s : State) : Watch := { lossWatch s with latch := restoredLatch s }

theorem restoredLatch_lossStep (later : s.startup.firstStart = false) : restoredLatch (lossStep s) = restoredLatch s := by
  have held : (lossStep s).held = s.held := lossStep_keeps.held
  have latch : (lossStep s).w.watch.latch = s.w.watch.latch := by
    rw [lossStep_frame later]
    show (lossWatch s).latch = _
    unfold lossWatch watchAs
    split <;> rfl
  unfold restoredLatch
  rw [held, latch]

/-- The part with the watch restored, its page not yet queued. -/
def watchRestored (s : State) : State :=
  { s with w := { s.w with watch := { s.w.watch with latch := restoredLatch s } },
           twu := { WatchUnit.powerOn with grace := restoredGrace s, counter := restoredCounter s, status := s.twu.status },
           startup := { s.startup with restored := theft s } }

theorem watchStep_later (later : s.startup.firstStart = false) : watchStep s = queuePage watchPage [] (watchRestored s) :=
  if_neg (by simp [later])

end

/-! # The part as start-up hands its key job -/

/-! ## The part as start-up hands its key job (R11, R117, R179, R180) -/

section

variable {s t : State} {p : PageId} {b : BandId}

/-- The part with the watch restored, before its watch page is queued. -/
def lossRestored (s : State) : State := watchRestored (lossStep s)

theorem watchStep_lossStep (later : s.startup.firstStart = false) :
    watchStep (lossStep s) = queuePage watchPage [] (lossRestored s) :=
  watchStep_later ((congrArg Startup.firstStart lossStep_keeps.startup).trans later)

theorem lossRestored_w (later : s.startup.firstStart = false) :
    (lossRestored s).w = { s.w with watch := restoredWatch s, plan := lossPlan s } := by
  unfold lossRestored watchRestored
  rw [restoredLatch_lossStep later, lossStep_frame later]
  rfl

theorem startBase_w (later : s.startup.firstStart = false) :
    (startBase s).w = { s.w with watch := restoredWatch s, plan := lossPlan s } := by
  show (watchStep (lossStep s)).w = _
  rw [watchStep_lossStep later, queuePage_w, lossRestored_w later]

theorem startBase_wipe (later : s.startup.firstStart = false) : (startBase s).wipe = lossWipe s := by
  show (watchStep (lossStep s)).wipe = _
  rw [watchStep_lossStep later, queuePage_wipe]
  show (lossStep s).wipe = _
  rw [lossStep_frame later]

theorem theft_startBase (later : s.startup.firstStart = false) : theft (startBase s) = (lossWatch s).theft := by
  rw [theft, startBase_w later]
  rfl

theorem startBase_startup (later : s.startup.firstStart = false) :
    (startBase s).startup = { s.startup with restored := theft (startBase s) } := by
  rw [theft_startBase later]
  show (watchStep (lossStep s)).startup = _
  rw [watchStep_lossStep later, queuePage_startup]
  show { (lossStep s).startup with restored := theft (lossStep s) } = _
  rw [lossStep_frame later]
  rfl

theorem startBase_same (later : s.startup.firstStart = false) : (startBase s).mode = s.mode ∧
    (startBase s).entropyTest = s.entropyTest ∧ (startBase s).held = s.held ∧ (startBase s).psp = s.psp := by
  show (watchStep (lossStep s)).mode = _ ∧ (watchStep (lossStep s)).entropyTest = _ ∧ (watchStep (lossStep s)).held = _ ∧
    (watchStep (lossStep s)).psp = _
  rw [watchStep_lossStep later, queuePage_mode, queuePage_entropyTest, queuePage_held, queuePage_psp]
  unfold lossRestored
  rw [lossStep_frame later]
  exact ⟨rfl, rfl, rfl, rfl⟩

theorem entry_startBase (k : KeyName) : entry (startBase s) k = { key := none, epoch := 0 } := by
  cases k with
  | band b => exact Vector.getElem_replicate _
  | cover => rfl
  | fill => rfl

/-- A band closed, with nothing pending. -/
def shutFlags : BandFlags := { readLocked := true, writeLocked := true, pendingLoad := false, held := false }

theorem startFlags_eq (s : State) (b : BandId) : startFlags s b =
    if barred s = true ∨ hasSecret s b = false then shutFlags
    else { readLocked := (record s b).rle, writeLocked := (record s b).wle || (record s b).rle, pendingLoad := false,
           held := false } := by
  unfold startFlags
  dsimp only
  rw [withLock_eq]
  exact if_congr (by simp) rfl rfl

theorem flags_startBase (s : State) (b : BandId) : flags (startBase s) b = startFlags (startBase s) b := get_tab16 _ b

theorem startBase_twu (later : s.startup.firstStart = false) : (startBase s).twu =
    { WatchUnit.powerOn with grace := restoredGrace (startBase s), counter := restoredCounter (startBase s),
                             status := s.twu.status } := by
  have watch : (lossRestored s).w.watch = { (lossStep s).w.watch with latch := restoredLatch (lossStep s) } := rfl
  have theft' : theft (startBase s) = theft (lossStep s) := by
    show (watchStep (lossStep s)).w.watch.theft = _
    rw [watchStep_lossStep later, queuePage_w, watch]
    rfl
  have grace : (startBase s).w.watch.graceSeconds = (lossStep s).w.watch.graceSeconds := by
    show (watchStep (lossStep s)).w.watch.graceSeconds = _
    rw [watchStep_lossStep later, queuePage_w, watch]
  have held : (startBase s).held = (lossStep s).held :=
    (startBase_same later).2.2.1.trans (lossStep_keeps (s := s)).held.symm
  have restored : restoredGrace (startBase s) = restoredGrace (lossStep s) ∧
      restoredCounter (startBase s) = restoredCounter (lossStep s) := by
    unfold restoredGrace restoredCounter
    rw [theft', grace, held]
    exact ⟨rfl, rfl⟩
  rw [restored.1, restored.2]
  show (watchStep (lossStep s)).twu = _
  rw [watchStep_lossStep later, queuePage_twu]
  show { WatchUnit.powerOn with grace := restoredGrace (lossStep s), counter := restoredCounter (lossStep s),
                                status := (lossStep s).twu.status } = _
  rw [lossStep_frame later]

theorem startBase_queues (later : s.startup.firstStart = false) : Queues s (startBase s) ∧
    ∀ p ∈ rewrites (lossWatched s), reference s p = none → pageOf (lossWatched s) p ≠ none →
      onList ((startBase s).ks.queue ++ (startBase s).ks.room) p = true := by
  obtain ⟨before, queued⟩ := lossStep_queues later
  have after : Queues (lossStep s) (startBase s) := by
    have watch : Queues (lossStep s) (watchStep (lossStep s)) := by
      rw [watchStep_lossStep later]
      exact (queuePage_queues _ _ _).after rfl
    exact watch.trans (.same rfl)
  exact ⟨before.trans after, fun p mem stale full => after.listed p (queued p mem stale full)⟩

theorem startBase_carried (later : s.startup.firstStart = false) : Carried watchPage (startBase s) ∧
    (rootLoss s = true → Carried journalPage (startBase s)) := by
  have queued : Carried watchPage (watchStep (lossStep s)) := by
    rw [watchStep_lossStep later]
    exact carried_queuePage_same _ _ _
  have journal (lost : rootLoss s = true) : Carried journalPage (watchStep (lossStep s)) := by
    rw [watchStep_lossStep later]
    exact carried_queuePage _ _ ((lossStep_carried later lost).congr rfl rfl)
  exact ⟨queued.keep rfl rfl, fun lost => (journal lost).keep rfl rfl⟩

end

/-! # A wipe is resumed -/

/-! ## A wipe is resumed (R153, R154) -/

/-- The Wipe Engine and the plan alone have changed, and pages have been queued. -/
structure Resumes (x : WipeEngine) (p : Plan) (s t : State) : Prop where
  frame : t = { s with w := { s.w with plan := p }, ks := t.ks, wipe := x }
  queues : Queues s t

section

variable {s t : State} {q : Plan}

theorem abandons_iff : abandons q = true ↔ q.cause = some .owner ∧ ∃ m : Fin 4, m ≠ 0 ∧ q.passes = .times m := by
  unfold abandons
  rw [Bool.and_eq_true, decide_eq_true_iff]
  refine and_congr_right fun _ => ?_
  cases q.passes with
  | times n => simp
  | continuous => simp

theorem resumeRoot_resumes : Resumes { s.wipe with activity := .rootWait, abandon := abandons s.w.plan } s.w.plan s (resumeRoot s) := by
  refine ⟨?_, ?_⟩
  · unfold resumeRoot journalWait
    rw [queuePage_frame, queuePage_frame watchPage]
  · have watch : Queues s (queuePage watchPage [.wipe]
        { s with wipe := { s.wipe with activity := .rootWait, abandon := abandons s.w.plan } }) :=
      (queuePage_queues _ _ _).after rfl
    exact watch.trans (queuePage_queues _ _ _)

theorem resumeFresh_resumes : Resumes
    { s.wipe with activity := .rootWait, abandon := false, rootNeeds := s.w.root.isNone }
    (freshPlan .theft (theftPasses s) .root) s (resumeFresh s) := by
  have root := resumeRoot_resumes (s := { setPlan (freshPlan .theft (theftPasses s) .root) s with
    wipe := { s.wipe with rootNeeds := s.w.root.isNone } })
  exact ⟨root.frame, root.queues.after rfl⟩

theorem resumeRootLost_resumes : Resumes
    { s.wipe with activity := .rebuildWait, abandon := abandons s.w.plan, rootNeeds := true }
    { s.w.plan with phase := .rebuild } s (resumeRootLost s) := by
  unfold resumeRootLost
  dsimp only
  split
  · rename_i phase
    refine ⟨?_, .same rfl⟩
    have same : { s.w.plan with phase := .rebuild } = s.w.plan := by rw [← phase]
    rw [same]
    rfl
  · have journal : Queues s (journalWait (setPlan { s.w.plan with phase := .rebuild }
        { s with wipe := { s.wipe with rootNeeds := true } })) := (queuePage_queues _ _ _).after rfl
    refine ⟨?_, journal.trans (.same rfl)⟩
    unfold resumeRebuild journalWait
    rw [queuePage_frame]
    rfl

theorem carried_resumeRootLost (carried : s.w.plan.phase = .rebuild → Carried journalPage s) :
    Carried journalPage (resumeRootLost s) := by
  unfold resumeRootLost
  dsimp only
  split
  · rename_i phase
    exact (carried phase).keep rfl rfl
  · have queued : Carried journalPage (journalWait (setPlan { s.w.plan with phase := .rebuild }
        { s with wipe := { s.wipe with rootNeeds := true } })) := carried_queuePage_same _ _ _
    exact queued.keep rfl rfl

theorem namePass_resumes (n : Nat) : Resumes
    { s.wipe with activity := .passWait, issuePoint := 0, written := 0, refused := 0 }
    { s.w.plan with phase := .scrub, pass := n, watermark := 0, written := 0, refused := 0 } s (namePass n s) := by
  refine ⟨?_, (queuePage_queues journalPage [.wipe] _).after rfl⟩
  unfold namePass journalWait
  rw [queuePage_frame]
  rfl

/-! ### Which way a wipe is resumed -/

theorem resumeStep_running (wiping : theft s = .wiping) (active : s.wipe.activity ≠ .idle) : resumeStep s = s := by
  unfold resumeStep
  rw [if_neg (by simp [wiping]), if_pos active]

theorem resumeStep_fresh (wiping : theft s = .wiping) (idle : s.wipe.activity = .idle) (done : s.w.plan.phase = .done) :
    resumeStep s = resumeFresh s := by
  unfold resumeStep
  rw [if_neg (by simp [wiping]), if_neg (by simp [idle]), if_pos done]

theorem resumeStep_rootless (wiping : theft s = .wiping) (idle : s.wipe.activity = .idle) (phase : s.w.plan.phase ≠ .done)
    (root : s.w.root = none) : resumeStep s = resumeRootLost s := by
  unfold resumeStep
  rw [if_neg (by simp [wiping]), if_neg (by simp [idle]), if_neg phase, if_pos (by simp [root])]

theorem resumeStep_phase {r : Secret} (wiping : theft s = .wiping) (idle : s.wipe.activity = .idle)
    (phase : s.w.plan.phase ≠ .done) (root : s.w.root = some r) :
    (s.w.plan.phase = .root → resumeStep s = resumeRoot s) ∧ (s.w.plan.phase = .rebuild → resumeStep s = resumeRebuild s) ∧
      (s.w.plan.phase = .scrub → resumeStep s = resumeScrub s) := by
  unfold resumeStep
  rw [if_neg (by simp [wiping]), if_neg (by simp [idle]), if_neg phase, if_neg (by simp [root])]
  refine ⟨fun at' => ?_, fun at' => ?_, fun at' => ?_⟩ <;> rw [at']

theorem ignoreJournal_resumes : ∃ p, Resumes s.wipe p s (ignoreJournal s) := by
  unfold ignoreJournal
  split
  · exact ⟨s.w.plan, rfl, .refl s⟩
  · refine ⟨{ s.w.plan with phase := .done }, ?_, (queuePage_queues journalPage [] _).after rfl⟩
    unfold journalQueue
    rw [queuePage_frame]
    rfl

/-! ### A scrub is abandoned -/

theorem abandonScrub_frame : abandonScrub s =
    { s with
      w := { s.w with watch := watchAs .wiped s.w.watch }, twu := countersAs .wiped s.twu, bands := (abandonScrub s).bands,
      keys := { s.keys with bands := (abandonScrub s).keys.bands }, ks := (abandonScrub s).ks,
      psp := { s.psp with notice := (abandonScrub s).psp.notice },
      link := { s.link with outbound := (abandonScrub s).link.outbound },
      engine := { s.engine with wipe := (abandonScrub s).engine.wipe },
      wipe := { s.wipe with activity := .doneWait, toHand := (abandonScrub s).wipe.toHand,
                            ring := (storeResult .abandoned (if s.w.plan.pass = 0 then 1 else s.w.plan.pass) s.w.plan.written
                              s.w.plan.refused s).wipe.ring,
                            ringNext := s.wipe.ringNext + 1 } } := by
  unfold abandonScrub
  dsimp only
  rw [goDone_frame, storeResult_frame]

theorem goDone_psp (down : linkUp s = false) : (goDone s).psp = s.psp := by
  have core : (theftCore .wiped s).psp = s.psp := by rw [theftCore_eq, queuePage_psp, theftMoved, bandsAs_frame]
  have down' : linkUp (theftCore .wiped s) = false := (linkUp_congr (theftCore_mode _)).trans down
  unfold goDone announce
  rw [if_neg (by simp [down']), handOpenLoad_frame]
  exact core

theorem abandonScrub_psp (down : linkUp s = false) : (abandonScrub s).psp = s.psp := by
  have stored : (storeResult .abandoned (if s.w.plan.pass = 0 then 1 else s.w.plan.pass) s.w.plan.written s.w.plan.refused s).psp =
      s.psp := by
    rw [storeResult_frame]
    dsimp only
    rw [if_neg (by simp [down])]
    show { s.psp with notice := s.psp.notice ||| 0 } = s.psp
    have same : s.psp.notice ||| 0 = s.psp.notice := BitVec.or_zero
    rw [same]
  exact (goDone_psp (s := storeResult _ _ _ _ s) down).trans stored

theorem goDone_band (b : BandId) : flags (goDone s) b = (awaitPair s b).1 ∧ entry (goDone s) (.band b) = (awaitPair s b).2 := by
  obtain ⟨flags', entry'⟩ := theftCore_wiped_band (s := s) b
  have announced : (announce (theftCore .wiped s)).bands = (theftCore .wiped s).bands ∧
      (announce (theftCore .wiped s)).keys = (theftCore .wiped s).keys := ⟨announce_bands, announce_keys⟩
  refine ⟨?_, ?_⟩
  · rw [← flags']
    unfold goDone
    rw [handOpenLoad_frame, flags, flags, ← announced.1]
    rfl
  · rw [← entry']
    unfold goDone
    rw [handOpenLoad_frame, entry, entry, ← announced.2]
    rfl

theorem goDone_queues : Queues s (goDone s) := by
  have core : Queues s (announce (theftCore .wiped s)) := .ofWatch ((theftCore_watch .wiped).trans announce_watch)
  have handed : Queues (announce (theftCore .wiped s)) (goDone s) := .same (by unfold goDone; rw [handOpenLoad_frame]; rfl)
  exact core.trans handed

end

/-! # The indicators during start-up -/

/-! ## The indicators before the link is UP (R117, R130, R132, R180) -/

/-- No live key is present, and the bands stand as start-up locks them. -/
structure Standing (s : State) : Prop where
  keys : ∀ k : KeyName, entry s k = { key := none, epoch := 0 }
  bands : ∀ b : BandId, flags s b = startFlags s b

/-- What an indicator's assertion does during start-up, while no order is open. -/
structure Reacts (s t : State) : Prop where
  watch : WatchOnly s t
  psp : linkUp s = false → t.psp = s.psp
  counter : s.twu.counter = 0 → t.twu.counter = 0
  standing : Standing s → Standing t

section

variable {s t u : State}

theorem Reacts.refl (s : State) : Reacts s s := ⟨.refl s, fun _ => rfl, id, id⟩

theorem Reacts.trans (h : Reacts s t) (k : Reacts t u) : Reacts s u where
  watch := h.watch.trans k.watch
  psp := fun down => by
    have same : t.mode = s.mode := by rw [h.watch.frame]
    exact (k.psp ((linkUp_congr same).trans down)).trans (h.psp down)
  counter := k.counter ∘ h.counter
  standing := k.standing ∘ h.standing

theorem announce_down (down : linkUp s = false) : announce s = s := by
  unfold announce
  rw [if_neg (by simp [down])]

theorem Standing.held (h : Standing s) (b : BandId) : (flags s b).held = false := by
  rw [h.bands, startFlags_eq]
  split <;> rfl

/-- Entry into ALARM or WIPING closes the bands and leaves no key. -/
theorem Standing.bars (h : Standing s) (bars : barred t = true)
    (bands : ∀ b, flags t b = { flags s b with readLocked := true, writeLocked := true, pendingLoad := false })
    (keys : ∀ b : BandId, entry t (.band b) = removed (entry s (.band b))) (cover : t.keys.cover = s.keys.cover)
    (fill : t.keys.fill = s.keys.fill) : Standing t := by
  refine ⟨fun k => ?_, fun b => ?_⟩
  · cases k with
    | band b =>
      rw [keys, h.keys]
      rfl
    | cover => exact cover.trans (h.keys .cover)
    | fill => exact fill.trans (h.keys .fill)
  · rw [bands, startFlags_eq, if_pos (.inl bars)]
    exact congrArg (fun x => (⟨true, true, false, x⟩ : BandFlags)) (h.held b)

theorem flags_theftCore_barred {x : Theft} (bars : x = .alarm ∨ x = .wiping) (b : BandId) : flags (theftCore x s) b =
    { flags s b with readLocked := true, writeLocked := true, pendingLoad := false } := by
  rw [theftCore_flags]
  rcases bars with rfl | rfl <;> exact flags_shutBands b

theorem changeTheft_alarm_reacts (orders : noOrders s = true) : Reacts s (changeTheft .alarm s) := by
  have enters := changeTheft_alarm orders
  refine ⟨changeTheft_watch _ orders, fun down => ?_, fun zero => ?_, fun standing => ?_⟩
  · have react := lanesReact_traffic (theftCore_noOrders .alarm orders)
    have down' : linkUp (lanesReact (theftCore .alarm s)) = false :=
      (linkUp_congr (react.mode.trans (theftCore_mode _))).trans down
    rw [changeTheft, announce_down down', react.psp, theftCore_eq, queuePage_psp, theftMoved, bandsAs_frame]
  · rw [enters.twu]
    exact zero
  · refine standing.bars ?_ (fun b => ?_) enters.removed enters.cover enters.fill
    · unfold barred theft
      rw [enters.w]
      rfl
    · rw [flags, changeTheft_bands _ orders]
      exact flags_theftCore_barred (.inl rfl) b

theorem enterWiping_reacts (c : Cause) (p : Passes) (orders : noOrders s = true) : Reacts s (enterWiping c p s) := by
  have enters := enterWiping_enters c p orders
  have orders' : noOrders (wipingCore c p s) = true := by
    unfold noOrders
    rw [wipingCore_wipe]
    exact orders
  have react := lanesReact_traffic orders'
  refine ⟨enterWiping_watch c p orders, fun down => ?_, fun zero => ?_, fun standing => ?_⟩
  · have down' : linkUp (lanesReact (wipingCore c p s)) = false :=
      (linkUp_congr (react.mode.trans (wipingCore_mode c p))).trans down
    rw [enterWiping_eq, announce_down down', react.psp, wipingCore, wipeBegin_frame, theftCore_eq, queuePage_psp, theftMoved,
      bandsAs_frame]
  · rw [enters.twu]
    rfl
  · refine standing.bars ?_ (fun b => ?_) enters.removed enters.cover enters.fill
    · unfold barred theft
      rw [enters.w]
      rfl
    · rw [flags, enterWiping_eq, announce_bands, react.bands, wipingCore, wipeBegin_frame]
      exact flags_theftCore_barred (.inr rfl) b

theorem enterAlarm_reacts (orders : noOrders s = true) : Reacts s (enterAlarm s) := by
  unfold enterAlarm
  split
  · split
    · exact enterWiping_reacts _ _ orders
    · exact changeTheft_alarm_reacts orders
  · exact changeTheft_alarm_reacts orders

theorem suspectCore_reacts (i : Indicator) (n : Nat) (armed : theft s = .armed) : Reacts s (announce (suspectCore i n s)) := by
  have frame : suspectCore i n s = { s with
      w := { s.w with watch := { s.w.watch with theft := .suspect, cause := some i, graceSeconds := n } },
      twu := { s.twu with grace := n * Config.ticksPerSecond }, ks := (suspectCore i n s).ks } := by
    unfold suspectCore
    rw [queuePage_frame]
  refine ⟨(suspectCore_watch i n).trans announce_watch, fun down => ?_, fun zero => ?_, fun standing => ?_⟩
  · have down' : linkUp (suspectCore i n s) = false := by rw [frame]; exact down
    rw [announce_down down', frame]
  · rw [announce_twu, frame]
    exact zero
  · have bars : barred s = false ∧ barred (announce (suspectCore i n s)) = false := by
      unfold barred theft at *
      rw [armed, announce_w, frame]
      exact ⟨rfl, rfl⟩
    have same (b : BandId) : startFlags (announce (suspectCore i n s)) b = startFlags s b := by
      rw [startFlags_eq, startFlags_eq, bars.1, bars.2]
      unfold hasSecret record
      rw [announce_w, frame]
    refine ⟨fun k => ?_, fun b => ?_⟩
    · have keys : (announce (suspectCore i n s)).keys = s.keys := by rw [announce_keys, frame]
      unfold entry
      rw [keys]
      exact standing.keys k
    · rw [same, flags, announce_bands, frame]
      exact standing.bands b

theorem evaluate_reacts (i : Indicator) (orders : noOrders s = true) : Reacts s (evaluate i s) := by
  unfold evaluate assertIndicator
  split
  · split
    · split
      · rename_i armed
        unfold enterSuspect
        split
        · split
          · exact enterAlarm_reacts orders
          · exact suspectCore_reacts i _ armed
        · exact .refl s
      · split
        · exact .refl s
        · exact enterAlarm_reacts orders
      · exact .refl s
    · exact .refl s
  · exact .refl s

/-- The indicators one after the other, once the meters run. -/
theorem meterStep_reacts (orders : noOrders s = true) : Reacts (startMeters s) (meterStep s) := by
  have next {v w : State} (h : Reacts v w) (none' : noOrders v = true) : noOrders w = true := h.watch.noOrders.trans none'
  have first := evaluate_reacts .checkin (s := startMeters s) orders
  have orders1 := next first orders
  have second := evaluate_reacts .tether orders1
  have orders2 := next second orders1
  have third := evaluate_reacts .tamper orders2
  exact ((first.trans second).trans third).trans (evaluate_reacts .budget (next third orders2))

theorem evaluate_unasserted {i : Indicator} (quiet : asserted s i = false) : evaluate i s = s := if_neg (by simp [quiet])

/-- With no indicator asserted the meters start, and nothing more happens. -/
theorem meterStep_quiet (quiet : ∀ i : Indicator, asserted (startMeters s) i = false) : meterStep s = startMeters s := by
  unfold meterStep
  rw [evaluate_unasserted (quiet .checkin), evaluate_unasserted (quiet .tether), evaluate_unasserted (quiet .tamper),
    evaluate_unasserted (quiet .budget)]

/-- In WIPING and WIPED an indicator changes nothing. -/
theorem meterStep_wiping (rest : theft s = .wiping ∨ theft s = .wiped) : meterStep s = startMeters s := by
  have still (i : Indicator) : evaluate i (startMeters s) = startMeters s := by
    unfold evaluate
    rw [assertIndicator_still i]
    · split <;> rfl
    · show theft s ≠ _
      rcases rest with h | h <;> simp [h]
    · show theft s ≠ _
      rcases rest with h | h <;> simp [h]
  unfold meterStep
  rw [still, still, still, still]

end

/-! # The last steps of start-up -/

/-! ## From the key job's handing to the end of start-up's steps (R117, R153, R181) -/

/-- What the last steps of start-up leave as it is. -/
structure Onward (s t : State) : Prop where
  mode : t.mode = s.mode
  psp : t.psp = s.psp
  startup : t.startup = s.startup
  held : t.held = s.held
  entropyTest : t.entropyTest = s.entropyTest
  w : t.w = { s.w with watch := t.w.watch, plan := t.w.plan }
  latch : t.w.watch.latch = s.w.watch.latch
  policy : t.w.watch.policy = s.w.watch.policy
  queues : Queues s t
  counter : s.twu.counter = 0 → t.twu.counter = 0
  orders : noOrders t = noOrders s

section

variable {s t u : State} {x : WipeEngine} {p : Plan}

theorem Onward.refl (s : State) : Onward s s := ⟨rfl, rfl, rfl, rfl, rfl, rfl, rfl, rfl, .refl s, id, rfl⟩

theorem Onward.trans (h : Onward s t) (k : Onward t u) : Onward s u where
  mode := k.mode.trans h.mode
  psp := k.psp.trans h.psp
  startup := k.startup.trans h.startup
  held := k.held.trans h.held
  entropyTest := k.entropyTest.trans h.entropyTest
  w := by rw [k.w, h.w]
  latch := k.latch.trans h.latch
  policy := k.policy.trans h.policy
  queues := h.queues.trans k.queues
  counter := k.counter ∘ h.counter
  orders := k.orders.trans h.orders

theorem Resumes.onward (h : Resumes x p s t) (orders : x.orders = s.wipe.orders) : Onward s t := by
  obtain ⟨frame, queues⟩ := h
  have wipe : t.wipe = x := by rw [frame]
  refine ⟨?_, ?_, ?_, ?_, ?_, ?_, ?_, ?_, queues, fun zero => ?_, ?_⟩
  · rw [frame]
  · rw [frame]
  · rw [frame]
  · rw [frame]
  · rw [frame]
  · rw [frame]
  · rw [frame]
  · rw [frame]
  · rw [frame]
    exact zero
  · unfold noOrders
    rw [wipe, orders]

theorem abandonScrub_onward (down : linkUp s = false) : Onward s (abandonScrub s) := by
  have frame := abandonScrub_frame (s := s)
  have psp := abandonScrub_psp down
  have queues : Queues s (abandonScrub s) := (goDone_queues (s := storeResult _ _ _ _ s)).after rfl
  generalize abandonScrub s = t at *
  refine ⟨?_, psp, ?_, ?_, ?_, ?_, ?_, ?_, queues, fun _ => ?_, ?_⟩
  · rw [frame]
  · rw [frame]
  · rw [frame]
  · rw [frame]
  · rw [frame]
  · rw [frame]
    rfl
  · rw [frame]
    rfl
  · rw [frame]
    rfl
  · rw [frame]
    rfl

theorem startMeters_onward : Onward s (startMeters s) :=
  ⟨rfl, rfl, rfl, rfl, rfl, rfl, rfl, rfl, .same rfl, id, rfl⟩

theorem Reacts.onward (h : Reacts s t) (down : linkUp s = false) : Onward s t := by
  have psp := h.psp down
  have frame := h.watch.frame
  refine ⟨?_, psp, ?_, ?_, ?_, ?_, h.watch.latch, h.watch.policy, .ofWatch h.watch, h.counter, h.watch.noOrders⟩
  all_goals rw [frame]

/-- The meters have started (R127, R128). -/
structure Metered (s t : State) : Prop where
  run : t.twu.tetherRun = 0
  on : t.twu.meterOn = decide (0 < t.w.config.period)
  lost : t.twu.tetherLost = restoredTether s

theorem meterStep_metered (orders : noOrders s = true) : Metered s (meterStep s) := by
  have frame := (meterStep_reacts orders).watch.frame
  generalize meterStep s = t at *
  refine ⟨?_, ?_, ?_⟩ <;> rw [frame] <;> rfl

/-- Start-up's steps 8 and 9. -/
def started (s : State) : State := meterStep (resumeStep (startBase s))

theorem entropyStep_later (later : s.startup.firstStart = false) : entropyStep s = { s with entropyFailed := !s.entropyTest } := by
  unfold entropyStep
  dsimp only
  rw [if_neg (by simp [later])]

theorem laterSteps_started (later : s.startup.firstStart = false) : laterSteps s =
    { started s with entropyFailed := !s.entropyTest, held := none } := by
  have base := startBase_same later
  have startup : (started s).startup.firstStart = false := by
    have same : (started s).startup = (startBase s).startup := (resumeStep_keeps.trans meterStep_keeps).startup
    rw [same, startBase_startup later]
    exact later
  have test : (started s).entropyTest = s.entropyTest := (resumeStep_keeps.trans meterStep_keeps).entropyTest.trans base.2.1
  rw [laterSteps_eq, startEnd]
  show { entropyStep (started s) with held := none } = _
  rw [entropyStep_later startup]
  exact congrArg (fun b => { started s with entropyFailed := !b, held := none }) test

/-! ### A theft state other than WIPING -/

theorem startBase_standing : Standing (startBase s) := ⟨entry_startBase, flags_startBase s⟩

theorem Standing.resumes (h : Standing s) (k : Resumes x p s t) : Standing t := by
  have frame := k.frame
  have same (b : BandId) : startFlags t b = startFlags s b := by
    rw [frame]
    rfl
  refine ⟨fun k => ?_, fun b => ?_⟩
  · rw [frame]
    exact h.keys k
  · rw [same, ← h.bands b, frame]
    rfl

theorem resumeStep_other (rest : theft s ≠ .wiping) : ∃ p, Resumes s.wipe p s (resumeStep s) := by
  unfold resumeStep
  rw [if_pos rest]
  exact ignoreJournal_resumes

/-- The start-up of a part that is not in WIPING. -/
structure Watches (s t : State) : Prop where
  onward : Onward (startBase s) t
  metered : Metered (startBase s) t
  standing : Standing t

theorem started_watches (later : s.startup.firstStart = false) (orders : noOrders (startBase s) = true)
    (down : linkUp s = false) (rest : theft (startBase s) ≠ .wiping) : Watches s (started s) := by
  obtain ⟨p, resumes⟩ := resumeStep_other rest
  have onward := resumes.onward rfl
  have down' : linkUp (resumeStep (startBase s)) = false :=
    (linkUp_congr (onward.mode.trans (startBase_same later).1)).trans down
  have orders' : noOrders (resumeStep (startBase s)) = true := onward.orders.trans orders
  have reacts := meterStep_reacts orders'
  obtain ⟨run, on, lost⟩ := meterStep_metered orders'
  refine ⟨(onward.trans startMeters_onward).trans (reacts.onward down'), ⟨run, on, lost.trans ?_⟩, reacts.standing ?_⟩
  · unfold restoredTether
    rw [onward.held]
  · exact ⟨(startBase_standing.resumes resumes).keys, (startBase_standing.resumes resumes).bands⟩

/-- No indicator is asserted where the latch and the filter are clear, and the counter and the failures below the limits. -/
theorem meterStep_calm (rest : theft s ≠ .wiping) (lost : restoredTether s = false) (latch : s.w.watch.latch = false)
    (limits : ∀ q : Policy, s.w.watch.policy = some q → s.twu.counter < watchPeriod q.periodIndex ∧ failureSum s < q.budget) :
    meterStep (resumeStep s) = startMeters (resumeStep s) := by
  obtain ⟨p, frame, -⟩ := resumeStep_other rest
  refine meterStep_quiet fun i => ?_
  rw [frame]
  cases i with
  | checkin =>
    show (s.w.watch.policy.any fun q => decide (watchPeriod q.periodIndex ≤ s.twu.counter)) = false
    cases policy : s.w.watch.policy with
    | none => rfl
    | some q => exact decide_eq_false (Nat.not_le.mpr (limits q policy).1)
  | tether => exact lost
  | tamper => exact latch
  | budget =>
    show (s.w.watch.policy.any fun q => decide (q.budget ≤ failureSum s)) = false
    cases policy : s.w.watch.policy with
    | none => rfl
    | some q => exact decide_eq_false (Nat.not_le.mpr (limits q policy).2)

/-- With no indicator asserted the watch is as restored. -/
theorem started_quiet (later : s.startup.firstStart = false) (rest : theft (startBase s) ≠ .wiping)
    (lost : restoredTether s = false) (latch : restoredLatch s = false)
    (limits : ∀ q : Policy, (startBase s).w.watch.policy = some q →
      (startBase s).twu.counter < watchPeriod q.periodIndex ∧ failureSum (startBase s) < q.budget) :
    (started s).w.watch = (startBase s).w.watch ∧ (started s).twu.grace = restoredGrace (startBase s) ∧
      (started s).twu.counter = restoredCounter (startBase s) := by
  have lost' : restoredTether (startBase s) = false := by
    unfold restoredTether
    rw [(startBase_same later).2.2.1]
    exact lost
  have latch' : (startBase s).w.watch.latch = false := by
    rw [startBase_w later]
    exact latch
  have calm : started s = startMeters (resumeStep (startBase s)) := meterStep_calm rest lost' latch' limits
  obtain ⟨p, frame, -⟩ := resumeStep_other rest
  have twu : (resumeStep (startBase s)).twu = (startBase s).twu := by rw [frame]
  have watch : (resumeStep (startBase s)).w.watch = (startBase s).w.watch := by rw [frame]
  rw [calm]
  refine ⟨watch, ?_, ?_⟩
  · show (resumeStep (startBase s)).twu.grace = _
    rw [twu, startBase_twu later]
  · show (resumeStep (startBase s)).twu.counter = _
    rw [twu, startBase_twu later]

end

/-! # Start-up in WIPING -/

/-! ## Start-up in WIPING (R148, R153, R154) -/

/-- A band of a part that start-up found in WIPING: closed, and held for its open load where the wipe has reached DONE. -/
def wipingFlags (s : State) (b : BandId) : BandFlags :=
  { readLocked := true, writeLocked := true, held := false,
    pendingLoad := decide (theft s = .wiped) && hasSecret s b && !(record s b).rle }

/-- A wipe has been resumed, or its scrub abandoned. -/
structure Recovers (s t : State) : Prop where
  onward : Onward s t
  keys : ∀ k : KeyName, entry t k = { key := none, epoch := 0 }
  bands : ∀ b : BandId, flags t b = wipingFlags t b
  rest : theft t = .wiping ∨ theft t = .wiped
  watch : t.w.watch = s.w.watch ∨ t.w.watch = watchAs .wiped s.w.watch

section

variable {s t : State} {x : WipeEngine} {p : Plan} {b : BandId}

theorem Standing.shut (h : Standing s) (wiping : theft s = .wiping) (b : BandId) : flags s b = shutFlags := by
  rw [h.bands, startFlags_eq]
  exact if_pos (.inl (by simp [barred, wiping]))

theorem wipingFlags_wiping (wiping : theft s = .wiping) (b : BandId) : wipingFlags s b = shutFlags := by
  unfold wipingFlags
  rw [wiping]
  rfl

theorem Resumes.recovers (h : Resumes x p s t) (orders : x.orders = s.wipe.orders) (standing : Standing s)
    (wiping : theft s = .wiping) : Recovers s t := by
  have stands := standing.resumes h
  have wiping' : theft t = .wiping := by
    rw [h.frame]
    exact wiping
  refine ⟨h.onward orders, stands.keys, fun b => ?_, .inl wiping', .inl (by rw [h.frame])⟩
  rw [wipingFlags_wiping wiping', stands.shut wiping']

/-- A closed band as the entry into WIPED leaves it. -/
theorem awaitPair_shut (shut : flags s b = shutFlags) (absent : entry s (.band b) = { key := none, epoch := 0 }) :
    awaitPair s b = ({ shutFlags with pendingLoad := hasSecret s b && !(record s b).rle }, { key := none, epoch := 0 }) := by
  have free : (flags s b).held = false := by rw [shut]; rfl
  have key : s.keys.bands.get b = { key := none, epoch := 0 } := absent
  cases secret : hasSecret s b with
  | true =>
    rw [awaitPair_free free secret, shut, key]
    rfl
  | false =>
    unfold awaitPair
    dsimp only
    rw [free, secret]
    show bandPair s b = _
    unfold bandPair
    rw [shut, key]
    rfl

theorem abandonScrub_recovers (standing : Standing s) (wiping : theft s = .wiping) (down : linkUp s = false) :
    Recovers s (abandonScrub s) := by
  have frame := abandonScrub_frame (s := s)
  have band (b : BandId) := goDone_band (s := storeResult .abandoned (if s.w.plan.pass = 0 then 1 else s.w.plan.pass)
    s.w.plan.written s.w.plan.refused s) b
  have await (b : BandId) : awaitPair (storeResult .abandoned (if s.w.plan.pass = 0 then 1 else s.w.plan.pass)
      s.w.plan.written s.w.plan.refused s) b = awaitPair s b := rfl
  have wiped : theft (abandonScrub s) = .wiped := by
    rw [frame]
    rfl
  have same (b : BandId) : hasSecret (abandonScrub s) b = hasSecret s b ∧ record (abandonScrub s) b = record s b := by
    rw [frame]
    exact ⟨rfl, rfl⟩
  refine ⟨abandonScrub_onward down, fun k => ?_, fun b => ?_, .inr wiped, .inr (by rw [frame])⟩
  · cases k with
    | band b =>
      obtain ⟨-, entry'⟩ := band b
      rw [await, awaitPair_shut (standing.shut wiping b) (standing.keys _)] at entry'
      exact entry'
    | cover =>
      rw [frame]
      exact standing.keys .cover
    | fill =>
      rw [frame]
      exact standing.keys .fill
  · obtain ⟨flags', -⟩ := band b
    obtain ⟨secret, rec'⟩ := same b
    rw [await, awaitPair_shut (standing.shut wiping b) (standing.keys _)] at flags'
    unfold wipingFlags
    rw [wiped, secret, rec']
    exact flags'

theorem resumeRebuild_resumes : Resumes { s.wipe with activity := .rebuildWait, abandon := abandons s.w.plan } s.w.plan s
    (resumeRebuild s) := ⟨rfl, .same rfl⟩

/-- The resumption of a scrub that goes on at its watermark. -/
def scrubWipe (s : State) : WipeEngine :=
  { s.wipe with activity := .passWait, issuePoint := s.w.plan.watermark, written := s.w.plan.written,
                refused := s.w.plan.refused }

theorem resumeScrub_abandons (abandon : abandons s.w.plan = true) : resumeScrub s = abandonScrub s := if_pos abandon

theorem resumeScrub_renames (kept : abandons s.w.plan = false) (owner : s.w.plan.cause = some .owner) :
    resumeScrub s = namePass 1 s := by
  unfold resumeScrub
  dsimp only
  rw [if_neg (by simp [kept]), if_pos owner]

theorem resumeScrub_goes (other : s.w.plan.cause ≠ some .owner) : resumeScrub s = { s with wipe := scrubWipe s } := by
  have kept : abandons s.w.plan = false := Bool.eq_false_iff.mpr fun h => other (abandons_iff.mp h).1
  unfold resumeScrub
  dsimp only
  rw [if_neg (by simp [kept]), if_neg other]
  rfl

theorem resumeScrub_recovers (standing : Standing s) (wiping : theft s = .wiping) (down : linkUp s = false) :
    Recovers s (resumeScrub s) := by
  cases abandon : abandons s.w.plan with
  | true =>
    rw [resumeScrub_abandons abandon]
    exact abandonScrub_recovers standing wiping down
  | false =>
    by_cases owner : s.w.plan.cause = some .owner
    · rw [resumeScrub_renames abandon owner]
      exact (namePass_resumes 1).recovers rfl standing wiping
    · rw [resumeScrub_goes owner]
      have goes : Resumes (scrubWipe s) s.w.plan s { s with wipe := scrubWipe s } := ⟨rfl, .same rfl⟩
      exact goes.recovers rfl standing wiping

/-- However the wipe stands, start-up resumes it. -/
theorem resumeStep_recovers (standing : Standing s) (wiping : theft s = .wiping) (down : linkUp s = false) :
    Recovers s (resumeStep s) := by
  have still : Resumes s.wipe s.w.plan s s := ⟨rfl, .refl s⟩
  by_cases idle : s.wipe.activity = .idle
  · by_cases done : s.w.plan.phase = .done
    · rw [resumeStep_fresh wiping idle done]
      exact resumeFresh_resumes.recovers rfl standing wiping
    · cases root : s.w.root with
      | none =>
        rw [resumeStep_rootless wiping idle done root]
        exact resumeRootLost_resumes.recovers rfl standing wiping
      | some r =>
        obtain ⟨atRoot, atRebuild, atScrub⟩ := resumeStep_phase wiping idle done root
        cases phase : s.w.plan.phase with
        | root =>
          rw [atRoot phase]
          exact resumeRoot_resumes.recovers rfl standing wiping
        | rebuild =>
          rw [atRebuild phase]
          exact resumeRebuild_resumes.recovers rfl standing wiping
        | scrub =>
          rw [atScrub phase]
          exact resumeScrub_recovers standing wiping down
        | done => exact absurd phase done
  · rw [resumeStep_running wiping idle]
    exact still.recovers rfl standing wiping

/-- The start-up of a part in WIPING: the meters start behind the resumption, and no indicator acts. -/
structure ResumesWipe (s t : State) : Prop where
  meters : t = startMeters (resumeStep (startBase s))
  recovers : Recovers (startBase s) (resumeStep (startBase s))

theorem started_resumes (later : s.startup.firstStart = false) (down : linkUp s = false)
    (wiping : theft (startBase s) = .wiping) : ResumesWipe s (started s) := by
  have down' : linkUp (startBase s) = false := (linkUp_congr (startBase_same later).1).trans down
  have recovers := resumeStep_recovers startBase_standing wiping down'
  exact ⟨meterStep_wiping recovers.rest, recovers⟩

end

/-! # What start-up restores -/

/-! ## What start-up restores (R117, R128, R153, R154, R166, R179) -/

/-- What every start-up but a first one leaves, once it has handed its key job. -/
structure StartsUp (s t : State) : Prop where
  mode : t.mode = s.mode
  psp : t.psp = s.psp
  startup : t.startup = { s.startup with restored := (lossWatch s).theft }
  w : t.w = { s.w with watch := t.w.watch, plan := t.w.plan }
  latch : t.w.watch.latch = restoredLatch s
  policy : t.w.watch.policy = s.w.watch.policy
  queues : Queues (startBase s) t
  run : t.twu.tetherRun = 0
  on : t.twu.meterOn = decide (0 < t.w.config.period)
  lost : t.twu.tetherLost = restoredTether s
  counter : s.held = none → t.twu.counter = 0
  keys : ∀ k : KeyName, entry t k = { key := none, epoch := 0 }
  other : (lossWatch s).theft ≠ .wiping → ∀ b : BandId, flags t b = startFlags t b
  wiping : (lossWatch s).theft = .wiping → ∀ b : BandId, flags t b = wipingFlags t b

section

variable {s t : State}

theorem lossWatch_policy (s : State) : (lossWatch s).policy = s.w.watch.policy := by
  unfold lossWatch watchAs
  split <;> rfl

theorem restoredCounter_unheld (held : s.held = none) : restoredCounter s = 0 := by
  unfold restoredCounter
  rw [held]
  split <;> rfl

/-- The clauses that both ways of going on share. -/
theorem startsUp_of (later : s.startup.firstStart = false) (onward : Onward (startBase s) t)
    (metered : Metered (startBase s) t) (keys : ∀ k : KeyName, entry t k = { key := none, epoch := 0 })
    (other : (lossWatch s).theft ≠ .wiping → ∀ b : BandId, flags t b = startFlags t b)
    (wiping : (lossWatch s).theft = .wiping → ∀ b : BandId, flags t b = wipingFlags t b) : StartsUp s t := by
  obtain ⟨mode, -, held, psp⟩ := startBase_same later
  have w := startBase_w later
  refine ⟨onward.mode.trans mode, onward.psp.trans psp, ?_, ?_, ?_, ?_, onward.queues, metered.run, metered.on, ?_, fun none' => ?_,
    keys, other, wiping⟩
  · rw [onward.startup, startBase_startup later, theft_startBase later]
  · rw [onward.w, w]
  · rw [onward.latch, w]
    rfl
  · rw [onward.policy, w]
    exact lossWatch_policy s
  · rw [metered.lost]
    unfold restoredTether
    rw [held]
  · refine onward.counter ?_
    rw [startBase_twu later]
    exact restoredCounter_unheld (held.trans none')

theorem startMeters_metered {u : State} (held : t.held = u.held) : Metered u (startMeters t) := by
  refine ⟨rfl, rfl, ?_⟩
  show restoredTether t = _
  unfold restoredTether
  rw [held]

theorem started_startsUp (later : s.startup.firstStart = false) (orders : noOrders (startBase s) = true)
    (down : linkUp s = false) : StartsUp s (started s) := by
  have theft' := theft_startBase later
  by_cases wiping : theft (startBase s) = .wiping
  · obtain ⟨meters, recovers⟩ := started_resumes later down wiping
    rw [meters]
    refine startsUp_of later (recovers.onward.trans startMeters_onward) (startMeters_metered recovers.onward.held)
      recovers.keys (fun other => absurd (theft'.symm.trans wiping) other) fun _ => recovers.bands
  · obtain ⟨onward, metered, standing⟩ := started_watches later orders down wiping
    exact startsUp_of later onward metered standing.keys (fun _ => standing.bands)
      fun wiped => absurd (theft'.trans wiped) wiping

/-! ### A wipe that a lost root secret begins -/

theorem rootless_starts (later : s.startup.firstStart = false) (down : linkUp s = false) (lost : rootLoss s = true) :
    (lossWatch s).theft = .wiping ∧ theft (started s) = .wiping ∧ (started s).wipe = rootlessWipe s ∧
      (started s).w.plan = freshPlan .storeLoss (.times 0) .rebuild ∧ Carried watchPage (started s) ∧
      Carried journalPage (started s) := by
  have watch : (lossWatch s).theft = .wiping := by
    unfold lossWatch
    rw [if_pos lost]
    rfl
  have wiping : theft (startBase s) = .wiping := (theft_startBase later).trans watch
  have wipe : (startBase s).wipe = rootlessWipe s := (startBase_wipe later).trans (if_pos lost)
  have meters := (started_resumes later down wiping).meters
  have active : (startBase s).wipe.activity ≠ .idle := by rw [wipe]; exact WipeActivity.noConfusion
  rw [resumeStep_running wiping active] at meters
  obtain ⟨watchCarried, journalCarried⟩ := startBase_carried later
  rw [meters]
  refine ⟨watch, wiping, wipe, ?_, watchCarried.keep rfl rfl, (journalCarried lost).keep rfl rfl⟩
  show (startBase s).w.plan = _
  rw [startBase_w later]
  exact if_pos lost

/-! ### A wipe that is resumed -/

/-- The part in WIPING as start-up comes to its journal. -/
structure WipingBase (s : State) : Prop where
  theft : theft (startBase s) = .wiping
  idle : (startBase s).wipe = WipeEngine.powerOn
  plan : (startBase s).w.plan = s.w.plan
  root : (startBase s).w.root = s.w.root
  passes : theftPasses (startBase s) = theftPasses s
  watch : (lossWatch s).theft = .wiping

theorem theftPasses_congr (policy : t.w.watch.policy = s.w.watch.policy) : theftPasses t = theftPasses s := by
  unfold theftPasses
  rw [policy]

theorem wipingBase (later : s.startup.firstStart = false) (fresh : s.wipe = WipeEngine.powerOn)
    (wiping : Machine.theft s = .wiping) : WipingBase s := by
  have kept : rootLoss s = false := by
    unfold rootLoss
    rw [wiping]
    simp
  have watch : lossWatch s = s.w.watch := if_neg (by simp [kept])
  have plan : lossPlan s = s.w.plan := if_neg (by simp [kept])
  have wipe : lossWipe s = s.wipe := if_neg (by simp [kept])
  have w := startBase_w later
  refine ⟨?_, ((startBase_wipe later).trans wipe).trans fresh, ?_, ?_, ?_, ?_⟩
  · rw [theft_startBase later, watch]
    exact wiping
  · rw [w]
    exact plan
  · rw [w]
  · refine theftPasses_congr ?_
    rw [w]
    exact lossWatch_policy s
  · rw [watch]
    exact wiping

section

variable (later : s.startup.firstStart = false) (fresh : s.wipe = WipeEngine.powerOn) (down : linkUp s = false)
  (wiping : theft s = .wiping)
include later fresh down wiping

theorem started_meters : started s = startMeters (resumeStep (startBase s)) :=
  (started_resumes later down (wipingBase later fresh wiping).theft).meters

theorem started_fresh (done : s.w.plan.phase = .done) : theft (started s) = .wiping ∧ (started s).wipe.activity = .rootWait ∧
    (started s).wipe.abandon = false ∧ Carried journalPage (started s) ∧
    (started s).w.plan = freshPlan .theft (theftPasses s) .root := by
  obtain ⟨theft', idle, plan, root, passes, -⟩ := wipingBase later fresh wiping
  have idle' : (startBase s).wipe.activity = .idle := by rw [idle]; rfl
  have done' : (startBase s).w.plan.phase = .done := by rw [plan]; exact done
  rw [started_meters later fresh down wiping, resumeStep_fresh theft' idle' done']
  have frame := resumeFresh_resumes (s := startBase s).frame
  have carried : Carried journalPage (resumeFresh (startBase s)) := carried_queuePage_same _ _ _
  rw [passes] at frame
  generalize resumeFresh (startBase s) = u at *
  refine ⟨?_, ?_, ?_, carried.keep rfl rfl, ?_⟩
  · show u.w.watch.theft = _
    rw [frame]
    exact theft'
  · show u.wipe.activity = _
    rw [frame]
  · show u.wipe.abandon = _
    rw [frame]
  · show u.w.plan = _
    rw [frame]

theorem started_rootless (phase : s.w.plan.phase ≠ .done) (root : s.w.root = none)
    (journal : s.w.plan.phase = .rebuild → Carried journalPage (startBase s)) : theft (started s) = .wiping ∧
    (started s).wipe.activity = .rebuildWait ∧ (started s).wipe.rootNeeds = true ∧
    (started s).w.plan = { s.w.plan with phase := .rebuild } ∧ Carried journalPage (started s) ∧
    (started s).wipe.abandon = abandons s.w.plan := by
  obtain ⟨theft', idle, plan, root', -, -⟩ := wipingBase later fresh wiping
  have idle' : (startBase s).wipe.activity = .idle := by rw [idle]; rfl
  rw [started_meters later fresh down wiping, resumeStep_rootless theft' idle' (by rw [plan]; exact phase) (root'.trans root)]
  have frame := resumeRootLost_resumes (s := startBase s).frame
  have carried := carried_resumeRootLost (s := startBase s) (by rw [plan]; exact journal)
  rw [plan] at frame
  generalize resumeRootLost (startBase s) = u at *
  refine ⟨?_, ?_, ?_, ?_, carried.keep rfl rfl, ?_⟩
  · show u.w.watch.theft = _
    rw [frame]
    exact theft'
  · show u.wipe.activity = _
    rw [frame]
  · show u.wipe.rootNeeds = _
    rw [frame]
  · show u.w.plan = _
    rw [frame]
  · show u.wipe.abandon = _
    rw [frame]

/-- A resumption of a wipe that keeps its root secret, as the meters start. -/
theorem started_phase {r : Secret} (phase : s.w.plan.phase ≠ .done) (root : s.w.root = some r) :
    (s.w.plan.phase = .root → started s = startMeters (resumeRoot (startBase s))) ∧
      (s.w.plan.phase = .rebuild → started s = startMeters (resumeRebuild (startBase s))) ∧
      (s.w.plan.phase = .scrub → started s = startMeters (resumeScrub (startBase s))) := by
  obtain ⟨theft', idle, plan, root', -, -⟩ := wipingBase later fresh wiping
  have idle' : (startBase s).wipe.activity = .idle := by rw [idle]; rfl
  obtain ⟨atRoot, atRebuild, atScrub⟩ := resumeStep_phase theft' idle' (by rw [plan]; exact phase) (root'.trans root)
  rw [plan] at atRoot atRebuild atScrub
  have meters := started_meters later fresh down wiping
  refine ⟨fun at' => ?_, fun at' => ?_, fun at' => ?_⟩
  · rw [meters, atRoot at']
  · rw [meters, atRebuild at']
  · rw [meters, atScrub at']

theorem started_root {r : Secret} (root : s.w.root = some r) (phase : s.w.plan.phase = .root) : theft (started s) = .wiping ∧
    (started s).wipe.activity = .rootWait ∧ (started s).w.plan = s.w.plan ∧
    (started s).wipe.abandon = abandons s.w.plan := by
  obtain ⟨theft', -, plan, -, -, -⟩ := wipingBase later fresh wiping
  obtain ⟨atRoot, -, -⟩ := started_phase later fresh down wiping (by simp [phase]) root
  have frame := resumeRoot_resumes (s := startBase s).frame
  rw [plan] at frame
  rw [atRoot phase]
  generalize resumeRoot (startBase s) = u at *
  refine ⟨?_, ?_, ?_, ?_⟩
  · show u.w.watch.theft = _
    rw [frame]
    exact theft'
  · show u.wipe.activity = _
    rw [frame]
  · show u.w.plan = _
    rw [frame]
  · show u.wipe.abandon = _
    rw [frame]

theorem started_rebuild {r : Secret} (root : s.w.root = some r) (phase : s.w.plan.phase = .rebuild) :
    theft (started s) = .wiping ∧ (started s).wipe.activity = .rebuildWait ∧ (started s).w.plan = s.w.plan ∧
    (started s).wipe.abandon = abandons s.w.plan := by
  obtain ⟨theft', -, plan, -, -, -⟩ := wipingBase later fresh wiping
  obtain ⟨-, atRebuild, -⟩ := started_phase later fresh down wiping (by simp [phase]) root
  rw [atRebuild phase]
  refine ⟨theft', rfl, plan, ?_⟩
  show abandons (startBase s).w.plan = _
  rw [plan]

theorem started_scrub {r : Secret} (root : s.w.root = some r) (phase : s.w.plan.phase = .scrub)
    (other : s.w.plan.cause ≠ some .owner) : theft (started s) = .wiping ∧ (started s).wipe.activity = .passWait ∧
    (started s).w.plan = s.w.plan := by
  obtain ⟨theft', -, plan, -, -, -⟩ := wipingBase later fresh wiping
  obtain ⟨-, -, atScrub⟩ := started_phase later fresh down wiping (by simp [phase]) root
  rw [atScrub phase, resumeScrub_goes (by rw [plan]; exact other)]
  exact ⟨theft', rfl, plan⟩

theorem started_renamed {r : Secret} (root : s.w.root = some r) (phase : s.w.plan.phase = .scrub)
    (owner : s.w.plan.cause = some .owner) (passes : s.w.plan.passes = .continuous) : theft (started s) = .wiping ∧
    (started s).wipe.activity = .passWait ∧ Carried journalPage (started s) ∧
    (started s).w.plan = { s.w.plan with pass := 1, watermark := 0, written := 0, refused := 0 } := by
  obtain ⟨theft', -, plan, -, -, -⟩ := wipingBase later fresh wiping
  obtain ⟨-, -, atScrub⟩ := started_phase later fresh down wiping (by simp [phase]) root
  have kept : abandons s.w.plan = false := Bool.eq_false_iff.mpr fun h => by
    obtain ⟨-, m, -, times⟩ := abandons_iff.mp h
    exact absurd (passes.symm.trans times) Passes.noConfusion
  rw [atScrub phase, resumeScrub_renames (by rw [plan]; exact kept) (by rw [plan]; exact owner)]
  have frame := (namePass_resumes (s := startBase s) 1).frame
  have carried : Carried journalPage (namePass 1 (startBase s)) := carried_queuePage_same _ _ _
  rw [plan] at frame
  generalize namePass 1 (startBase s) = u at *
  refine ⟨?_, ?_, carried.keep rfl rfl, ?_⟩
  · show u.w.watch.theft = _
    rw [frame]
    exact theft'
  · show u.wipe.activity = _
    rw [frame]
  · show u.w.plan = _
    rw [frame, ← phase]

theorem started_abandons {r : Secret} {m : Fin 4} (root : s.w.root = some r) (phase : s.w.plan.phase = .scrub)
    (owner : s.w.plan.cause = some .owner) (some' : m ≠ 0) (passes : s.w.plan.passes = .times m) :
    theft (started s) = .wiped ∧ (started s).wipe.activity = .doneWait ∧
    (started s).wipe.ring.get 0 = some
      { cause := some .owner, pass := if s.w.plan.pass = 0 then 1 else s.w.plan.pass, written := s.w.plan.written,
        refused := s.w.plan.refused, ended := .abandoned, unread := true, overrun := false } := by
  obtain ⟨-, idle, plan, -, -, -⟩ := wipingBase later fresh wiping
  obtain ⟨-, -, atScrub⟩ := started_phase later fresh down wiping (by simp [phase]) root
  have abandon : abandons (startBase s).w.plan = true := by
    rw [plan]
    exact abandons_iff.mpr ⟨owner, m, some', passes⟩
  rw [atScrub phase, resumeScrub_abandons abandon]
  have frame := abandonScrub_frame (s := startBase s)
  obtain ⟨-, -, ring⟩ := storeResult_stores (s := startBase s) .abandoned
    (if (startBase s).w.plan.pass = 0 then 1 else (startBase s).w.plan.pass) (startBase s).w.plan.written
    (startBase s).w.plan.refused
  have first := ring 0
  have next : (startBase s).wipe.ringNext = 0 := by rw [idle]; rfl
  have empty : (startBase s).wipe.ring.get 0 = none := by rw [idle]; exact Vector.getElem_replicate _
  rw [if_pos next.symm, empty, plan, owner] at first
  rw [plan] at frame
  generalize abandonScrub (startBase s) = u at *
  refine ⟨?_, ?_, ?_⟩
  · show u.w.watch.theft = _
    rw [frame]
    rfl
  · show u.wipe.activity = _
    rw [frame]
  · show u.wipe.ring.get 0 = _
    rw [frame]
    exact first

end

end

/-! # The pages that start-up loads -/

/-! ## The pages that start-up loads (R23, R96, R164, R166) -/

section

variable {s t : State} {i : Identity} {b : BandId} {p : PageId} {x y z : Stored}

/-- The part with the pages of a store that is not blank. -/
def lateLoad (i : Identity) (s : State) : State :=
  { s with w := loadWorking i s.ks.pages,
           startup := { restored := .dormant, lost := lostPages s.ks.pages, torn := tornPages s.ks.pages,
                        firstStart := false } }

theorem loadStep_late {n : PageId} (other : n ≠ 0) (written : s.ks.pages.get n ≠ .blank) : loadStep i s = lateLoad i s := by
  have some' : ¬allBlank s.ks.pages = true := fun blank => written ((allBlank_iff _).mp blank n other)
  exact if_neg some'

theorem mem_lostPages (ps : Vector Stored 53) : p ∈ lostPages ps ↔ p ≠ 0 ∧ intact (ps.get p) = none := by
  unfold lostPages isIntact
  rw [List.mem_filter, Bool.not_eq_true', Option.isSome_eq_false_iff, Option.isNone_iff_eq_none]
  exact and_congr_left fun _ => ⟨laterPages_ne, mem_laterPages⟩

theorem loadRoot_of (none' : ∀ r, x ≠ .intact (.root r)) : loadRoot x = none := by
  cases x with
  | intact c => cases c with
    | root r => exact absurd rfl (none' r)
    | _ => rfl
  | _ => rfl

theorem loadWatch_of (none' : ∀ w, x ≠ .intact (.watch w)) : loadWatch x y = lostWatch y := by
  cases x with
  | intact c => cases c with
    | watch w => exact absurd rfl (none' w)
    | _ => rfl
  | _ => rfl

theorem journalNames_iff : journalNames x = true ↔ ∃ q, x = .intact (.journal q) ∧ q.phase ≠ .done := by
  cases x with
  | intact c => cases c with
    | journal q =>
      refine ⟨fun named => ⟨q, rfl, of_decide_eq_true named⟩, ?_⟩
      rintro ⟨q', same, phase⟩
      cases same
      exact decide_eq_true phase
    | _ => exact ⟨fun named => absurd named Bool.false_ne_true, fun ⟨q, same, _⟩ => by cases same⟩
  | _ => exact ⟨fun named => absurd named Bool.false_ne_true, fun ⟨q, same, _⟩ => by cases same⟩

theorem loadPlan_done (unnamed : journalNames x = false) : (loadPlan x).phase = .done := by
  cases x with
  | intact c => cases c with
    | journal q => exact not_not.mp fun phase => absurd (decide_eq_true phase) (by
        show ¬decide (q.phase ≠ .done) = true
        exact (Bool.not_eq_true _).mpr unnamed)
    | _ => rfl
  | _ => rfl

theorem loadSecret_isSome : (loadSecret x).isSome = true ↔ ∃ k, x = .intact (.secret k) := by
  cases x with
  | intact c => cases c with
    | secret k => exact ⟨fun _ => ⟨k, rfl⟩, fun _ => rfl⟩
    | _ => exact ⟨fun has => absurd has Bool.false_ne_true, fun ⟨k, same⟩ => by cases same⟩
  | _ => exact ⟨fun has => absurd has Bool.false_ne_true, fun ⟨k, same⟩ => by cases same⟩

/-! ## The part behind a line reset -/

/-- The part as the line is released, its pages loaded. -/
def reloaded (i : Identity) (a g : Bool) (s : State) : State := lateLoad i (released a g s)

theorem reloaded_plan (a g : Bool) : (reloaded i a g s).w.plan = loadPlan (s.ks.pages.get journalPage) := rfl

theorem reloaded_watch (a g : Bool) : (reloaded i a g s).w.watch =
    loadWatch (s.ks.pages.get watchPage) (s.ks.pages.get journalPage) := rfl

theorem reloaded_root (a g : Bool) : (reloaded i a g s).w.root = loadRoot (s.ks.pages.get rootPage) := rfl

/-- What a start-up behind a line reset goes by. -/
structure Reloads (s l : State) : Prop where
  later : l.startup.firstStart = false
  wipe : l.wipe = WipeEngine.powerOn
  down : linkUp l = false
  orders : noOrders (startBase l) = true
  writer : l.ks.writer = none

theorem reloads (a g : Bool) (reset : s.mode = .resetHeld) (writer : s.ks.writer = none) (scrub : ScrubInWiping s) :
    Reloads s (reloaded i a g s) := by
  obtain ⟨-, -, -, unloaded⟩ := scrub
  obtain ⟨wipe, -⟩ := unloaded (by unfold counting; rw [reset]; rfl)
  have later : (reloaded i a g s).startup.firstStart = false := rfl
  refine ⟨later, wipe, rfl, ?_, writer⟩
  have orders : (startBase (reloaded i a g s)).wipe.orders = Vector.replicate 4 none := by
    rw [startBase_wipe later]
    unfold lossWipe
    split
    · rfl
    · show s.wipe.orders = _
      rw [wipe]
      rfl
  unfold noOrders
  rw [orders]
  rfl

theorem mem_dataPages (zero : p ≠ 0) (root : p ≠ rootPage) : p ∈ dataPages := by
  have bound := p.isLt
  have zero' : p.val ≠ 0 := fun h => zero (Fin.ext h)
  have root' : p.val ≠ 1 := fun h => root (Fin.ext h)
  unfold dataPages
  refine List.mem_map.mpr ⟨p.val - 2, List.mem_range.mpr (by omega), ?_⟩
  have same : p.val - 2 + 2 = p.val := by omega
  rw [same]
  exact Fin.ext (Nat.mod_eq_of_lt bound)

/-- A lost page, but for the journal of a wipe, is among those that start-up writes again. -/
theorem mem_rewrites (zero : p ≠ 0) (root : p ≠ rootPage) (lost : p ∈ s.startup.lost)
    (kept : p ≠ journalPage ∨ theft s ≠ .wiping) : p ∈ rewrites s := by
  unfold rewrites
  rw [List.mem_filter]
  refine ⟨mem_dataPages zero root, ?_⟩
  have journal : (decide (p = journalPage) && decide (theft s = .wiping)) = false := by
    rcases kept with other | other
    · rw [decide_eq_false other]
      rfl
    · rw [decide_eq_false other, Bool.and_false]
  rw [journal, Bool.or_eq_true, Bool.and_eq_true]
  exact .inl ⟨List.contains_iff_mem.mpr lost, rfl⟩

end

/-! # The line is released with a store that is not blank -/

/-! ## RESETN_RELEASE with a store that is not blank (R179 to R182) -/

section

variable {s l d : State} {i : Identity} {p : PageId}

theorem lossWatch_kept (kept : rootLoss l = false) : lossWatch l = l.w.watch := if_neg (by simp [kept])

theorem rootLoss_iff (later : l.startup.firstStart = false) : rootLoss l = true ↔ l.w.root = none ∧ theft l ≠ .wiping := by
  unfold rootLoss
  rw [later]
  simp

/-- In WIPING a lost journal is queued. -/
theorem journal_requeued {a g : Bool} (r : Reloads s (reloaded i a g s)) (wiping : (lossWatch (reloaded i a g s)).theft = .wiping)
    (lost : intact (s.ks.pages.get journalPage) = none) : Carried journalPage (started (reloaded i a g s)) := by
  cases root : rootLoss (reloaded i a g s) with
  | true =>
    obtain ⟨-, -, -, -, -, carried⟩ := rootless_starts r.later r.down root
    exact carried
  | false =>
    have theft' : theft (reloaded i a g s) = .wiping := by
      rw [lossWatch_kept root] at wiping
      exact wiping
    have done : (reloaded i a g s).w.plan.phase = .done := by
      rw [reloaded_plan]
      refine loadPlan_done (Bool.eq_false_iff.mpr fun named => ?_)
      obtain ⟨q, page, -⟩ := journalNames_iff.mp named
      rw [page] at lost
      exact absurd lost (Option.some_ne_none _)
    obtain ⟨-, -, -, carried, -⟩ := started_fresh r.later r.wipe r.down theft' done
    exact carried

/-- Every lost page that has a content is queued. -/
theorem lost_listed {a g : Bool} (r : Reloads s (reloaded i a g s)) (mem : p ∈ lostPages s.ks.pages) (root : p ≠ rootPage)
    (some' : p.val < 21 ∨ 37 ≤ p.val) :
    onList ((started (reloaded i a g s)).ks.queue ++ (started (reloaded i a g s)).ks.room) p = true := by
  obtain ⟨zero, lost⟩ := (mem_lostPages _).mp mem
  have starts := started_startsUp r.later r.orders r.down
  obtain ⟨before, queued⟩ := startBase_queues r.later
  have stale : reference (reloaded i a g s) p = none := (reference_idle r.writer).trans lost
  by_cases own : p = journalPage ∧ (lossWatch (reloaded i a g s)).theft = .wiping
  · obtain ⟨rfl, wiping⟩ := own
    refine (journal_requeued r wiping lost).listed ?_ (pageOf_full root some')
    exact ((before.trans starts.queues).reference _).trans stale
  · refine starts.queues.listed p (queued p ?_ stale (pageOf_full root some'))
    refine mem_rewrites zero root mem ?_
    by_cases journal : p = journalPage
    · exact .inr fun wiping => own ⟨journal, wiping⟩
    · exact .inl journal

/-- The slots as start-up loads them. -/
theorem loaded_slot {a g : Bool} (w : d.w = { (reloaded i a g s).w with watch := d.w.watch, plan := d.w.plan }) (k : SlotId) :
    count d k = loadCount (loadCred k (s.ks.pages.get (credPage k))).hard (s.ks.pages.get (attemptPage k)) ∧
      cred d k = limitCred k (count d k) (loadCred k (s.ks.pages.get (credPage k))) := by
  have counts : d.w.counts = (loadWorking i s.ks.pages).counts := by rw [w]; rfl
  have creds : d.w.creds = (loadWorking i s.ks.pages).creds := by rw [w]; rfl
  have count' : count d k = loadCount (loadCred k (s.ks.pages.get (credPage k))).hard (s.ks.pages.get (attemptPage k)) := by
    rw [count, counts]
    exact get_tab8 _ k
  refine ⟨count', ?_⟩
  rw [count', cred, creds]
  exact get_tab8 _ k

theorem limitCred_eq (k : SlotId) (n : Nat) (c : Credential) :
    limitCred k n c = if k ≠ 0 ∧ n = c.hard then { c with state := .disabled } else c := by
  unfold limitCred
  exact if_congr (by simp) rfl rfl

/-! ### The watch -/

/-- With no indicator asserted the watch goes on as restored. -/
theorem watch_goes_on (r : Reloads s l) (starts : StartsUp l (started l)) (rest : (lossWatch l).theft ≠ .wiping)
    (lost : restoredTether l = false) (latch : restoredLatch l = false)
    (limits : ∀ q : Policy, (started l).w.watch.policy = some q →
      restoredCounter (startBase l) < watchPeriod q.periodIndex ∧ failureSum (started l) < q.budget) :
    theft (started l) = (lossWatch l).theft ∧ (started l).w.watch = (startBase l).w.watch ∧
      (started l).twu.grace = restoredGrace (startBase l) ∧ (started l).twu.counter = restoredCounter (startBase l) := by
  have base := startBase_w r.later
  have policy : (started l).w.watch.policy = (startBase l).w.watch.policy := by
    rw [starts.policy, base]
    exact (lossWatch_policy l).symm
  have sum : failureSum (started l) = failureSum (startBase l) :=
    failureSum_congr (by rw [starts.w, base]) (by rw [starts.w, base])
  have counter : (startBase l).twu.counter = restoredCounter (startBase l) := by rw [startBase_twu r.later]
  have theft' := theft_startBase r.later
  obtain ⟨watch, grace, counter'⟩ := started_quiet r.later (by rw [theft']; exact rest) lost latch (fun q at' => by
    rw [counter, ← sum]
    exact limits q (policy.trans at'))
  refine ⟨?_, watch, grace, counter'⟩
  rw [← theft', theft, watch]
  rfl

theorem restoredGrace_held {h : HeldItems} (held : s.held = some h) : restoredGrace s =
    if theft s = .suspect then (if h.inSuspect then h.grace else s.w.watch.graceSeconds * 1024) else 0 := by
  unfold restoredGrace
  rw [held]
  rfl

theorem restoredGrace_unheld (held : s.held = none) : restoredGrace s =
    if theft s = .suspect then s.w.watch.graceSeconds * 1024 else 0 := by
  unfold restoredGrace
  rw [held]
  rfl

theorem restoredCounter_held {h : HeldItems} (held : s.held = some h) : restoredCounter s =
    if theft s = .armed ∨ theft s = .suspect then h.counter else 0 := by
  unfold restoredCounter watched
  rw [held]
  exact if_congr (by simp) rfl rfl

/-- The watch behind a line reset that held its items. -/
theorem watch_held {h : HeldItems} (r : Reloads s l) (starts : StartsUp l (started l)) (held : l.held = some h) :
    (started l).w.watch.latch = h.latch ∧ (started l).twu.tetherLost = h.tetherLost ∧
      ((lossWatch l).theft ≠ .wiping → h.tetherLost = false → h.latch = false →
        (∀ q : Policy, (started l).w.watch.policy = some q →
          h.counter < watchPeriod q.periodIndex ∧ failureSum (started l) < q.budget) →
        theft (started l) = (lossWatch l).theft ∧
        (started l).twu.grace = (if theft (started l) = .suspect then
          (if h.inSuspect then h.grace else (started l).w.watch.graceSeconds * 1024) else 0) ∧
        (started l).twu.counter = if theft (started l) = .armed ∨ theft (started l) = .suspect then h.counter else 0) := by
  have latch : restoredLatch l = h.latch := by
    unfold restoredLatch
    rw [held]
  have tether : restoredTether l = h.tetherLost := by
    unfold restoredTether
    rw [held]
  have held' : (startBase l).held = some h := (startBase_same r.later).2.2.1.trans held
  refine ⟨starts.latch.trans latch, starts.lost.trans tether, fun rest lost clear limits => ?_⟩
  have counter := restoredCounter_held held'
  obtain ⟨theft', watch, grace, counter'⟩ := watch_goes_on r starts rest (tether.trans lost) (latch.trans clear)
    (fun q at' => by
      obtain ⟨below, budget⟩ := limits q at'
      refine ⟨lt_of_le_of_lt ?_ below, budget⟩
      rw [counter]
      split
      · exact le_refl _
      · exact Nat.zero_le _)
  have same : theft (started l) = theft (startBase l) := theft'.trans (theft_startBase r.later).symm
  refine ⟨theft', ?_, ?_⟩
  · rw [grace, restoredGrace_held held', watch, same]
  · rw [counter', counter, same]

/-- The watch behind a power-on. -/
theorem watch_unheld (r : Reloads s l) (starts : StartsUp l (started l)) (held : l.held = none) :
    (started l).twu.tetherLost = false ∧ (started l).twu.counter = 0 ∧
      ((lossWatch l).theft ≠ .wiping → (started l).w.watch.latch = false →
        (∀ q : Policy, (started l).w.watch.policy = some q → failureSum (started l) < q.budget) →
        theft (started l) = (lossWatch l).theft ∧
        (started l).twu.grace =
          if theft (started l) = .suspect then (started l).w.watch.graceSeconds * 1024 else 0) := by
  have tether : restoredTether l = false := by
    unfold restoredTether
    rw [held]
  have held' : (startBase l).held = none := (startBase_same r.later).2.2.1.trans held
  refine ⟨starts.lost.trans tether, starts.counter held, fun rest clear limits => ?_⟩
  obtain ⟨theft', watch, grace, -⟩ := watch_goes_on r starts rest tether (starts.latch.symm.trans clear) (fun q at' => by
    rw [restoredCounter_unheld held']
    exact ⟨watchPeriod_pos _, limits q at'⟩)
  have same : theft (started l) = theft (startBase l) := theft'.trans (theft_startBase r.later).symm
  refine ⟨theft', ?_⟩
  rw [grace, restoredGrace_unheld held', watch, same]

end

/-! # The watch page, the journal and the root page of a start-up -/

/-! ## The watch page, the journal and the root page of a start-up (R117, R153, R154, R166) -/

section

variable {s l : State} {i : Identity} {a g : Bool} {w : Watch} {q : Plan}

theorem watch_found (page : s.ks.pages.get watchPage = .intact (.watch w)) : (reloaded i a g s).w.watch = w := by
  rw [reloaded_watch, page]
  rfl

theorem watch_lost (none' : ∀ w, s.ks.pages.get watchPage ≠ .intact (.watch w)) :
    (reloaded i a g s).w.watch = lostWatch (s.ks.pages.get journalPage) := by
  rw [reloaded_watch]
  exact loadWatch_of none'

theorem plan_found (page : s.ks.pages.get journalPage = .intact (.journal q)) : (reloaded i a g s).w.plan = q := by
  rw [reloaded_plan, page]
  rfl

theorem root_found {r : Secret} (page : s.ks.pages.get rootPage = .intact (.root r)) : (reloaded i a g s).w.root = some r := by
  rw [reloaded_root, page]
  rfl

theorem root_lost (none' : ∀ r, s.ks.pages.get rootPage ≠ .intact (.root r)) : (reloaded i a g s).w.root = none := by
  rw [reloaded_root]
  exact loadRoot_of none'

theorem lostWatch_theft (x : Stored) : (lostWatch x).theft = if journalNames x then .wiping else .alarm := rfl

/-- The watch page is found: its policy and latch stand. -/
theorem policy_found (starts : StartsUp (reloaded i a g s) (started (reloaded i a g s)))
    (page : s.ks.pages.get watchPage = .intact (.watch w)) :
    (started (reloaded i a g s)).w.watch.policy = w.policy ∧
      (s.held = none → (started (reloaded i a g s)).w.watch.latch = w.latch) := by
  have found := watch_found (i := i) (a := a) (g := g) page
  refine ⟨starts.policy.trans (by rw [found]), fun held => starts.latch.trans ?_⟩
  have held' : (reloaded i a g s).held = none := held
  unfold restoredLatch
  rw [held', found]

/-- The resumption of a wipe names no cause of SUSPECT. -/
theorem resumeStep_cause (down : linkUp l = false) (standing : Standing l) (none' : l.w.watch.cause = none) :
    (resumeStep l).w.watch.cause = none := by
  by_cases wiping : theft l = .wiping
  · rcases (resumeStep_recovers standing wiping down).watch with same | wiped
    · rw [same]
      exact none'
    · rw [wiped]
      rfl
  · obtain ⟨p, frame, -⟩ := resumeStep_other wiping
    rw [frame]
    exact none'

theorem lossWatch_cause (none' : l.w.watch.cause = none) : (lossWatch l).cause = none := by
  unfold lossWatch
  split
  · rfl
  · exact none'

/-- The watch page is lost: no policy, no cause and no latch are left. -/
theorem policy_lost (r : Reloads s (reloaded i a g s)) (starts : StartsUp (reloaded i a g s) (started (reloaded i a g s)))
    (none' : ∀ w, s.ks.pages.get watchPage ≠ .intact (.watch w)) :
    (started (reloaded i a g s)).w.watch.policy = none ∧ (started (reloaded i a g s)).w.watch.cause = none ∧
      (s.held = none → (started (reloaded i a g s)).w.watch.latch = false) ∧
      (journalNames (s.ks.pages.get journalPage) = true → (lossWatch (reloaded i a g s)).theft = .wiping) := by
  have lost := watch_lost (i := i) (a := a) (g := g) none'
  have policy : (started (reloaded i a g s)).w.watch.policy = none := starts.policy.trans (by rw [lost]; rfl)
  refine ⟨policy, ?_, fun held => starts.latch.trans ?_, fun named => ?_⟩
  · have base : (startBase (reloaded i a g s)).w.watch.cause = none := by
      rw [startBase_w r.later]
      exact lossWatch_cause (by rw [lost]; rfl)
    have down : linkUp (startBase (reloaded i a g s)) = false := (linkUp_congr (startBase_same r.later).1).trans r.down
    have cause := resumeStep_cause down startBase_standing base
    have policy' : (resumeStep (startBase (reloaded i a g s))).w.watch.policy = none := by
      have reacts := (meterStep_reacts (s := resumeStep (startBase (reloaded i a g s))) ?_).watch.policy
      · exact reacts.symm.trans policy
      · by_cases wiping : theft (startBase (reloaded i a g s)) = .wiping
        · exact (resumeStep_recovers startBase_standing wiping down).onward.orders.trans r.orders
        · obtain ⟨p, resumes⟩ := resumeStep_other wiping
          exact (resumes.onward rfl).orders.trans r.orders
    show (meterStep (resumeStep (startBase (reloaded i a g s)))).w.watch.cause = none
    rw [meterStep_unguarded policy']
    exact cause
  · have held' : (reloaded i a g s).held = none := held
    unfold restoredLatch
    rw [held', lost]
    rfl
  · unfold lossWatch
    split
    · rfl
    · rw [lost, lostWatch_theft, if_pos named]

/-- The root page is found: no wipe begins. -/
theorem root_kept {r : Secret} (starts : StartsUp (reloaded i a g s) (started (reloaded i a g s)))
    (page : s.ks.pages.get rootPage = .intact (.root r)) :
    (started (reloaded i a g s)).w.root = some r ∧
      (∀ w, s.ks.pages.get watchPage = .intact (.watch w) → (lossWatch (reloaded i a g s)).theft = w.theft) ∧
      ((∀ w, s.ks.pages.get watchPage ≠ .intact (.watch w)) → journalNames (s.ks.pages.get journalPage) = false →
        (lossWatch (reloaded i a g s)).theft = .alarm) := by
  have found := root_found (i := i) (a := a) (g := g) page
  have kept : rootLoss (reloaded i a g s) = false := by
    unfold rootLoss
    rw [found]
    rfl
  refine ⟨?_, fun w watch => ?_, fun none' unnamed => ?_⟩
  · rw [starts.w]
    exact found
  · rw [lossWatch_kept kept, watch_found watch]
  · rw [lossWatch_kept kept, watch_lost none', lostWatch_theft, if_neg (by simp [unnamed])]

/-- The root page is lost outside WIPING: a wipe begins. -/
theorem root_gone (r : Reloads s (reloaded i a g s)) (none' : ∀ r, s.ks.pages.get rootPage ≠ .intact (.root r))
    (rest : (∃ w, s.ks.pages.get watchPage = .intact (.watch w) ∧ w.theft ≠ .wiping) ∨
      ((∀ w, s.ks.pages.get watchPage ≠ .intact (.watch w)) ∧ journalNames (s.ks.pages.get journalPage) = false)) :
    (lossWatch (reloaded i a g s)).theft = .wiping ∧ theft (started (reloaded i a g s)) = .wiping ∧
      (started (reloaded i a g s)).wipe = rootlessWipe (reloaded i a g s) ∧
      (started (reloaded i a g s)).w.plan = freshPlan .storeLoss (.times 0) .rebuild ∧
      Carried watchPage (started (reloaded i a g s)) ∧ Carried journalPage (started (reloaded i a g s)) := by
  have other : theft (reloaded i a g s) ≠ .wiping := by
    unfold theft
    rcases rest with ⟨w, page, other⟩ | ⟨none'', unnamed⟩
    · rw [watch_found page]
      exact other
    · rw [watch_lost none'', lostWatch_theft, if_neg (by simp [unnamed])]
      exact Theft.noConfusion
  exact rootless_starts r.later r.down ((rootLoss_iff r.later).mpr ⟨root_lost none', other⟩)

/-- The scrub passes of a wipe that a watch page's policy gives. -/
def policyPasses (w : Watch) : Passes :=
  match w.policy with
  | some p => .times p.passes
  | none => .times 0

theorem theftPasses_eq (l : State) : theftPasses l = policyPasses l.w.watch := by
  unfold theftPasses policyPasses
  cases l.w.watch.policy <;> rfl

/-- WIPING with a journal that names no phase: a fresh plan. -/
theorem journal_unusable (r : Reloads s (reloaded i a g s)) (page : s.ks.pages.get watchPage = .intact (.watch w))
    (wiping : w.theft = .wiping) (unnamed : journalNames (s.ks.pages.get journalPage) = false) :
    theft (started (reloaded i a g s)) = .wiping ∧ (started (reloaded i a g s)).wipe.activity = .rootWait ∧
      (started (reloaded i a g s)).wipe.abandon = false ∧ Carried journalPage (started (reloaded i a g s)) ∧
      (started (reloaded i a g s)).w.plan = freshPlan .theft (policyPasses w) .root := by
  have found := watch_found (i := i) (a := a) (g := g) page
  have theft' : theft (reloaded i a g s) = .wiping := by
    unfold theft
    rw [found]
    exact wiping
  have fresh := started_fresh r.later r.wipe r.down theft' (loadPlan_done unnamed)
  rw [theftPasses_eq, found] at fresh
  exact fresh

/-- The watch page carries WIPING, or is lost beside a journal that names a phase. -/
theorem wiping_found (rest : (∃ w, s.ks.pages.get watchPage = .intact (.watch w) ∧ w.theft = .wiping) ∨
      (∀ w, s.ks.pages.get watchPage ≠ .intact (.watch w)))
    (page : s.ks.pages.get journalPage = .intact (.journal q)) (phase : q.phase ≠ .done) :
    theft (reloaded i a g s) = .wiping := by
  unfold theft
  rcases rest with ⟨w, found, wiping⟩ | none'
  · rw [watch_found found]
    exact wiping
  · rw [watch_lost none', lostWatch_theft, if_pos (journalNames_iff.mpr ⟨q, page, phase⟩)]

/-- A journal found in the store is carried. -/
theorem journal_carried (r : Reloads s (reloaded i a g s)) (wiping : theft (reloaded i a g s) = .wiping)
    (page : s.ks.pages.get journalPage = .intact (.journal q)) : Carried journalPage (startBase (reloaded i a g s)) := by
  obtain ⟨queues, -⟩ := startBase_queues r.later
  have plan := (wipingBase r.later r.wipe wiping).plan
  refine .inr ?_
  have stored : reference (startBase (reloaded i a g s)) journalPage = some (.journal q) := by
    rw [queues.reference, reference_idle r.writer]
    show intact (s.ks.pages.get journalPage) = _
    rw [page]
    rfl
  have content' : pageOf (startBase (reloaded i a g s)) journalPage =
      some (.journal (startBase (reloaded i a g s)).w.plan) := rfl
  rw [stored, content', plan, plan_found page]

end

/-! # The part behind a line reset -/

section

variable {s l d x : State} {i : Identity} {a g : Bool} {q : Plan}

/-! ## A wipe behind a line reset -/

/-- A wipe whose journal names a phase is resumed by its journal and cause (R153, R154). -/
structure ResumedBy (q : Plan) (s x : State) : Prop where
  rootless : (∀ r, s.ks.pages.get rootPage ≠ .intact (.root r)) → theft x = .wiping ∧ x.wipe.activity = .rebuildWait ∧
    x.wipe.rootNeeds = true ∧ x.w.plan = { q with phase := .rebuild } ∧ Carried journalPage x ∧
    (x.wipe.abandon = true ↔ q.cause = some .owner ∧ ∃ m : Fin 4, m ≠ 0 ∧ q.passes = .times m)
  rooted : ∀ r, s.ks.pages.get rootPage = .intact (.root r) →
    (q.phase = .root ∨ q.phase = .rebuild →
      (x.wipe.abandon = true ↔ q.cause = some .owner ∧ ∃ m : Fin 4, m ≠ 0 ∧ q.passes = .times m)) ∧
    (q.phase = .root → theft x = .wiping ∧ x.wipe.activity = .rootWait ∧ x.w.plan = q) ∧
    (q.phase = .rebuild → theft x = .wiping ∧ x.wipe.activity = .rebuildWait ∧ x.w.plan = q) ∧
    (q.phase = .scrub → q.cause ≠ some .owner → theft x = .wiping ∧ x.wipe.activity = .passWait ∧ x.w.plan = q) ∧
    (q.phase = .scrub → q.cause = some .owner → q.passes = .continuous →
      theft x = .wiping ∧ x.wipe.activity = .passWait ∧ Carried journalPage x ∧
      x.w.plan = { q with pass := 1, watermark := 0, written := 0, refused := 0 }) ∧
    (q.phase = .scrub → q.cause = some .owner → ∀ m : Fin 4, m ≠ 0 → q.passes = .times m →
      theft x = .wiped ∧ x.wipe.activity = .doneWait ∧
      x.wipe.ring.get 0 = some
        { cause := some .owner, pass := if q.pass = 0 then 1 else q.pass, written := q.written,
          refused := q.refused, ended := .abandoned, unread := true, overrun := false })

theorem wipe_resumed (r : Reloads s (reloaded i a g s)) (wiping : theft (reloaded i a g s) = .wiping)
    (page : s.ks.pages.get journalPage = .intact (.journal q)) (phase : q.phase ≠ .done) :
    ResumedBy q s (started (reloaded i a g s)) := by
  have plan := plan_found (i := i) (a := a) (g := g) page
  have carried := journal_carried r wiping page
  refine ⟨fun none' => ?_, fun k root => ?_⟩
  · obtain ⟨theft', activity, needs, plan', journal, abandon⟩ := started_rootless r.later r.wipe r.down wiping
      (by rw [plan]; exact phase) (root_lost none') (fun _ => carried)
    rw [plan] at plan' abandon
    exact ⟨theft', activity, needs, plan', journal, by rw [abandon]; exact abandons_iff⟩
  · have found := root_found (i := i) (a := a) (g := g) root
    have atRoot := started_root r.later r.wipe r.down wiping found
    have atRebuild := started_rebuild r.later r.wipe r.down wiping found
    have goes := started_scrub r.later r.wipe r.down wiping found
    have renames := started_renamed r.later r.wipe r.down wiping found
    have abandons' (m : Fin 4) := started_abandons (m := m) r.later r.wipe r.down wiping found
    rw [plan] at atRoot atRebuild goes renames abandons'
    refine ⟨fun early => ?_, fun at' => ?_, fun at' => ?_, goes, renames, fun at' owner m some' passes =>
      abandons' m at' owner some' passes⟩
    · rcases early with at' | at'
      · obtain ⟨-, -, -, abandon⟩ := atRoot at'
        rw [abandon]
        exact abandons_iff
      · obtain ⟨-, -, -, abandon⟩ := atRebuild at'
        rw [abandon]
        exact abandons_iff
    · obtain ⟨theft', activity, plan', -⟩ := atRoot at'
      exact ⟨theft', activity, plan'⟩
    · obtain ⟨theft', activity, plan', -⟩ := atRebuild at'
      exact ⟨theft', activity, plan'⟩

/-! ## The tables -/

/-- The bands, the configuration and the slots stand as the pages give them, or have their loss results. -/
structure LoadsTables (s x : State) : Prop where
  records : ∀ b : BandId, record x b = loadBand (s.ks.pages.get (bandPage b))
  config : x.w.config = loadConfig (s.ks.pages.get configPage)
  counts : ∀ k : SlotId, count x k =
    loadCount (loadCred k (s.ks.pages.get (credPage k))).hard (s.ks.pages.get (attemptPage k))
  creds : ∀ k : SlotId, cred x k = limitCred k (count x k) (loadCred k (s.ks.pages.get (credPage k)))
  secrets : ∀ b : BandId, hasSecret x b = true ↔ ∃ z, s.ks.pages.get (secretPage b) = .intact (.secret z)

theorem started_tables (w : d.w = { (reloaded i a g s).w with watch := d.w.watch, plan := d.w.plan }) : LoadsTables s d := by
  have slot := loaded_slot w
  refine ⟨fun b => ?_, ?_, fun k => (slot k).1, fun k => (slot k).2, fun b => ?_⟩
  · rw [record, w]
    exact get_tab16 _ b
  · rw [w]
    rfl
  · have secret : d.w.secrets.get b = loadSecret (s.ks.pages.get (secretPage b)) := by
      rw [w]
      exact get_tab16 _ b
    unfold hasSecret
    rw [secret]
    exact loadSecret_isSome

theorem LoadsTables.slots (h : LoadsTables s x) (k : SlotId) (c : Credential)
    (loaded' : c = loadCred k (s.ks.pages.get (credPage k))) :
    count x k = loadCount c.hard (s.ks.pages.get (attemptPage k)) ∧
      cred x k = if k ≠ 0 ∧ count x k = c.hard then { c with state := .disabled } else c := by
  subst loaded'
  exact ⟨h.counts k, (h.creds k).trans (limitCred_eq k _ _)⟩

/-- The part as RESETN_RELEASE leaves it, before what follows at once. -/
def releasedPart (i : Identity) (a g : Bool) (s : State) : State :=
  { started (reloaded i a g s) with entropyFailed := !g, held := none }

theorem exec_release_late {n : PageId} (reset : s.mode = .resetHeld) (supply : s.supplySeenOk = true)
    (writer : s.ks.writer = none) (identity : s.ks.pages.get 0 = .intact (.identity i)) (other : n ≠ 0)
    (written : s.ks.pages.get n ≠ .blank) :
    exec (.resetnRelease a g) s = .next (settle (releasedPart i a g s)) := by
  have late : loadStep i (released a g s) = reloaded i a g s := loadStep_late other written
  have later : (reloaded i a g s).startup.firstStart = false := rfl
  rw [exec_release a g reset supply writer identity, late, laterSteps_started later]
  rfl

end

/-! # RESETN_RELEASE -/

section

/-- Settles O12. -/
theorem lineResetKeepsBackoffs : Obligations.LineResetKeepsBackoffs := by
  refine ⟨fun a g s h i reset supply writer held identity => release_keeps_backoffs a g reset supply writer held identity,
    fun a g s reset supply writer lost => release_without_identity a g reset supply writer lost,
    fun a g s i n reset supply writer identity other written scrub => ?_⟩
  have run := exec_release_late (a := a) (g := g) reset supply writer identity other written
  have r := reloads (i := i) a g reset writer scrub
  have starts := started_startsUp r.later r.orders r.down
  have tables := started_tables starts.w
  have listed := fun (p : PageId) (mem : p ∈ lostPages s.ks.pages) => lost_listed r mem
  have heldWatch := fun (h : HeldItems) (held : s.held = some h) => watch_held (h := h) r starts held
  have freshWatch := fun (held : s.held = none) => watch_unheld r starts held
  have found := fun (w : Watch) (page : s.ks.pages.get watchPage = .intact (.watch w)) => policy_found starts page
  have watchLost := policy_lost r starts
  have rootKept := fun (z : Secret) (page : s.ks.pages.get rootPage = .intact (.root z)) => root_kept starts page
  have rootGone := root_gone r
  have unusable := fun (w : Watch) (page : s.ks.pages.get watchPage = .intact (.watch w)) => journal_unusable r page
  have resumed := fun rest (q : Plan) (page : s.ks.pages.get journalPage = .intact (.journal q)) phase =>
    wipe_resumed r (wiping_found (i := i) (a := a) (g := g) rest page phase) page phase
  have stays := fun rest (q : Plan) (page : s.ks.pages.get journalPage = .intact (.journal q)) phase =>
    (wipingBase r.later r.wipe (wiping_found (i := i) (a := a) (g := g) rest page phase)).watch
  have restored : (started (reloaded i a g s)).startup.restored = (lossWatch (reloaded i a g s)).theft := by rw [starts.startup]
  have lost : (started (reloaded i a g s)).startup.lost = lostPages s.ks.pages := by rw [starts.startup]; rfl
  obtain ⟨mode, psp, -, -, -, -, -, tetherRun, meterOn, -, -, keys, otherFlags, wipingFlags'⟩ := starts
  have shape : releasedPart i a g s = { started (reloaded i a g s) with entropyFailed := !g, held := none } := rfl
  have rootless : (rootlessWipe (reloaded i a g s)).activity = .rebuildWait ∧ (rootlessWipe (reloaded i a g s)).rootNeeds = true ∧
      (rootlessWipe (reloaded i a g s)).abandon = false := ⟨rfl, rfl, rfl⟩
  rw [← restored] at watchLost otherFlags wipingFlags'
  simp only [← restored] at heldWatch freshWatch rootKept rootGone stays
  generalize rootlessWipe (reloaded i a g s) = fresh at *
  generalize started (reloaded i a g s) = d at *
  rw [shape] at run
  clear shape restored r
  refine ⟨_, run, mode, rfl, psp, fun p => ?_, fun p mem => listed p (lost ▸ mem), fun b => ?_, ?_, fun k c loaded' => ?_, keys,
    fun rest b => ?_, wipingFlags', tables.secrets, tetherRun, meterOn, heldWatch, freshWatch, fun names named => ?_⟩
  · show p ∈ d.startup.lost ↔ _
    rw [lost]
    exact mem_lostPages _
  · refine (tables.records b).trans ?_
    generalize s.ks.pages.get (bandPage b) = y
    cases y with
    | intact c => cases c <;> rfl
    | _ => rfl
  · refine tables.config.trans ?_
    generalize s.ks.pages.get configPage = y
    cases y with
    | intact c => cases c <;> rfl
    | _ => rfl
  · obtain ⟨count', cred'⟩ := tables.slots k c (loaded'.trans (by
      generalize s.ks.pages.get (credPage k) = y
      cases y with
      | intact c => cases c <;> rfl
      | _ => rfl))
    refine ⟨count'.trans ?_, cred'⟩
    generalize s.ks.pages.get (attemptPage k) = y
    cases y with
    | intact c => cases c <;> rfl
    | _ => rfl
  · exact (otherFlags rest b).trans (startFlags_eq d b)
  · have named' := named.trans journalNames_iff.symm
    have unnamed (h : ¬names) : journalNames (s.ks.pages.get journalPage) = false :=
      Bool.eq_false_iff.mpr fun yes => h (named'.mpr yes)
    refine ⟨found, fun none' => ?_, fun z page => ?_, fun none' rest => ?_, fun w page wiping not => ?_,
      fun rest q page phase => ?_⟩
    · obtain ⟨policy, cause, latch, wiping⟩ := watchLost none'
      exact ⟨policy, cause, latch, fun named'' => wiping (named'.mp named'')⟩
    · obtain ⟨root, stands, alarm⟩ := rootKept z page
      exact ⟨root, stands, fun none' not => alarm none' (unnamed not)⟩
    · obtain ⟨wiping, theft', wipe, plan, watch, journal⟩ := rootGone none'
        (rest.imp id fun ⟨none'', not⟩ => ⟨none'', unnamed not⟩)
      obtain ⟨activity, needs, abandon⟩ := rootless
      rw [← wipe] at activity needs abandon
      exact ⟨wiping, theft', activity, needs, plan, abandon, watch.keep rfl rfl, journal.keep rfl rfl⟩
    · obtain ⟨theft', activity, abandon, journal, plan⟩ := unusable w page wiping (unnamed not)
      refine ⟨theft', activity, abandon, journal.keep rfl rfl, plan.trans ?_⟩
      unfold policyPasses
      cases w.policy <;> rfl
    · obtain ⟨gone, kept⟩ := resumed rest q page phase
      refine ⟨stays rest q page phase, fun none' => ?_, kept⟩
      exact gone none'

end

end Sys2Proof.Machine
